-- ==== Sys2Proof/Word.lean ====
section
/-! DEFINITION. Word.lean: bytes, the names the manual gives its fixed sets (00_scope.md, Tables 1-1 to 10-4), and the
arithmetic of section 4.6. -/

namespace Sys2Proof

/-- One byte of a link or field frame. -/
abbrev Byte := BitVec 8

/-- A request's tag (Table 10-5: two bytes). -/
abbrev Tag := BitVec 16

/-- A dish, 1 to 12 (00_scope.md 4.1); dish d is index d - 1. -/
abbrev DishId := Fin 12

/-- A group slot, 1 to 8 (R41); group g is index g - 1. -/
abbrev GroupId := Fin 8

/-- A weather node W1 to W8 (R83); W n is index n - 1. -/
abbrev WeatherId := Fin 8

/-- The twelve dishes in ascending order. -/
def allDishes : List DishId := [0, 1, 2, 3, 4, 5, 6, 7, 8, 9, 10, 11]

/-- The eight group slots in ascending order. -/
def allGroups : List GroupId := [0, 1, 2, 3, 4, 5, 6, 7]

/-- The eight weather nodes in ascending order. -/
def allWeather : List WeatherId := [0, 1, 2, 3, 4, 5, 6, 7]

/-- The two axes of a dish (00_scope.md 4.1). -/
inductive AxisKind where
  | az | el
  deriving DecidableEq, Repr

/-- The two heater zones of a dish (00_scope.md 4.1). -/
inductive ZoneKind where
  | surf | drive
  deriving DecidableEq, Repr

/-- The field lines (R153). -/
inductive Line where
  | a | b
  deriving DecidableEq, Repr

/-- A node of the field lines: a cabinet or a weather node (R153). -/
inductive NodeRef where
  | cab (d : DishId)
  | wx (n : WeatherId)
  deriving DecidableEq, Repr

/-- The 24 axes, in the order of their subjects (Table 10-5). -/
def allAxes : List (DishId × AxisKind) := allDishes.flatMap fun d => [(d, .az), (d, .el)]

/-- The 24 zones, in the order of their subjects (Table 10-5). -/
def allZones : List (DishId × ZoneKind) := allDishes.flatMap fun d => [(d, .surf), (d, .drive)]

/-- One value for each axis of a dish. -/
structure PerAxis (α : Type) where
  az : α
  el : α
  deriving DecidableEq, Repr

/-- The value of one axis. -/
def PerAxis.get {α : Type} (p : PerAxis α) : AxisKind → α
  | .az => p.az
  | .el => p.el

/-- The pair with one axis's value replaced. -/
def PerAxis.set {α : Type} (p : PerAxis α) (k : AxisKind) (x : α) : PerAxis α :=
  match k with
  | .az => { p with az := x }
  | .el => { p with el := x }

/-- The same value for both axes. -/
def PerAxis.both {α : Type} (x : α) : PerAxis α := ⟨x, x⟩

/-- One value for each zone of a dish. -/
structure PerZone (α : Type) where
  surf : α
  drive : α
  deriving DecidableEq, Repr

/-- The value of one zone. -/
def PerZone.get {α : Type} (p : PerZone α) : ZoneKind → α
  | .surf => p.surf
  | .drive => p.drive

/-- The pair with one zone's value replaced. -/
def PerZone.set {α : Type} (p : PerZone α) (z : ZoneKind) (x : α) : PerZone α :=
  match z with
  | .surf => { p with surf := x }
  | .drive => { p with drive := x }

/-- The same value for both zones. -/
def PerZone.both {α : Type} (x : α) : PerZone α := ⟨x, x⟩

/-- A twelve-place table from its entries. -/
def vec12 {α : Type} (f : DishId → α) : Vector α 12 :=
  #v[f 0, f 1, f 2, f 3, f 4, f 5, f 6, f 7, f 8, f 9, f 10, f 11]

/-- An eight-place table from its entries. -/
def vec8 {α : Type} (f : Fin 8 → α) : Vector α 8 :=
  #v[f 0, f 1, f 2, f 3, f 4, f 5, f 6, f 7]

/-- Division rounded up (00_scope.md 4.6); 0 where the divisor is 0. -/
def ceilDiv (a b : Nat) : Nat := (a + b - 1) / b

/-- |x - y| of two positions (00_scope.md 4.6). -/
def absDiff (x y : Int) : Nat := (x - y).natAbs

/-- x held to the range lo to hi; the upper limit wins. -/
def clampInt (lo hi x : Int) : Int := min hi (max lo x)

/-- A counter of 0 to 65,535 that counts on from 65,535 to 0. -/
def bump16 (n : Nat) : Nat := (n + 1) % 65536

/-- The clock's modulus (R179: a 48-bit count). -/
def clockMod : Nat := 281474976710656

end Sys2Proof
end

