-- ==== Sys2Proof/Config.lean ====
section
/-! DEFINITION. Config.lean: the settings records with their defaults (Tables 1-2, 5-5, 6-8, 7-2; R79, R126, R167,
R182), the fields as a request carries them before they are checked, and what the manual leaves to the unit. -/

namespace Sys2Proof

/-- Vendor identity of IDENTIFY (R173): the text is not given, a free value (log 7). -/
opaque Config.vendorText : Fin 16 → Byte
/-- Part identity of IDENTIFY (R173): a free value (log 7). -/
opaque Config.partText : Fin 16 → Byte
/-- Design revision of IDENTIFY (R173): a free value (log 7). -/
opaque Config.designRevision : BitVec 16
/-- Unit number fixed at manufacture (R173): a free value (log 7). -/
opaque Config.unitNumber : BitVec 32

/-- Axis configuration in force (Table 1-2). -/
structure AxisCfg where
  /-- Rate limit V, mdeg/s. -/
  v : Nat
  /-- Acceleration limit A, mdeg/s². -/
  a : Nat
  pmax : Nat
  phold : Nat
  ptrack : Nat
  lo : Int
  hi : Int
  stowRate : Nat
  pstow : Nat
  /-- Park delay, s. -/
  parkDelay : Nat
  wear : Nat
  tol : Nat
  lagTol : Nat
  deriving DecidableEq, Repr

/-- Defaults of Table 1-2. -/
def AxisCfg.default : AxisKind → AxisCfg
  | .az => ⟨2000, 1000, 3000, 150, 400, -270000, 270000, 0, 0, 30, 20000, 20, 50⟩
  | .el => ⟨1000, 500, 2000, 150, 400, 6000, 89500, 1000, 1500, 30, 20000, 20, 50⟩

/-- The parameters of CONFIG_AXIS as the request carries them (R2), at the sizes of Table 10-8. -/
structure AxisParams where
  v : Int
  a : Int
  pmax : Nat
  phold : Nat
  ptrack : Nat
  lo : Int
  hi : Int
  stowRate : Int
  pstow : Nat
  parkDelay : Nat
  wear : Nat
  tol : Int
  lagTol : Int
  deriving DecidableEq, Repr

/-- Zone configuration in force (Table 7-2). -/
structure ZoneCfg where
  rated : Nat
  setpoint : Int
  step : Nat
  autoMelt : Bool
  deriving DecidableEq, Repr

/-- Defaults of Table 7-2. -/
def ZoneCfg.default : ZoneKind → ZoneCfg
  | .surf => ⟨4000, 30, 5, true⟩
  | .drive => ⟨600, -50, 5, false⟩

/-- The parameters of CONFIG_ZONE as the request carries them (R122). -/
structure ZoneParams where
  rated : Nat
  setpoint : Int
  step : Int
  autoMelt : Nat
  deriving DecidableEq, Repr

/-- Melt policies (R79, Table 4-3). -/
inductive MeltPolicy where
  | motionOverMelt | meltFirst
  deriving DecidableEq, Repr

/-- Resume policies (Table 6-8). -/
inductive ResumePolicy where
  | auto | manual
  deriving DecidableEq, Repr

/-- Polarity of an output or of SITE_ESTOP (R182). -/
inductive PinPolarity where
  | activeHigh | activeLow
  deriving DecidableEq, Repr

/-- Drive of an output (R182). -/
inductive PinDrive where
  | pushPull | openDrain
  deriving DecidableEq, Repr

/-- Rates of the control link (R167). -/
inductive LinkRate where
  | r57600 | r115200 | r230400 | r460800
  deriving DecidableEq, Repr

/-- A rate in bit/s (R167). -/
def LinkRate.bps : LinkRate → Nat
  | .r57600 => 57600
  | .r115200 => 115200
  | .r230400 => 230400
  | .r460800 => 460800

/-- The settings of CONFIG_SITE in force (R79, Tables 5-5 and 6-8, R126, R167, R182). -/
structure SiteCfg where
  policy : MeltPolicy
  hmin : Nat
  stowMean : Nat
  stowGust : Nat
  watchMean : Nat
  watchGust : Nat
  relMean : Nat
  relGust : Nat
  watchRelMean : Nat
  watchRelGust : Nat
  quorum : Nat
  warmTarget : Nat
  lifetime : Nat
  grace : Nat
  relHold : Nat
  watchMinEl : Int
  resume : ResumePolicy
  autoShed : Bool
  shedThreshold : Nat
  shedDwell : Nat
  autoPrewarm : Bool
  rate : LinkRate
  polBeacon : PinPolarity
  polStow : PinPolarity
  polFault : PinPolarity
  drvBeacon : PinDrive
  drvStow : PinDrive
  drvFault : PinDrive
  polEstop : PinPolarity
  /-- De-glitch time, ms. -/
  deglitch : Nat
  /-- Warn interval, s. -/
  warn : Nat
  deriving DecidableEq, Repr

/-- Defaults of the site settings; the de-glitch time has none in the manual (log 6). -/
def SiteCfg.default : SiteCfg :=
  { policy := .motionOverMelt, hmin := 0
    stowMean := 180, stowGust := 240, watchMean := 120, watchGust := 160
    relMean := 140, relGust := 190, watchRelMean := 100, watchRelGust := 130
    quorum := 2, warmTarget := 10, lifetime := 5, grace := 60, relHold := 1200, watchMinEl := 20000
    resume := .auto, autoShed := false, shedThreshold := 15, shedDwell := 300
    autoPrewarm := false, rate := .r115200
    polBeacon := .activeHigh, polStow := .activeHigh, polFault := .activeHigh
    drvBeacon := .pushPull, drvStow := .pushPull, drvFault := .pushPull
    polEstop := .activeLow, deglitch := 0, warn := 5 }

/-- The settings of CONFIG_SITE as the request carries them, named values by their codes (R178). -/
structure SiteParams where
  policy : Nat
  hmin : Nat
  stowMean : Nat
  stowGust : Nat
  watchMean : Nat
  watchGust : Nat
  relMean : Nat
  relGust : Nat
  watchRelMean : Nat
  watchRelGust : Nat
  quorum : Nat
  warmTarget : Nat
  lifetime : Nat
  grace : Nat
  relHold : Nat
  watchMinEl : Int
  resume : Nat
  autoShed : Nat
  shedThreshold : Nat
  shedDwell : Nat
  autoPrewarm : Nat
  rate : Nat
  polBeacon : Nat
  polStow : Nat
  polFault : Nat
  drvBeacon : Nat
  drvStow : Nat
  drvFault : Nat
  polEstop : Nat
  deglitch : Nat
  warn : Nat
  deriving DecidableEq, Repr

/-- The settings of CONFIG_LINES as the request carries them (R154): per line the echo delay in µs and the polarity,
and one flag byte for each cabinet 1 to 12. -/
structure LinesParams where
  delayA : Nat
  polA : Nat
  delayB : Nat
  polB : Nat
  cabinets : List Nat
  deriving DecidableEq, Repr

/-- A point as ADD_POINTS carries it (R35). -/
structure PointParams where
  time : Nat
  az : Int
  el : Int
  deriving DecidableEq, Repr

/-- What a request names that may be an axis or a zone: its form byte and the subject number (R18, Table 10-8). -/
structure TargetParams where
  form : Nat
  num : Nat
  deriving DecidableEq, Repr

/-- Why the link's receiver abandons a frame on a byte (R168). -/
inductive ByteErr where
  | framing | length
  deriving DecidableEq, Repr

end Sys2Proof
end

