-- ==== Sys2Proof/Syntax.lean ====
section
/-! DEFINITION. Syntax.lean: the commands of the block, one constructor for each row of the table of steps. The first
39 are the host's requests with their tag and the fields of their rule at the sizes of Table 10-8 (a field a rule may
refuse is carried as it arrives); the others are the events of the link, the field lines, the pins, the store and the
timers, with what the event itself names. -/

namespace Sys2Proof

/-- The commands of the block. -/
inductive Instr where
  /-- IDENTIFY: R173. The part's identity, start-up state and link rate. -/
  | identify (tag : Tag)
  /-- GET_STATUS: R173. One status section, and the dish that the per-dish sections name, absent for the others (R178). -/
  | getStatus (tag : Tag) (sect : Nat) (dish : Option Nat)
  /-- SET_TIME: R179. Sets the site clock. -/
  | setTime (tag : Tag) (ms : Nat)
  /-- CONFIG_AXIS: R2. The complete configuration of one axis. -/
  | configAxis (tag : Tag) (subj : Nat) (p : AxisParams)
  /-- CONFIG_ZONE: R122. The complete configuration of one zone. -/
  | configZone (tag : Tag) (subj : Nat) (p : ZoneParams)
  /-- CONFIG_SITE: R100, R120, R79, R126, R167, R182. All site settings. -/
  | configSite (tag : Tag) (p : SiteParams)
  /-- CONFIG_LINES: R154. Line settings and configured cabinet set. -/
  | configLines (tag : Tag) (p : LinesParams)
  /-- SAVE_CONFIG: R184. Queues a FULL write. -/
  | saveConfig (tag : Tag)
  /-- SET_BUDGET: R68. Sets the requested budget. -/
  | setBudget (tag : Tag) (watts : Nat)
  /-- GET_BUDGET: R80. The account record. -/
  | getBudget (tag : Tag)
  /-- ADD_POINTS: R35. Admits tracking points. -/
  | addPoints (tag : Tag) (dish : Nat) (pts : List PointParams)
  /-- FLUSH_POINTS: R40. Empties a pointing queue. -/
  | flushPoints (tag : Tag) (dish : Nat)
  /-- TRACK_START: R25. Asks for the power to track. -/
  | trackStart (tag : Tag) (dish : Nat)
  /-- TRACK_STOP: R28. Ends tracking. -/
  | trackStop (tag : Tag) (dish : Nat)
  /-- HOLD_DISH: R30. Holds both axes under drive. -/
  | holdDish (tag : Tag) (dish : Nat)
  /-- PARK_DISH: R31. Brakes both axes. -/
  | parkDish (tag : Tag) (dish : Nat)
  /-- FORM_GROUP: R44. Forms a group. -/
  | formGroup (tag : Tag) (dishes : List Nat) (az el : Int) (pref thenTrack waitWarm limit : Nat)
  /-- START_GROUP: R46. Starts a formed group. -/
  | startGroup (tag : Tag) (group : Nat)
  /-- ABORT_GROUP: R62. Aborts a live group. -/
  | abortGroup (tag : Tag) (group : Nat)
  /-- GET_GROUP: R45. A group record. -/
  | getGroup (tag : Tag) (group : Nat)
  /-- PREWARM: R127. START (0) or CANCEL (1) of a pre-warm request. -/
  | prewarm (tag : Tag) (dish act : Nat)
  /-- SNOW_FORCE: R124. SET (0) or CLEAR (1) of the host snow force. -/
  | snowForce (tag : Tag) (act : Nat)
  /-- WEATHER_ENABLE: R85. Enables a weather node. -/
  | weatherEnable (tag : Tag) (addr : Nat)
  /-- WEATHER_DISABLE: R86. Disables a weather node. -/
  | weatherDisable (tag : Tag) (addr : Nat)
  /-- FORGET_WEATHER: R87. Discards readings; bit n names node W1 plus n. -/
  | forgetWeather (tag : Tag) (mask : BitVec 8)
  /-- GET_WEATHER: R101. The weather table and level record. -/
  | getWeather (tag : Tag)
  /-- STOW_NOW: R97. Sets the host force. -/
  | stowNow (tag : Tag)
  /-- STOW_RELEASE: R97. Clears the host force. -/
  | stowRelease (tag : Tag)
  /-- SHED: R110. Tips a dish to shed snow. -/
  | shed (tag : Tag) (dish : Nat)
  /-- RESUME: R117. Resumes a dish from its saved context. -/
  | resume (tag : Tag) (dish : Nat)
  /-- CLEAR_CONTEXT: R118. Discards a saved context. -/
  | clearContext (tag : Tag) (dish : Nat)
  /-- PLACE_LOCK: R141. Places a host lock. -/
  | placeLock (tag : Tag) (kind dish holder : Nat)
  /-- REMOVE_LOCK: R145. Removes a host lock. -/
  | removeLock (tag : Tag) (num holder : Nat)
  /-- LIST_LOCKS: R149. Up to eight lock entries from a cursor. -/
  | listLocks (tag : Tag) (cursor : Nat)
  /-- RESET_FAULT: R18, R135. Returns a faulted axis or zone to service. -/
  | resetFault (tag : Tag) (target : TargetParams)
  /-- RESET_WEAR: R11. Sets a release count to 0. -/
  | resetWear (tag : Tag) (subj : Nat)
  /-- CLEAR_ESTOP: R181. Clears the e-stop latch. -/
  | clearEstop (tag : Tag)
  /-- SET_REPORT_MASK: R174. Sets the report mask. -/
  | setReportMask (tag : Tag) (mask : BitVec 32)
  /-- SOFT_RESET: R172. Resets the part after the reply. -/
  | softReset (tag : Tag)
  /-- LINK_FRAME_RECEIVED: R168, R169. The bytes of a link frame arrive; the frame is checked when its last byte comes. -/
  | linkFrameReceived (bytes : List Byte)
  /-- LINK_GAP_TIMEOUT: R168. A gap of more than 20 ms within a frame. -/
  | linkGapTimeout
  /-- LINK_BYTE_ERROR: R168. A framing error, or a body length above 1,024. -/
  | linkByteError (why : ByteErr)
  /-- LINK_FRAME_SENT: R176. The last byte of the frame being sent has gone. -/
  | linkFrameSent
  /-- LINK_START_BYTE: R168. The start byte 0xA5 arrives. -/
  | linkStartByte
  /-- RESET: R185. Power-on or the RESET line. -/
  | reset
  /-- STORE_LOAD_DONE: R185. The store has been read. -/
  | storeLoadDone
  /-- DISCOVERY_TIMEOUT: R185. 5 s of DISCOVERING have passed. -/
  | discoveryTimeout
  /-- FIELD_CYCLE: R155. A field cycle is due. -/
  | fieldCycle
  /-- LATE_DEADLINE: R58. The late deadline of a group is judged. -/
  | lateDeadline (g : GroupId)
  /-- NODE_VISIT: R156. The next node of the cycle is visited. -/
  | nodeVisit
  /-- ECHO_MISMATCH: R157. A read-back byte differs. -/
  | echoMismatch (line : Line)
  /-- ORDER_FRAME_SENT: R157, R158. An order frame has gone in full. -/
  | orderFrameSent (line : Line)
  /-- ANSWER_RECEIVED: R159. An answer frame ends on a line. -/
  | answerReceived (line : Line) (bytes : List Byte)
  /-- VISIT_END: R161, R163. The answer windows have closed. -/
  | visitEnd
  /-- ESTOP_INPUT_ACTIVE: R180. SITE_ESTOP has read active for the de-glitch time. -/
  | estopInputActive
  /-- ESTOP_INPUT_INACTIVE: R180. SITE_ESTOP has read inactive for the de-glitch time. -/
  | estopInputInactive
  /-- LINE_BREAK: R164. A line has been active for 250 µs. -/
  | lineBreak (line : Line)
  /-- BREAK_HELD: R165. Another 4 s of a break have passed. -/
  | breakHeld (line : Line)
  /-- BREAK_END: R165. A line returns to passive. -/
  | breakEnd (line : Line)
  /-- BEACON_INTERVAL_MET: R7. The beacon has been on for the warn interval. -/
  | beaconIntervalMet
  /-- BRAKE_TEST_TIMEOUT: R8. 5 s in TESTING. -/
  | brakeTestTimeout (d : DishId) (k : AxisKind)
  /-- RELEASE_TIMEOUT: R9. 3 s in RELEASING. -/
  | releaseTimeout (d : DishId) (k : AxisKind)
  /-- ENGAGE_TIMEOUT: R16. 3 s in ENGAGING. -/
  | engageTimeout (d : DishId) (k : AxisKind)
  /-- PARK_EXPIRY: R15. The park timer expires. -/
  | parkExpiry (d : DishId) (k : AxisKind)
  /-- OFFLINE_HOLD_EXPIRY: R21. The offline hold timer expires. -/
  | offlineHoldExpiry (d : DishId) (k : AxisKind)
  /-- TRACK_LAG: R22. The lag timer has run for 2 s. -/
  | trackLag (d : DishId) (k : AxisKind)
  /-- WEATHER_TICK: R84, R130. A tick of the weather second. -/
  | weatherTick
  /-- READING_EXPIRY: R90. A reading reaches its expiry. -/
  | readingExpiry (n : WeatherId)
  /-- UNKNOWN_GRACE_EXPIRY: R94. The unknown timer has run for the grace. -/
  | unknownGraceExpiry
  /-- RELEASE_HOLD_COMPLETE: R96. The release hold has run its time. -/
  | releaseHoldComplete
  /-- WATCH_RELEASE_EXPIRY: R95. The watch release hold has run for 300 s. -/
  | watchReleaseExpiry
  /-- SNOW_EPISODE_END: R125. The clear timer has run for 600 s. -/
  | snowEpisodeEnd
  /-- PREWARM_EXPIRY: R127. A pre-warm request has run for 30 minutes. -/
  | prewarmExpiry (d : DishId)
  /-- DWELL_EXPIRY: R112. A dwell timer expires. -/
  | dwellExpiry (d : DishId)
  /-- ZONE_CONTACTOR_FAULT: R134. The mismatch timer has run for 3 s. -/
  | zoneContactorFault (d : DishId) (z : ZoneKind)
  /-- STORE_WRITE_DONE: R183. A store write ends with its read-back good or not. -/
  | storeWriteDone (ok : Bool)
  deriving DecidableEq, Repr

/-- The tag of a request; absent for an event. -/
def Instr.tag? : Instr → Option Tag
  | .identify tag => some tag
  | .getStatus tag _ _ => some tag
  | .setTime tag _ => some tag
  | .configAxis tag _ _ => some tag
  | .configZone tag _ _ => some tag
  | .configSite tag _ => some tag
  | .configLines tag _ => some tag
  | .saveConfig tag => some tag
  | .setBudget tag _ => some tag
  | .getBudget tag => some tag
  | .addPoints tag _ _ => some tag
  | .flushPoints tag _ => some tag
  | .trackStart tag _ => some tag
  | .trackStop tag _ => some tag
  | .holdDish tag _ => some tag
  | .parkDish tag _ => some tag
  | .formGroup tag _ _ _ _ _ _ _ => some tag
  | .startGroup tag _ => some tag
  | .abortGroup tag _ => some tag
  | .getGroup tag _ => some tag
  | .prewarm tag _ _ => some tag
  | .snowForce tag _ => some tag
  | .weatherEnable tag _ => some tag
  | .weatherDisable tag _ => some tag
  | .forgetWeather tag _ => some tag
  | .getWeather tag => some tag
  | .stowNow tag => some tag
  | .stowRelease tag => some tag
  | .shed tag _ => some tag
  | .resume tag _ => some tag
  | .clearContext tag _ => some tag
  | .placeLock tag _ _ _ => some tag
  | .removeLock tag _ _ => some tag
  | .listLocks tag _ => some tag
  | .resetFault tag _ => some tag
  | .resetWear tag _ => some tag
  | .clearEstop tag => some tag
  | .setReportMask tag _ => some tag
  | .softReset tag => some tag
  | _ => none

end Sys2Proof
end

