-- ==== Sys2Proof/Machine/State.lean ====
section
/-! DEFINITION. State.lean: every record the manual gives the part, as plain data, and the values after reset. Lock
counts, the axis's view of its claim, beacon requests, allotted watts, the site weather figures and the pin levels are
functions of what stands here (Machine/Ops.lean). -/

namespace Sys2Proof.Machine

/-! ### Axis records (R1, Table 1-1) -/

/-- The ten axis states (Table 1-3). -/
inductive AxisState where
  | offline | braked | testing | releasing | held | moving | stopping | engaging | locked | faulted
  deriving DecidableEq, Repr

/-- Release stage (R1). -/
inductive Stage where
  | none | claim | beacon
  deriving DecidableEq, Repr

/-- After-stop intent (R14). -/
inductive AfterStop where
  | hold | brake
  deriving DecidableEq, Repr

/-- A point carried by a TRACK order: site time and position (Table 10-6). -/
structure TrackPoint where
  time : Nat
  pos : Int
  deriving DecidableEq, Repr

/-- Axis orders with their parameters (Table 1-4). -/
inductive Order where
  | none | hold | brake | release | stop
  | move (target : Int) (dur start : Nat)
  | track (pts : List TrackPoint)
  | brakeTest
  deriving DecidableEq, Repr

/-- Fault codes an answer carries (Table 9-3). -/
inductive FaultCode where
  | none | drive | limit | cleared
  deriving DecidableEq, Repr

/-- Brake test results an answer carries (Table 9-3). -/
inductive TestResult where
  | none | pass | fail
  deriving DecidableEq, Repr

/-- The reported fields of an axis (R1, R4). -/
structure AxisReport where
  pos : Int
  rate : Int
  /-- Brake RELEASED. -/
  released : Bool
  driveOn : Bool
  code : FaultCode
  test : TestResult
  deriving DecidableEq, Repr

/-- Fault reasons (R17). -/
inductive FaultReason where
  | drive | limit | refused | releaseTimeout | engageTimeout | brakeSuspect
  deriving DecidableEq, Repr

/-- Who wants the axis held (R5): DISH for a hold or a track, GROUP, STOW or INTERNAL. -/
inductive Requester where
  | hold | track | group (g : GroupId) | stow | internal
  deriving DecidableEq, Repr

/-- A recorded motion need (R5): its requester, and the share of the grant it was delivered with, by which R14 keeps a
stopped axis's claim. The claim that serves the need (Table 1-1) is the axis's own in the claims table: Block.needClaim. -/
structure Need where
  who : Requester
  grant : Option Nat
  deriving DecidableEq, Repr

/-- The lag timer running: its start and the expected position last compared (R22). -/
structure LagRun where
  since : Nat
  expected : Int
  deriving DecidableEq, Repr

/-- One axis record (Table 1-1). -/
structure Axis where
  state : AxisState
  stage : Stage
  need : Option Need
  intent : AfterStop
  order : Order
  reported : Option AxisReport
  releases : Nat
  verify : Bool
  parkDue : Option Nat
  opDue : Option Nat
  holdDue : Option Nat
  lag : Option LagRun
  lagOpen : Bool
  fault : Option FaultReason
  cfg : AxisCfg
  deriving DecidableEq, Repr

/-- The values after reset of Table 1-1. -/
def Axis.reset (k : AxisKind) : Axis :=
  { state := .offline, stage := .none, need := none, intent := .hold, order := .brake, reported := none, releases := 0
    verify := false, parkDue := none, opDue := none, holdDue := none, lag := none, lagOpen := false, fault := none
    cfg := AxisCfg.default k }

/-! ### Dish records (R23, R102) -/

/-- Dish modes (Table 2-2). -/
inductive Mode where
  | idle | trackWait | tracking | slewWait | slewing | returning | stowing | stowed | shedding | shedDwell | stowBlocked
  deriving DecidableEq, Repr

/-- A dish request waiting in the wait queue (R23). -/
inductive DishReq where
  | hold | track
  deriving DecidableEq, Repr

/-- Work to resume (Table 6-2). -/
inductive Work where
  | idle | tracking
  deriving DecidableEq, Repr

/-- A pair of azimuth (wrap) and elevation positions. -/
structure AzEl where
  az : Int
  el : Int
  deriving DecidableEq, Repr

/-- Origin of a context (Table 6-2). -/
inductive Origin where
  | wind | shed
  deriving DecidableEq, Repr

/-- Saved context (Table 6-2). -/
structure SavedContext where
  origin : Origin
  work : Work
  pos : Option AzEl
  time : Nat
  deriving DecidableEq, Repr

/-- Return intent (Table 6-1). -/
structure ReturnIntent where
  work : Work
  target : AzEl
  deriving DecidableEq, Repr

/-- Stow-block reasons (R108). -/
structure Blocks where
  locked : Bool
  estop : Bool
  fault : Bool
  offline : Bool
  deriving DecidableEq, Repr

/-- Dwell timer (Table 6-1). -/
inductive Dwell where
  | stopped | running (due : Nat) | complete
  deriving DecidableEq, Repr

/-- One dish record (Tables 2-1 and 6-1). -/
structure Dish where
  mode : Mode
  group : Option GroupId
  pendingReq : Option DishReq
  parkReq : PerAxis Bool
  clampOpen : Bool
  trims : Nat
  context : Option SavedContext
  blocks : Option Blocks
  intent : Option ReturnIntent
  deferred : Bool
  dwell : Dwell
  deriving DecidableEq, Repr

/-- The values after reset of Tables 2-1 and 6-1. -/
def Dish.reset : Dish :=
  { mode := .idle, group := none, pendingReq := none, parkReq := .both false, clampOpen := false, trims := 0
    context := none, blocks := none, intent := none, deferred := false, dwell := .stopped }

/-! ### Point store (R34) -/

/-- One point record (Table 2-4). -/
structure Point where
  time : Nat
  sky : Int
  el : Int
  az : Int
  clamped : Bool
  deriving DecidableEq, Repr

/-- The pool's free count and the twelve pointing queues (R34). -/
structure PointStore where
  free : Nat
  queues : Vector (List Point) 12
  deriving DecidableEq, Repr

/-! ### Slew Planner (R41, R42, R64) -/

/-- Group states (Table 3-1). -/
inductive GroupState where
  | formed | warming | waiting | starting | running | done | partly | aborted
  deriving DecidableEq, Repr

/-- Wrap preferences (R49). -/
inductive WrapPref where
  | nearest | positive | negative
  deriving DecidableEq, Repr

/-- Reasons an abort or an internal move ends with (Table 3-1). -/
inductive EndReason where
  | request | wind | estop | locked | fault | offline | plan | busy
  deriving DecidableEq, Repr

/-- Member states (Table 3-2). -/
inductive MemberState where
  | planned | moving | arrived | dropped
  deriving DecidableEq, Repr

/-- Drop reasons (Table 3-2). -/
inductive DropReason where
  | locked | fault | offline | estop
  deriving DecidableEq, Repr

/-- The plan fields of a member or an internal move: targets and distances (R49). -/
structure Plan where
  target : AzEl
  dist : PerAxis Nat
  deriving DecidableEq, Repr

/-- The rate and claim of one axis at the planned duration (R52). -/
structure Share where
  rate : Nat
  claim : Nat
  deriving DecidableEq, Repr

/-- One member record (Table 3-2), with the arrival of each axis (R57). -/
structure Member where
  dish : DishId
  state : MemberState
  plan : Option Plan
  grant : Option (PerAxis Share)
  arrived : PerAxis Bool
  drop : Option DropReason
  late : Bool
  deriving DecidableEq, Repr

/-- One group record (Table 3-1). -/
structure Group where
  state : GroupState
  az : Int
  el : Int
  pref : WrapPref
  thenTrack : Bool
  waitWarm : Bool
  limit : Nat
  members : List Member
  n0 : Option Nat
  nStar : Option Nat
  start : Option Nat
  total : Option Nat
  reason : Option EndReason
  finishOrder : Option Nat
  deriving DecidableEq, Repr

/-- Phases of an internal move (R64). -/
inductive Phase where
  | waiting | starting | running
  deriving DecidableEq, Repr

/-- One internal move record (R64). -/
structure InternalMove where
  plan : Plan
  n0 : Nat
  nStar : Option Nat
  grant : Option (PerAxis Share)
  phase : Phase
  start : Option Nat
  arrived : PerAxis Bool
  deriving DecidableEq, Repr

/-- The group table and the internal moves; finished counts the groups finished since reset, for the finish order (R41;
DESIGN CHOICE, log 44). -/
structure Planner where
  groups : Vector (Option Group) 8
  moves : Vector (Option InternalMove) 12
  finished : Nat
  deriving DecidableEq, Repr

/-! ### Power Account (R66) -/

/-- Claim classes (R71). -/
inductive ClaimClass where
  | stow | motion
  deriving DecidableEq, Repr

/-- A claim (R71). -/
structure Claim where
  cls : ClaimClass
  watts : Nat
  deriving DecidableEq, Repr

/-- The requester of a wait-queue entry (Table 4-2); a dish's three kinds share one place (R75). -/
inductive Waiter where
  | group (g : GroupId)
  | hold (d : DishId)
  | track (d : DishId)
  | internal (d : DishId)
  | axis (d : DishId) (k : AxisKind)
  deriving DecidableEq, Repr

/-- One axis's amount in a request (R72). -/
structure Want where
  d : DishId
  k : AxisKind
  watts : Nat
  deriving DecidableEq, Repr

/-- One wait-queue entry (R75). -/
structure WaitEntry where
  who : Waiter
  wants : List Want
  time : Nat
  deriving DecidableEq, Repr

/-- The account record (Table 4-1); the policy and the reserve stand in the site settings, the heat allotments in the
zone records. examineDue marks an examination called for in this event (R76, log 8). -/
structure Account where
  breq : Nat
  beff : Nat
  floor : Nat
  claims : Vector (PerAxis (Option Claim)) 12
  waitq : List WaitEntry
  stowq : List DishId
  examineDue : Bool
  deriving DecidableEq, Repr

/-! ### Weather Monitor (R83, R93) -/

/-- Weather entry states (Table 5-1). -/
inductive WxState where
  | disabled | warming | active
  deriving DecidableEq, Repr

/-- Precipitation (Table 5-2). -/
inductive Precip where
  | none | liquid | frozen
  deriving DecidableEq, Repr

/-- A reading held, with its expiry (Table 5-1). -/
structure Reading where
  mean : Nat
  gust : Nat
  ambient : Int
  precip : Precip
  clamp : Bool
  expiry : Nat
  deriving DecidableEq, Repr

/-- One weather entry (Table 5-1). -/
structure WxEntry where
  state : WxState
  warm : Nat
  reading : Option Reading
  faults : Nat
  deriving DecidableEq, Repr

/-- Stow levels (R93). -/
inductive Level where
  | calm | watch | stow
  deriving DecidableEq, Repr

/-- Release hold (Table 5-4). -/
inductive RelHold where
  | stopped | running (n : Nat) | complete
  deriving DecidableEq, Repr

/-- Causes of a level (Table 5-4). -/
inductive LevelCause where
  | reset | mean | gust | unknown | force | release | calmed
  deriving DecidableEq, Repr

/-- The weather table, the weather second and the level record (R83, R84, R93). -/
structure Weather where
  entries : Vector WxEntry 8
  sec : Nat
  tickDue : Nat
  level : Level
  force : Bool
  unknown : Option Nat
  hold : RelHold
  watchHold : Option Nat
  cause : LevelCause
  changedSec : Nat
  changedTime : Option Nat
  deriving DecidableEq, Repr

/-! ### Heater Controller (R121, R125, R129) -/

/-- Zone modes (Table 7-3). -/
inductive ZoneMode where
  | off | idle | melt | prewarm | curtailed | locked | fault
  deriving DecidableEq, Repr

/-- Zone purposes (Table 7-1). -/
inductive Purpose where
  | none | melt | prewarm
  deriving DecidableEq, Repr

/-- One zone record (Table 7-1). -/
structure Zone where
  mode : ZoneMode
  purpose : Purpose
  rank : Option Nat
  demand : Nat
  duty : Nat
  temp : Option Int
  commanded : Bool
  reported : Option Bool
  mismatch : Option Nat
  fault : Bool
  prewarm : Option Nat
  fullSecs : Nat
  meltMin : Nat
  cfg : ZoneCfg
  deriving DecidableEq, Repr

/-- The values after reset of Table 7-1. -/
def Zone.reset (z : ZoneKind) : Zone :=
  { mode := .off, purpose := .none, rank := none, demand := 0, duty := 0, temp := none, commanded := false
    reported := none, mismatch := none, fault := false, prewarm := none, fullSecs := 0, meltMin := 0
    cfg := ZoneCfg.default z }

/-- A zone by dish and kind. -/
structure ZoneRef where
  d : DishId
  z : ZoneKind
  deriving DecidableEq, Repr

/-- The zone records, the cold flags, the snow episode and the serving order of the second (R121 to R132). -/
structure Heater where
  zones : Vector (PerZone Zone) 12
  cold : Vector Bool 12
  snowForce : Bool
  episode : Bool
  clear : Option Nat
  serving : List ZoneRef
  slot : Nat
  deriving DecidableEq, Repr

/-! ### Lockout Table (R138) -/

/-- Target kinds (Table 8-1). -/
inductive LockKind where
  | axisAz | axisEl | zoneSurf | zoneDrive | dish
  deriving DecidableEq, Repr

/-- One lock entry (Table 8-1); holder 0 is a KEY entry (R139). -/
structure LockEntry where
  num : Nat
  kind : LockKind
  dish : DishId
  holder : Nat
  key : Bool
  engaged : Bool
  placed : Nat
  stored : Bool
  deriving DecidableEq, Repr

/-- One key record (R147); the position is LOCKOUT when true. -/
structure KeyRec where
  pos : Option Bool
  lockRun : Nat
  remoteRun : Nat
  deriving DecidableEq, Repr

/-- The lock entries, next number, safe marks and key records (R138, R140, R147). -/
structure Lockout where
  entries : List LockEntry
  next : Nat
  axisSafe : Vector (PerAxis Bool) 12
  zoneSafe : Vector (PerZone Bool) 12
  keys : Vector KeyRec 12
  deriving DecidableEq, Repr

/-! ### Field Line Controller (R153 to R156) -/

/-- Reach (Table 9-1). -/
inductive Reach where
  | unknown | reachable | degraded | unreachable
  deriving DecidableEq, Repr

/-- The contents of an order (Table 9-2). -/
inductive OrderSent where
  | poll
  | cabinet (time : Nat) (az el : Order) (surf drive : Bool)
  deriving DecidableEq, Repr

/-- One node entry (Table 9-1). -/
structure Node where
  reach : Reach
  missA : Nat
  missB : Nat
  seq : Nat
  lastOrder : Option OrderSent
  lastStatus : Option Nat
  taken : Nat
  dups : Nat
  bads : Nat
  deriving DecidableEq, Repr

/-- The values after reset of Table 9-1. -/
def Node.reset : Node :=
  { reach := .unknown, missA := 0, missB := 0, seq := 0, lastOrder := none, lastStatus := none
    taken := 0, dups := 0, bads := 0 }

/-- Line states (R154). -/
inductive LineState where
  | up | down | brk
  deriving DecidableEq, Repr

/-- One line record (R154); polarity true is INVERTED. newPol waits for the next cycle; heldReports counts the
BREAK_HELD reports of the break (R165). -/
structure LineRec where
  state : LineState
  echoRun : Nat
  probeDue : Option Nat
  breakStart : Option Nat
  heldReports : Nat
  echoTotal : Nat
  delay : Nat
  inverted : Bool
  newPol : Option Bool
  deriving DecidableEq, Repr

/-- The values after reset of R154. -/
def LineRec.reset : LineRec :=
  { state := .up, echoRun := 0, probeDue := none, breakStart := none, heldReports := 0, echoTotal := 0, delay := 8
    inverted := false, newPol := none }

/-- Acceptance (R160). -/
inductive Acceptance where
  | accepted | refused | corrupt
  deriving DecidableEq, Repr

/-- A cabinet's answer body (Table 9-3). -/
structure CabBody where
  az : AxisReport
  el : AxisReport
  surfTemp : Int
  driveTemp : Int
  surfOn : Bool
  driveOn : Bool
  lockout : Bool
  estop : Bool
  deriving DecidableEq, Repr

/-- A weather node's answer body (Table 5-2); precip is absent for a code that is none of the three (R177). -/
structure WxBody where
  mean : Nat
  gust : Nat
  ambient : Int
  precip : Option Precip
  fault : Bool
  deriving DecidableEq, Repr

/-- The body of an answer. -/
inductive AnswerBody where
  | cab (b : CabBody)
  | wx (b : WxBody)
  deriving DecidableEq, Repr

/-- A taken answer (R159). -/
structure Answer where
  acc : Acceptance
  body : AnswerBody
  deriving DecidableEq, Repr

/-- What a visit does on one line (R156). -/
inductive LinePhase where
  | unused | sending | window | abandoned
  deriving DecidableEq, Repr

/-- The visit in progress, with the answers taken in it, in the order of their taking (R156, R159, R161). -/
structure Visit where
  node : NodeRef
  a : LinePhase
  b : LinePhase
  sentAt : Nat
  answers : List Answer
  heardA : Bool
  heardB : Bool
  deriving DecidableEq, Repr

/-- The node table, the lines, the cycle and the visit (R153 to R156). -/
structure FieldCtl where
  cabs : Vector Node 12
  wxs : Vector Node 8
  configured : Vector Bool 12
  lineA : LineRec
  lineB : LineRec
  cycleTime : Option Nat
  cycleDue : Nat
  todo : List NodeRef
  successor : Bool
  visit : Option Visit
  deriving DecidableEq, Repr

/-! ### Control Link Port (R168 to R176) -/

/-- One field of a result body or a report's contents: its size in bytes and its value (R178). -/
structure Fld where
  size : Nat
  val : Int
  deriving DecidableEq, Repr

/-- Result codes (Table 10-1). -/
inductive Code where
  | ok | clamped | queued | unknownRequest | badLength | badValue | noSuch | state | locked | estop | wind | notReady
  | busy | noTime | queueFull | trimmed | outOfOrder | tooFar | tooLong | tableFull | duplicate | notHolder | storeFault
  deriving DecidableEq, Repr

/-- Report kinds (Table 10-4). -/
inductive RepKind where
  | axisState | dishMode | groupState | stowLevel | siteWeather | weatherNode | zoneState | snow | lockState | estop
  | breakHeld | breakEnd | nodeReach | lineState | budget | pointsTrimmed | clamped | trackLag | wear | storeFault
  deriving DecidableEq, Repr

/-- A queued report (R175); its contents are pre, the previous state where its kind names one, and post. -/
structure Report where
  kind : RepKind
  subject : Nat
  time : Nat
  pre : List Fld
  prev : Option Fld
  post : List Fld
  deriving DecidableEq, Repr

/-- Receiver states (R168). -/
inductive RxState where
  | hunt | header | body | check
  deriving DecidableEq, Repr

/-- A result code and a result body (R171). -/
structure Reply where
  code : Code
  body : List Fld
  deriving DecidableEq, Repr

/-- What follows the last byte of a reply (R167, R172). -/
inductive After where
  | nothing | setRate (r : LinkRate) | softReset
  deriving DecidableEq, Repr

/-- One entry of the request queue and outgoing reply list (R170): a request, or an answer of the port when req is
absent; the reply when it is ready. -/
structure OutEntry where
  id : Nat
  tag : Tag
  kind : Byte
  req : Option Instr
  handed : Bool
  reply : Option Reply
  after : After
  deriving DecidableEq, Repr

/-- The frame being transmitted (R176): the reply of an outgoing entry, or a report with its lost mark. -/
inductive TxFrame where
  | reply (id : Nat)
  | report (r : Report) (lost : Bool)
  deriving DecidableEq, Repr

/-- The link's counters (R168 to R170). -/
structure LinkCounters where
  gap : Nat
  framing : Nat
  length : Nat
  crc : Nat
  tag : Nat
  overrun : Nat
  deriving DecidableEq, Repr

/-- The Control Link Port. -/
structure Link where
  rx : RxState
  rxBytes : List Byte
  counters : LinkCounters
  rate : LinkRate
  out : List OutEntry
  nextId : Nat
  reports : List Report
  lost : Bool
  mask : BitVec 20
  tx : Option TxFrame
  deriving DecidableEq, Repr

/-! ### Site Services (R179 to R185) -/

/-- Stop marks (R180). -/
structure StopMarks where
  input : Bool
  lineA : Bool
  lineB : Bool
  cabs : Vector Bool 12
  deriving DecidableEq, Repr

/-- Sources of the e-stop latch (R180). -/
inductive StopSource where
  | input | line (l : Line) | cabinet (d : DishId)
  deriving DecidableEq, Repr

/-- Start-up states (R185). -/
inductive Startup where
  | starting | discovering | ready
  deriving DecidableEq, Repr

/-- Line settings of the configuration image (R183). -/
structure LineCfg where
  delay : Nat
  inverted : Bool
  deriving DecidableEq, Repr

/-- The configuration image (R183); the policy and H_min are among the site settings. -/
structure Image where
  axes : Vector (PerAxis AxisCfg) 12
  zones : Vector (PerZone ZoneCfg) 12
  site : SiteCfg
  lineA : LineCfg
  lineB : LineCfg
  cabinets : Vector Bool 12
  enabled : Vector Bool 8
  breq : Nat
  deriving DecidableEq, Repr

/-- The image of the defaults of every chapter (R66, R83, R153, R154). -/
def Image.default : Image :=
  { axes := vec12 fun _ => ⟨AxisCfg.default .az, AxisCfg.default .el⟩
    zones := vec12 fun _ => ⟨ZoneCfg.default .surf, ZoneCfg.default .drive⟩
    site := SiteCfg.default, lineA := ⟨8, false⟩, lineB := ⟨8, false⟩
    cabinets := vec12 fun _ => true, enabled := vec8 fun _ => true, breq := 40000 }

/-- A LINK entry as a lock write carries it (R143). -/
structure StoredLock where
  num : Nat
  kind : LockKind
  dish : DishId
  holder : Nat
  placed : Nat
  deriving DecidableEq, Repr

/-- The configuration store (R183); the checksum stands as whether it is good (log 23). -/
structure Store where
  good : Bool
  image : Image
  locks : List StoredLock
  counts : Vector (PerAxis Nat) 12
  deriving DecidableEq, Repr

/-- The store at first power-on: erased, its checksum bad (log 5). -/
def Store.erased : Store :=
  { good := false, image := Image.default, locks := [], counts := vec12 fun _ => ⟨0, 0⟩ }

/-- Kinds of write (R183). -/
inductive WriteKind where
  | lock | counts | full
  deriving DecidableEq, Repr

/-- A PLACE_LOCK (place) or REMOVE_LOCK waiting for a lock write: its outgoing entry and lock number (R143). -/
structure LockAsk where
  id : Nat
  num : Nat
  place : Bool
  deriving DecidableEq, Repr

/-- A write not yet begun, with the replies that wait for it (R143, R184). -/
structure WriteReq where
  kind : WriteKind
  locks : List LockAsk
  saves : List Nat
  deriving DecidableEq, Repr

/-- The write in progress with the parts it carries (R143, R183). -/
structure WriteRun where
  req : WriteReq
  image : Option Image
  locks : Option (List StoredLock)
  counts : Option (Vector (PerAxis Nat) 12)
  deriving DecidableEq, Repr

/-- Site Services. -/
structure Site where
  cfg : SiteCfg
  clock : Option Nat
  tb : Nat
  estop : Bool
  /-- The source whose mark set the latch; kept for the ESTOP reports (R180). -/
  stopSource : Option StopSource
  marks : StopMarks
  beacon : Bool
  stow : Bool
  fault : Bool
  beaconSince : Option Nat
  startup : Startup
  discovering : Option Nat
  store : Store
  running : Option WriteRun
  waiting : List WriteReq
  storeFault : Bool
  deriving DecidableEq, Repr

/-! ### The whole machine -/

/-- Every record of the eleven blocks (Table 0-1). -/
structure Block where
  axes : Vector (PerAxis Axis) 12
  dishes : Vector Dish 12
  points : PointStore
  planner : Planner
  account : Account
  weather : Weather
  heater : Heater
  lockout : Lockout
  field : FieldCtl
  link : Link
  site : Site
  deriving DecidableEq, Repr

/-- The block and the commands waiting for it, first in, first out. -/
structure State where
  block : Block
  pending : List Instr
  deriving DecidableEq, Repr

/-- Why the machine would stop: the manual gives the part no such behaviour, so no command raises a fault; safe. -/
inductive Fault where
  deriving DecidableEq, Repr

/-- Why a command is refused. -/
inductive Refusal where
  /-- A command without a meaning yet, raised by the dispatch only; safe: nothing is claimed of it. -/
  | notModelled (mnemonic : String)
  deriving DecidableEq, Repr

/-- Every record at its value after reset, over a configuration store that is kept (R183, R185). Settings and the link
rate stand at their defaults until the store is loaded (log 26); the enabled set is the defaults' (R83). The store fault
is clear, without a report, whatever it was before (DESIGN CHOICE, log 47). -/
def Block.afterReset (store : Store) : Block :=
  { axes := vec12 fun _ => ⟨Axis.reset .az, Axis.reset .el⟩
    dishes := vec12 fun _ => Dish.reset
    points := { free := 480, queues := vec12 fun _ => [] }
    planner := { groups := vec8 fun _ => none, moves := vec12 fun _ => none, finished := 0 }
    account :=
      { breq := 40000, beff := 40000, floor := 18000, claims := vec12 fun _ => ⟨none, none⟩, waitq := [], stowq := []
        examineDue := false }
    weather :=
      { entries := vec8 fun _ => { state := .warming, warm := 0, reading := none, faults := 0 }
        sec := 0, tickDue := 1000, level := .watch, force := false, unknown := some 0, hold := .stopped
        watchHold := none, cause := .reset, changedSec := 0, changedTime := none }
    heater :=
      { zones := vec12 fun _ => ⟨Zone.reset .surf, Zone.reset .drive⟩
        cold := vec12 fun _ => false, snowForce := false, episode := false, clear := none, serving := [], slot := 0 }
    lockout :=
      { entries := [], next := 1, axisSafe := vec12 fun _ => .both false, zoneSafe := vec12 fun _ => .both false
        keys := vec12 fun _ => { pos := none, lockRun := 0, remoteRun := 0 } }
    field :=
      { cabs := vec12 fun _ => Node.reset, wxs := vec8 fun _ => Node.reset, configured := vec12 fun _ => true
        lineA := LineRec.reset, lineB := LineRec.reset, cycleTime := none, cycleDue := 0, todo := []
        successor := false, visit := none }
    link :=
      { rx := .hunt, rxBytes := [], counters := ⟨0, 0, 0, 0, 0, 0⟩, rate := .r115200, out := [], nextId := 0
        reports := [], lost := false, mask := 0xFFFFF, tx := none }
    site :=
      { cfg := SiteCfg.default, clock := none, tb := 0, estop := false, stopSource := none
        marks := { input := false, lineA := false, lineB := false, cabs := vec12 fun _ => false }
        beacon := false, stow := false, fault := false, beaconSince := none, startup := .starting
        discovering := none, store := store, running := none, waiting := [], storeFault := false } }

/-- The machine right after power-on reset, with nothing waiting. -/
def State.reset : State := { block := Block.afterReset Store.erased, pending := [] }

end Sys2Proof.Machine
end

