-- ==== Sys2Proof/Machine/Ops.lean ====
section
/-! DEFINITION. Ops.lean: access to the records, lock counts, time, and the sending of reports (R139, R175, R179). -/

namespace Sys2Proof.Machine

/-! ### Records -/

/-- The record of one axis. -/
def Block.axis (b : Block) (d : DishId) (k : AxisKind) : Axis := (b.axes[d]).get k

/-- One axis record replaced. -/
def Block.setAxis (b : Block) (d : DishId) (k : AxisKind) (a : Axis) : Block :=
  { b with axes := b.axes.set d ((b.axes[d]).set k a) }

/-- One axis record changed. -/
def Block.modAxis (b : Block) (d : DishId) (k : AxisKind) (f : Axis → Axis) : Block := b.setAxis d k (f (b.axis d k))

/-- The record of one dish. -/
def Block.dish (b : Block) (d : DishId) : Dish := b.dishes[d]

/-- One dish record replaced. -/
def Block.setDish (b : Block) (d : DishId) (x : Dish) : Block := { b with dishes := b.dishes.set d x }

/-- One dish record changed. -/
def Block.modDish (b : Block) (d : DishId) (f : Dish → Dish) : Block := b.setDish d (f (b.dish d))

/-- The pointing queue of one dish. -/
def Block.queue (b : Block) (d : DishId) : List Point := b.points.queues[d]

/-- One queue replaced; the free count moves by the difference of the lengths (R34). -/
def Block.setQueue (b : Block) (d : DishId) (q : List Point) : Block :=
  { b with points :=
    { free := b.points.free + (b.queue d).length - q.length, queues := b.points.queues.set d q } }

/-- One group slot. -/
def Block.group (b : Block) (g : GroupId) : Option Group := b.planner.groups[g]

/-- One group slot replaced. -/
def Block.setGroup (b : Block) (g : GroupId) (x : Option Group) : Block :=
  { b with planner := { b.planner with groups := b.planner.groups.set g x } }

/-- The internal move of one dish. -/
def Block.move (b : Block) (d : DishId) : Option InternalMove := b.planner.moves[d]

/-- The internal move of one dish replaced. -/
def Block.setMove (b : Block) (d : DishId) (x : Option InternalMove) : Block :=
  { b with planner := { b.planner with moves := b.planner.moves.set d x } }

/-- The claim of one axis. -/
def Block.claim (b : Block) (d : DishId) (k : AxisKind) : Option Claim := (b.account.claims[d]).get k

/-- The claim that serves an axis's need, where one is recorded and a claim is held (Table 1-1). -/
def Block.needClaim (b : Block) (d : DishId) (k : AxisKind) : Option Claim :=
  if (b.axis d k).need.isSome then b.claim d k else none

/-- One claim replaced. -/
def Block.setClaim (b : Block) (d : DishId) (k : AxisKind) (c : Option Claim) : Block :=
  { b with account := { b.account with claims := b.account.claims.set d ((b.account.claims[d]).set k c) } }

/-- The watts of one axis's claim, 0 where it is absent. -/
def Block.claimWatts (b : Block) (d : DishId) (k : AxisKind) : Nat := ((b.claim d k).map (·.watts)).getD 0

/-- The record of one zone. -/
def Block.zone (b : Block) (d : DishId) (z : ZoneKind) : Zone := (b.heater.zones[d]).get z

/-- One zone record replaced. -/
def Block.setZone (b : Block) (d : DishId) (z : ZoneKind) (x : Zone) : Block :=
  { b with heater := { b.heater with zones := b.heater.zones.set d ((b.heater.zones[d]).set z x) } }

/-- One zone record changed. -/
def Block.modZone (b : Block) (d : DishId) (z : ZoneKind) (f : Zone → Zone) : Block := b.setZone d z (f (b.zone d z))

/-- The cold flag the two axes of a dish share (R129). -/
def Block.cold (b : Block) (d : DishId) : Bool := b.heater.cold[d]

/-- One weather entry. -/
def Block.wx (b : Block) (n : WeatherId) : WxEntry := b.weather.entries[n]

/-- One weather entry replaced. -/
def Block.setWx (b : Block) (n : WeatherId) (e : WxEntry) : Block :=
  { b with weather := { b.weather with entries := b.weather.entries.set n e } }

/-- One node entry. -/
def Block.node (b : Block) : NodeRef → Node
  | .cab d => b.field.cabs[d]
  | .wx n => b.field.wxs[n]

/-- One node entry replaced. -/
def Block.setNode (b : Block) (r : NodeRef) (x : Node) : Block :=
  match r with
  | .cab d => { b with field := { b.field with cabs := b.field.cabs.set d x } }
  | .wx n => { b with field := { b.field with wxs := b.field.wxs.set n x } }

/-- One line record. -/
def Block.line (b : Block) : Line → LineRec
  | .a => b.field.lineA
  | .b => b.field.lineB

/-- One line record replaced. -/
def Block.setLine (b : Block) (l : Line) (x : LineRec) : Block :=
  match l with
  | .a => { b with field := { b.field with lineA := x } }
  | .b => { b with field := { b.field with lineB := x } }

/-- A dish is configured when its cabinet is in the configured set (R23, R153). -/
def Block.configured (b : Block) (d : DishId) : Bool := b.field.configured[d]

/-- A node in the cycle (R153). -/
def Block.inCycle (b : Block) : NodeRef → Bool
  | .cab d => b.configured d
  | .wx n => (b.wx n).state != .disabled

/-- A cabinet's reach lets its targets be judged (R18, R135, R144). -/
def Block.heard (b : Block) (d : DishId) : Bool :=
  (b.node (.cab d)).reach == .reachable || (b.node (.cab d)).reach == .degraded

/-- The configured dishes in ascending order. -/
def Block.configuredDishes (b : Block) : List DishId := allDishes.filter b.configured

/-- Every node in ascending address order. -/
def allNodes : List NodeRef := allDishes.map .cab ++ allWeather.map .wx

/-- A group is live until it is finished (R41). -/
def GroupState.live : GroupState → Bool
  | .done | .partly | .aborted => false
  | _ => true

/-! ### Lock counts (R139) -/

/-- An entry names the axis directly or through its dish. -/
def LockEntry.namesAxis (e : LockEntry) (d : DishId) (k : AxisKind) : Bool :=
  e.dish == d && (e.kind == .dish || match k with
    | .az => e.kind == .axisAz
    | .el => e.kind == .axisEl)

/-- An entry names the zone directly or through its dish. -/
def LockEntry.namesZone (e : LockEntry) (d : DishId) (z : ZoneKind) : Bool :=
  e.dish == d && (e.kind == .dish || match z with
    | .surf => e.kind == .zoneSurf
    | .drive => e.kind == .zoneDrive)

/-- The lock count of an axis (R139). -/
def Block.axisLocks (b : Block) (d : DishId) (k : AxisKind) : Nat :=
  (b.lockout.entries.filter fun e => e.namesAxis d k).length

/-- The lock count of a zone (R139). -/
def Block.zoneLocks (b : Block) (d : DishId) (z : ZoneKind) : Nat :=
  (b.lockout.entries.filter fun e => e.namesZone d z).length

/-- The lock count of either axis is above zero. -/
def Block.dishLocked (b : Block) (d : DishId) : Bool := decide (0 < b.axisLocks d .az) || decide (0 < b.axisLocks d .el)

/-! ### Time (R179) -/

/-- The time base and the clock carried forward by n ms; the clock counts on past its last value to 0. -/
def Block.passTime (b : Block) (n : Nat) : Block :=
  { b with site := { b.site with tb := b.site.tb + n, clock := b.site.clock.map fun c => (c + n) % clockMod } }

/-- The time base carried to t where t lies ahead: a timer event is taken when it is due (log 2). -/
def Block.carryTo (b : Block) (t : Nat) : Block := b.passTime (t - b.site.tb)

/-- The site second, 0 while the clock is unset (R138, R148). -/
def Block.siteSecond (b : Block) : Nat := b.site.clock.elim 0 (· / 1000)

/-- Milliseconds to the next time the clock is a multiple of p, the wrap to 0 among them; p while it is unset. -/
def Block.untilMultiple (b : Block) (p : Nat) : Nat :=
  match b.site.clock with
  | some c => min (p - c % p) (clockMod - c)
  | none => p

/-- The time from which a move is ordered to start: the next field cycle boundary plus 200 ms, or 0 while the clock is
unset (R56, R106, R155). The boundary is the clock's next multiple of 100 ms, also while a cycle overruns and its
successor waits (DESIGN CHOICE, log 37). -/
def Block.moveStart (b : Block) : Nat :=
  match b.site.clock with
  | some c => (c + b.untilMultiple 100 + 200) % clockMod
  | none => 0

/-- What passes while no command waits: one millisecond (log 1). -/
def idle (b : Block) : Block := b.passTime 1

/-! ### Fields and reports (R174, R175, R178) -/

/-- An unsigned or signed field of one byte. -/
def f1 (v : Nat) : Fld := ⟨1, v⟩
/-- A two-byte unsigned field. -/
def f2 (v : Nat) : Fld := ⟨2, v⟩
/-- A four-byte unsigned field. -/
def f4 (v : Nat) : Fld := ⟨4, v⟩
/-- A site time. -/
def f6 (v : Nat) : Fld := ⟨6, v⟩
/-- A two-byte signed field. -/
def s2 (v : Int) : Fld := ⟨2, v⟩
/-- A four-byte signed field. -/
def s4 (v : Int) : Fld := ⟨4, v⟩
/-- A flag. -/
def fb (v : Bool) : Fld := ⟨1, if v then 1 else 0⟩

/-- An optional field: its presence byte, then its fields, or as many zero bytes (R178). -/
def fopt {α : Type} (x : Option α) (sizes : List Nat) (f : α → List Fld) : List Fld :=
  match x with
  | some v => f1 1 :: f v
  | none => f1 0 :: sizes.map fun n => ⟨n, 0⟩

/-- A list: its count, then its items (R178). -/
def flist {α : Type} (xs : List α) (f : α → List Fld) : List Fld := f1 xs.length :: xs.flatMap f

/-- Place of a report kind in the mask (R174). -/
def RepKind.bit : RepKind → Nat
  | .axisState => 0 | .dishMode => 1 | .groupState => 2 | .stowLevel => 3 | .siteWeather => 4 | .weatherNode => 5
  | .zoneState => 6 | .snow => 7 | .lockState => 8 | .estop => 9 | .breakHeld => 10 | .breakEnd => 11
  | .nodeReach => 12 | .lineState => 13 | .budget => 14 | .pointsTrimmed => 15 | .clamped => 16 | .trackLag => 17
  | .wear => 18 | .storeFault => 19

/-- Two reports speak of the same thing (R175). -/
def Report.same (x y : Report) : Bool := x.kind == y.kind && x.subject == y.subject

/-- A newer report in the place of a queued one; the previous state the queued one names is kept (R175). -/
def Report.over (new old : Report) : Report := { new with prev := old.prev }

/-- A report joins the queue: in place, at the tail, or at the tail with the oldest dropped; the second answer says
that one was dropped (R175). -/
def joinReports (r : Report) (q : List Report) : List Report × Bool :=
  if q.any r.same then (q.map fun x => if r.same x then r.over x else x, false)
  else if q.length < 64 then (q ++ [r], false)
  else (q.tail ++ [r], true)

/-- A report is sent by its owner: queued where its kind is enabled (R174, R175). -/
def Block.report (b : Block) (kind : RepKind) (subject : Nat) (pre : List Fld) (prev : Option Fld)
    (post : List Fld) : Block :=
  if b.link.mask.getLsbD kind.bit then
    let r : Report :=
      { kind := kind, subject := subject, time := b.site.clock.getD 0, pre := pre, prev := prev, post := post }
    let q := joinReports r b.link.reports
    { b with link := { b.link with reports := q.1, lost := b.link.lost || q.2 } }
  else b

/-- A report without a previous state. -/
def Block.tell (b : Block) (kind : RepKind) (subject : Nat) (fields : List Fld) : Block :=
  b.report kind subject fields none []

/-- Subject number of a dish, an axis, a zone, a group, a node or a line (Table 10-5). -/
def dishNum (d : DishId) : Nat := d.val + 1

/-- Subject number of an axis. -/
def axisNum (d : DishId) : AxisKind → Nat
  | .az => 2 * dishNum d
  | .el => 2 * dishNum d + 1

/-- Subject number of a zone. -/
def zoneNum (d : DishId) : ZoneKind → Nat
  | .surf => 2 * dishNum d
  | .drive => 2 * dishNum d + 1

/-- Number of a group. -/
def groupNum (g : GroupId) : Nat := g.val + 1

/-- Field address of a node (R153). -/
def nodeNum : NodeRef → Nat
  | .cab d => d.val + 1
  | .wx n => n.val + 17

/-- Subject number of a line. -/
def lineNum : Line → Nat
  | .a => 1
  | .b => 2

/-- A change folded over a list of things. -/
def Block.each {α : Type} (b : Block) (xs : List α) (f : α → Block → Block) : Block := xs.foldl (fun s x => f x s) b

end Sys2Proof.Machine
end

