-- ==== Sys2Proof/Machine/Operands.lean ====
section
/-! DEFINITION. Operands.lean: what a request's fields name, and the range checks of each settings request (R2, R23,
R100, R120, R122, R154, R167, R182; Tables 1-2, 5-5, 6-8, 7-2, 10-5). -/

namespace Sys2Proof.Machine

/-- A dish number, 1 to 12 (R23). -/
def dishOf (n : Nat) : Option DishId := if h : n - 1 < 12 ∧ 0 < n then some ⟨n - 1, h.1⟩ else none

/-- A group number, 1 to 8 (R41). -/
def groupOf (n : Nat) : Option GroupId := if h : n - 1 < 8 ∧ 0 < n then some ⟨n - 1, h.1⟩ else none

/-- A weather node's field address, 17 to 24 (R85). -/
def wxOf (n : Nat) : Option WeatherId := if h : n - 17 < 8 ∧ 17 ≤ n then some ⟨n - 17, h.1⟩ else none

/-- An axis by its subject number (Table 10-5). -/
def axisOf (n : Nat) : Option (DishId × AxisKind) :=
  (dishOf (n / 2)).map fun d => (d, if n % 2 = 0 then .az else .el)

/-- A zone by its subject number (Table 10-5). -/
def zoneOf (n : Nat) : Option (DishId × ZoneKind) :=
  (dishOf (n / 2)).map fun d => (d, if n % 2 = 0 then .surf else .drive)

/-- A target kind, numbered as Table 8-1 lists them. -/
def lockKindOf : Nat → Option LockKind
  | 0 => some .axisAz | 1 => some .axisEl | 2 => some .zoneSurf | 3 => some .zoneDrive | 4 => some .dish
  | _ => none

/-- A wrap preference, numbered as Table 3-1 lists them. -/
def wrapOf : Nat → Option WrapPref
  | 0 => some .nearest | 1 => some .positive | 2 => some .negative
  | _ => none

/-- A dish a request names: BAD_VALUE outside 1 to 12, NO_SUCH when it is not configured (R23). -/
def Block.useDish (b : Block) (n : Nat) : Except Code DishId :=
  match dishOf n with
  | none => .error .badValue
  | some d => if b.configured d then .ok d else .error .noSuch

/-- lo ≤ x ≤ hi. -/
def within (lo hi x : Int) : Bool := decide (lo ≤ x) && decide (x ≤ hi)

/-- lo ≤ x ≤ hi over the naturals. -/
def withinN (lo hi x : Nat) : Bool := decide (lo ≤ x) && decide (x ≤ hi)

/-- The hardware range of an axis (00_scope.md 4.3). -/
def hwLo : AxisKind → Int
  | .az => -270000
  | .el => 0

/-- The upper end of the hardware range. -/
def hwHi : AxisKind → Int
  | .az => 270000
  | .el => 90000

/-- The wind stow elevation (Table 0-3). -/
def stowEl : Int := 89000

/-- The snow shed elevation (Table 0-3). -/
def shedEl : Int := 15000

/-- The parameters of CONFIG_AXIS lie in their ranges and meet the conditions of R2. -/
def axisParamsOk (p : AxisParams) (k : AxisKind) : Bool :=
  within 1 20000 p.v && within 1 20000 p.a && withinN 0 30000 p.pmax && withinN 0 5000 p.phold
  && withinN 0 10000 p.ptrack && withinN 0 30000 p.pstow && withinN 1 600 p.parkDelay && withinN 1000 1000000 p.wear
  && within 1 1000 p.tol && within 1 10000 p.lagTol
  && decide (p.lo < p.hi) && decide (hwLo k ≤ p.lo) && decide (p.hi ≤ hwHi k)
  && decide (p.phold ≤ p.ptrack)
  && match k with
    | .az => decide (p.stowRate = 0) && decide (p.pstow = 0)
    | .el => within 14 20000 p.stowRate && decide (p.lo ≤ shedEl) && decide (stowEl ≤ p.hi)

/-- The configuration the parameters give. -/
def axisParamsCfg (p : AxisParams) : AxisCfg :=
  { v := p.v.toNat, a := p.a.toNat, pmax := p.pmax, phold := p.phold, ptrack := p.ptrack, lo := p.lo, hi := p.hi
    stowRate := p.stowRate.toNat, pstow := p.pstow, parkDelay := p.parkDelay, wear := p.wear
    tol := p.tol.toNat, lagTol := p.lagTol.toNat }

/-- The parameters of CONFIG_ZONE lie in their ranges (R122). -/
def zoneParamsOk (p : ZoneParams) (z : ZoneKind) : Bool :=
  withinN 0 20000 p.rated && within (-400) 300 p.setpoint && within 1 100 p.step
  && match z with
    | .surf => decide (p.autoMelt ≤ 1)
    | .drive => decide (p.autoMelt = 0)

/-- The configuration the parameters give. -/
def zoneParamsCfg (p : ZoneParams) : ZoneCfg :=
  { rated := p.rated, setpoint := p.setpoint, step := p.step.toNat, autoMelt := p.autoMelt == 1 }

/-- One of the four link rates (R167). -/
def rateOf (n : Nat) : Option LinkRate :=
  if n = 57600 then some .r57600 else if n = 115200 then some .r115200 else if n = 230400 then some .r230400
  else if n = 460800 then some .r460800 else none

/-- A polarity's code. -/
def polarityOf (n : Nat) : PinPolarity := if n = 0 then .activeHigh else .activeLow

/-- A drive's code. -/
def driveOf (n : Nat) : PinDrive := if n = 0 then .pushPull else .openDrain

/-- The settings of CONFIG_SITE lie in their ranges and meet the conditions of R100 (R79, R120, R126, R167, R182). -/
def siteParamsOk (p : SiteParams) : Bool :=
  decide (p.policy ≤ 1) && withinN 0 200000 p.hmin
  && withinN 1 750 p.stowMean && withinN 1 750 p.stowGust && withinN 1 750 p.watchMean && withinN 1 750 p.watchGust
  && withinN 0 749 p.relMean && withinN 0 749 p.relGust && withinN 0 749 p.watchRelMean && withinN 0 749 p.watchRelGust
  && decide (p.relMean < p.stowMean) && decide (p.relGust < p.stowGust)
  && decide (p.watchRelMean < p.watchMean) && decide (p.watchRelGust < p.watchGust)
  && decide (p.watchMean ≤ p.stowMean) && decide (p.watchGust ≤ p.stowGust)
  && withinN 1 8 p.quorum && withinN 1 50 p.warmTarget && withinN 1 127 p.lifetime && withinN 10 600 p.grace
  && withinN 60 7200 p.relHold && within 0 89000 p.watchMinEl
  && decide (p.resume ≤ 1) && decide (p.autoShed ≤ 1) && withinN 1 600 p.shedThreshold && withinN 10 3600 p.shedDwell
  && decide (p.autoPrewarm ≤ 1) && (rateOf p.rate).isSome
  && decide (p.polBeacon ≤ 1) && decide (p.polStow ≤ 1) && decide (p.polFault ≤ 1)
  && decide (p.drvBeacon ≤ 1) && decide (p.drvStow ≤ 1) && decide (p.drvFault ≤ 1) && decide (p.polEstop ≤ 1)
  && [0, 1, 2, 4].contains p.deglitch && withinN 0 30 p.warn

/-- The settings the parameters give. -/
def siteParamsCfg (p : SiteParams) : SiteCfg :=
  { policy := if p.policy = 0 then .motionOverMelt else .meltFirst, hmin := p.hmin
    stowMean := p.stowMean, stowGust := p.stowGust, watchMean := p.watchMean, watchGust := p.watchGust
    relMean := p.relMean, relGust := p.relGust, watchRelMean := p.watchRelMean, watchRelGust := p.watchRelGust
    quorum := p.quorum, warmTarget := p.warmTarget, lifetime := p.lifetime, grace := p.grace, relHold := p.relHold
    watchMinEl := p.watchMinEl, resume := if p.resume = 0 then .auto else .manual, autoShed := p.autoShed == 1
    shedThreshold := p.shedThreshold, shedDwell := p.shedDwell, autoPrewarm := p.autoPrewarm == 1
    rate := (rateOf p.rate).getD .r115200
    polBeacon := polarityOf p.polBeacon, polStow := polarityOf p.polStow, polFault := polarityOf p.polFault
    drvBeacon := driveOf p.drvBeacon, drvStow := driveOf p.drvStow, drvFault := driveOf p.drvFault
    polEstop := polarityOf p.polEstop, deglitch := p.deglitch, warn := p.warn }

/-- The settings of CONFIG_LINES lie in their ranges (R154). -/
def linesParamsOk (p : LinesParams) : Bool :=
  withinN 1 63 p.delayA && withinN 1 63 p.delayB && decide (p.polA ≤ 1) && decide (p.polB ≤ 1)

/-- A dish is in the cabinet set a request carries: its flag byte is 1 (R154, Table 10-8, log 18). -/
def linesParamsNames (p : LinesParams) (d : DishId) : Bool := p.cabinets[d.val]? == some 1

end Sys2Proof.Machine
end

