-- ==== Sys2Proof/WellFormed.lean ====
section
/-! DEFINITION. WellFormed.lean: a command is well formed when each of its fields fits the size Table 10-8 gives it and
the tag is not 0 (R169 step 2). Whether a value lies in its range is for the owner to judge, not for this check. -/

namespace Sys2Proof

/-- An unsigned field of n bytes. -/
def fitsU (n x : Nat) : Bool := x < 256 ^ n

/-- A signed field of n bytes in two's complement. -/
def fitsS (n : Nat) (x : Int) : Bool := -(256 ^ n : Int) ≤ 2 * x && 2 * x < (256 ^ n : Int)

/-- The parameters of CONFIG_AXIS fit their fields. -/
def AxisParams.wf (p : AxisParams) : Bool :=
  fitsS 4 p.v && fitsS 4 p.a && fitsU 4 p.pmax && fitsU 4 p.phold && fitsU 4 p.ptrack && fitsS 4 p.lo && fitsS 4 p.hi
  && fitsS 4 p.stowRate && fitsU 4 p.pstow && fitsU 2 p.parkDelay && fitsU 4 p.wear && fitsS 4 p.tol && fitsS 4 p.lagTol

/-- The parameters of CONFIG_ZONE fit their fields. -/
def ZoneParams.wf (p : ZoneParams) : Bool :=
  fitsU 4 p.rated && fitsS 2 p.setpoint && fitsS 2 p.step && fitsU 1 p.autoMelt

/-- The settings of CONFIG_SITE fit their fields. -/
def SiteParams.wf (p : SiteParams) : Bool :=
  fitsU 1 p.policy && fitsU 4 p.hmin && fitsU 2 p.stowMean && fitsU 2 p.stowGust && fitsU 2 p.watchMean
  && fitsU 2 p.watchGust && fitsU 2 p.relMean && fitsU 2 p.relGust && fitsU 2 p.watchRelMean && fitsU 2 p.watchRelGust
  && fitsU 1 p.quorum && fitsU 1 p.warmTarget && fitsU 2 p.lifetime && fitsU 2 p.grace && fitsU 2 p.relHold
  && fitsS 4 p.watchMinEl && fitsU 1 p.resume && fitsU 1 p.autoShed && fitsU 2 p.shedThreshold && fitsU 2 p.shedDwell
  && fitsU 1 p.autoPrewarm && fitsU 4 p.rate && fitsU 1 p.polBeacon && fitsU 1 p.polStow && fitsU 1 p.polFault
  && fitsU 1 p.drvBeacon && fitsU 1 p.drvStow && fitsU 1 p.drvFault && fitsU 1 p.polEstop && fitsU 2 p.deglitch
  && fitsU 2 p.warn

/-- The settings of CONFIG_LINES fit their fields. -/
def LinesParams.wf (p : LinesParams) : Bool :=
  fitsU 2 p.delayA && fitsU 1 p.polA && fitsU 2 p.delayB && fitsU 1 p.polB
  && p.cabinets.length == 12 && p.cabinets.all (fitsU 1)

/-- A point fits its fields. -/
def PointParams.wf (p : PointParams) : Bool := fitsU 6 p.time && fitsS 4 p.az && fitsS 4 p.el

/-- The fields of a command fit their sizes; bytes and enumerated operands of events always do. -/
def Instr.fieldsWf : Instr → Bool
  | .getStatus _ s d => fitsU 1 s && d.all (fitsU 1)
  | .setTime _ ms => fitsU 6 ms
  | .configAxis _ s p => fitsU 2 s && p.wf
  | .configZone _ s p => fitsU 2 s && p.wf
  | .configSite _ p => p.wf
  | .configLines _ p => p.wf
  | .setBudget _ w => fitsU 4 w
  | .addPoints _ d ps => fitsU 1 d && decide (1 ≤ ps.length ∧ ps.length ≤ 16) && ps.all PointParams.wf
  | .flushPoints _ d => fitsU 1 d
  | .trackStart _ d => fitsU 1 d
  | .trackStop _ d => fitsU 1 d
  | .holdDish _ d => fitsU 1 d
  | .parkDish _ d => fitsU 1 d
  | .formGroup _ ds az el p t w l =>
    decide (ds.length ≤ 255) && ds.all (fitsU 1) && fitsS 4 az && fitsS 4 el && fitsU 1 p && fitsU 1 t && fitsU 1 w
    && fitsU 2 l
  | .startGroup _ g => fitsU 1 g
  | .abortGroup _ g => fitsU 1 g
  | .getGroup _ g => fitsU 1 g
  | .prewarm _ d a => fitsU 1 d && fitsU 1 a
  | .snowForce _ a => fitsU 1 a
  | .weatherEnable _ n => fitsU 1 n
  | .weatherDisable _ n => fitsU 1 n
  | .shed _ d => fitsU 1 d
  | .resume _ d => fitsU 1 d
  | .clearContext _ d => fitsU 1 d
  | .placeLock _ k d h => fitsU 1 k && fitsU 1 d && fitsU 2 h
  | .removeLock _ n h => fitsU 2 n && fitsU 2 h
  | .listLocks _ c => fitsU 2 c
  | .resetFault _ t => fitsU 1 t.form && fitsU 2 t.num
  | .resetWear _ s => fitsU 2 s
  | _ => true

/-- A well-formed command: its fields fit and a request's tag is not 0. -/
def Instr.wf (i : Instr) : Bool :=
  i.fieldsWf && match i.tag? with
    | some t => t != 0
    | none => true

end Sys2Proof
end

