-- ==== Sys2Proof/Machine/Frames.lean ====
section
/-! DEFINITION. Frames.lean: the bytes of the link and field frames (10.5, Tables 10-1 to 10-8, R169, R177, R178): CRC,
integers, orders, answers, requests, replies and reports. -/

namespace Sys2Proof.Machine

/-! ### Integers and the CRC (10.5) -/

/-- An unsigned value from bytes, most significant first. -/
def beNat (bs : List Byte) : Nat := bs.foldl (fun n x => n * 256 + x.toNat) 0

/-- A signed value in two's complement. -/
def beInt (bs : List Byte) : Int :=
  let n := beNat bs
  if 2 * n < 256 ^ bs.length then n else (n : Int) - 256 ^ bs.length

/-- The n bytes of a value, most significant first, modulo 256^n. -/
def toBytes : Nat → Nat → List Byte
  | 0, _ => []
  | n + 1, v => toBytes n (v / 256) ++ [BitVec.ofNat 8 v]

/-- The bytes of a field; a negative value in two's complement. -/
def Fld.bytes (f : Fld) : List Byte := toBytes f.size (f.val % (256 ^ f.size : Int)).toNat

/-- The bytes of a list of fields. -/
def fieldBytes (fs : List Fld) : List Byte := fs.flatMap Fld.bytes

/-- One bit step of the CRC with polynomial 0x1021. -/
def crcBit (c : BitVec 16) : BitVec 16 := if c.msb then (c <<< 1) ^^^ 0x1021#16 else c <<< 1

/-- One byte of the CRC, most significant bit first. -/
def crcByte (c : BitVec 16) (x : Byte) : BitVec 16 :=
  let c := c ^^^ (x.zeroExtend 16 <<< 8)
  crcBit (crcBit (crcBit (crcBit (crcBit (crcBit (crcBit (crcBit c)))))))

/-- The CRC-16 of a frame: initial value 0xFFFF, no final inversion. -/
def crc16 (bs : List Byte) : BitVec 16 := bs.foldl crcByte 0xFFFF#16

/-- Bytes followed by their CRC. -/
def withCrc (bs : List Byte) : List Byte := bs ++ toBytes 2 (crc16 bs).toNat

/-- Bytes that end in the CRC of what stands before it. -/
def crcGood (bs : List Byte) : Bool :=
  decide (2 ≤ bs.length) && bs == withCrc (bs.take (bs.length - 2))

/-! ### Field orders (Table 10-6) -/

/-- Order codes. -/
def Order.code : Order → Nat
  | .none => 0 | .hold => 1 | .brake => 2 | .release => 3 | .stop => 4 | .move .. => 5 | .track _ => 6
  | .brakeTest => 7

/-- The 32 bytes of one axis order. -/
def Order.bytes (o : Order) : List Byte :=
  let head := fun (n : Nat) => toBytes 1 o.code ++ toBytes 1 n
  match o with
  | .move target dur start =>
    head 0 ++ fieldBytes [⟨4, target⟩, ⟨2, dur⟩, ⟨6, start⟩] ++ List.replicate 18 0
  | .track pts =>
    let body := pts.flatMap fun p => fieldBytes [⟨6, p.time⟩, ⟨4, p.pos⟩]
    head pts.length ++ body ++ List.replicate (30 - body.length) 0
  | _ => head 0 ++ List.replicate 30 0

/-- The body of an order frame. -/
def OrderSent.body : OrderSent → List Byte
  | .poll => []
  | .cabinet time az el surf drive =>
    toBytes 6 time ++ az.bytes ++ el.bytes ++ [BitVec.ofNat 8 ((if surf then 1 else 0) + (if drive then 2 else 0))]

/-- The order frame to a node (Table 10-6). -/
def orderFrame (addr seq : Nat) (o : OrderSent) : List Byte :=
  withCrc (toBytes 1 addr ++ toBytes 1 seq ++ toBytes 1 o.body.length ++ o.body)

/-! ### Field answers (Table 10-7, R177) -/

/-- A byte of a frame; 0 past its end. -/
def byteAt (bs : List Byte) (i : Nat) : Nat := ((bs[i]?).getD 0).toNat

/-- A slice of a frame. -/
def slice (bs : List Byte) (i n : Nat) : List Byte := (bs.drop i).take n

/-- An acceptance code. -/
def acceptanceOf : Nat → Option Acceptance
  | 0 => some .accepted | 1 => some .refused | 2 => some .corrupt
  | _ => none

/-- A fault code. -/
def faultCodeOf : Nat → Option FaultCode
  | 0 => some .none | 1 => some .drive | 2 => some .limit | 3 => some .cleared
  | _ => none

/-- A test result code. -/
def testOf : Nat → Option TestResult
  | 0 => some .none | 1 => some .pass | 2 => some .fail
  | _ => none

/-- A precipitation code; none for a value that is none of the three, which is no bad answer (R177). -/
def precipOf : Nat → Option Precip
  | 0 => some .none | 1 => some .liquid | 2 => some .frozen
  | _ => none

/-- A bit of a byte. -/
def bitAt (n i : Nat) : Bool := n.testBit i

/-- The 11 bytes of one axis. -/
def axisPart (bs : List Byte) : Option AxisReport :=
  match faultCodeOf (byteAt bs 9), testOf (byteAt bs 10) with
  | some c, some t =>
    some
      { pos := beInt (slice bs 0 4), rate := beInt (slice bs 4 4), released := bitAt (byteAt bs 8) 0
        driveOn := bitAt (byteAt bs 8) 1, code := c, test := t }
  | _, _ => none

/-- A cabinet body of 28 bytes. -/
def cabPart (bs : List Byte) : Option CabBody :=
  match axisPart (slice bs 0 11), axisPart (slice bs 11 11) with
  | some az, some el =>
    some
      { az := az, el := el, surfTemp := beInt (slice bs 22 2), driveTemp := beInt (slice bs 24 2)
        surfOn := bitAt (byteAt bs 26) 0, driveOn := bitAt (byteAt bs 26) 1
        lockout := bitAt (byteAt bs 27) 0, estop := bitAt (byteAt bs 27) 1 }
  | _, _ => none

/-- A weather body of 8 bytes; a sensor-fault byte other than 1 is read as clear (DESIGN CHOICE, log 39). -/
def wxPart (bs : List Byte) : WxBody :=
  { mean := beNat (slice bs 0 2), gust := beNat (slice bs 2 2), ambient := beInt (slice bs 4 2)
    precip := precipOf (byteAt bs 6), fault := byteAt bs 7 == 1 }

/-- The body of an answer of a node. -/
def answerBody (r : NodeRef) (body : List Byte) : Option AnswerBody :=
  match r with
  | .cab _ => if body.length = 28 then (cabPart body).map .cab else none
  | .wx _ => if body.length = 8 then some (.wx (wxPart body)) else none

/-- An answer frame that passes its CRC, its length and its codes for a node: address, answered sequence, status
sequence and answer (Table 10-7, R177). -/
structure AnswerFrame where
  addr : Nat
  answered : Nat
  status : Nat
  answer : Answer
  deriving DecidableEq, Repr

/-- An answer frame read for the node visited. -/
def readAnswer (r : NodeRef) (bs : List Byte) : Option AnswerFrame :=
  let body := slice bs 5 (bs.length - 7)
  if crcGood bs && decide (7 ≤ bs.length) && byteAt bs 4 == bs.length - 7 then
    match acceptanceOf (byteAt bs 3), answerBody r body with
    | some acc, some x => some ⟨byteAt bs 0, byteAt bs 1, byteAt bs 2, ⟨acc, x⟩⟩
    | _, _ => none
  else none

/-! ### Requests (Tables 10-3 and 10-5, R178) -/

/-- The kind value of a request (Table 10-3). -/
def kindOf : Instr → Option Nat
  | .identify .. => some 0x01 | .getStatus .. => some 0x02 | .setTime .. => some 0x03
  | .configAxis .. => some 0x10 | .configZone .. => some 0x11 | .configSite .. => some 0x12
  | .configLines .. => some 0x13 | .saveConfig .. => some 0x14
  | .setBudget .. => some 0x18 | .getBudget .. => some 0x19
  | .addPoints .. => some 0x20 | .flushPoints .. => some 0x21 | .trackStart .. => some 0x22
  | .trackStop .. => some 0x23 | .holdDish .. => some 0x24 | .parkDish .. => some 0x25
  | .formGroup .. => some 0x28 | .startGroup .. => some 0x29 | .abortGroup .. => some 0x2A | .getGroup .. => some 0x2B
  | .prewarm .. => some 0x30 | .snowForce .. => some 0x31
  | .weatherEnable .. => some 0x34 | .weatherDisable .. => some 0x35 | .forgetWeather .. => some 0x36
  | .getWeather .. => some 0x37 | .stowNow .. => some 0x38 | .stowRelease .. => some 0x39
  | .shed .. => some 0x3A | .resume .. => some 0x3B | .clearContext .. => some 0x3C
  | .placeLock .. => some 0x40 | .removeLock .. => some 0x41 | .listLocks .. => some 0x42
  | .resetFault .. => some 0x48 | .resetWear .. => some 0x49 | .clearEstop .. => some 0x4A
  | .setReportMask .. => some 0x50 | .softReset .. => some 0x51
  | _ => none

/-- The kind values of Table 10-3. -/
def requestKinds : List Nat :=
  [0x01, 0x02, 0x03, 0x10, 0x11, 0x12, 0x13, 0x14, 0x18, 0x19, 0x20, 0x21, 0x22, 0x23, 0x24, 0x25, 0x28, 0x29, 0x2A,
    0x2B, 0x30, 0x31, 0x34, 0x35, 0x36, 0x37, 0x38, 0x39, 0x3A, 0x3B, 0x3C, 0x40, 0x41, 0x42, 0x48, 0x49, 0x4A, 0x50,
    0x51]

/-- A field read from the front of a body at an offset. -/
def rdU (bs : List Byte) (i n : Nat) : Nat := beNat (slice bs i n)
/-- A signed field. -/
def rdS (bs : List Byte) (i n : Nat) : Int := beInt (slice bs i n)

/-- The points of ADD_POINTS, 14 bytes each. -/
def readPoints : Nat → List Byte → List PointParams
  | 0, _ => []
  | n + 1, bs => ⟨rdU bs 0 6, rdS bs 6 4, rdS bs 10 4⟩ :: readPoints n (bs.drop 14)

/-- The parameters of CONFIG_AXIS, in the order of Table 1-2. -/
def readAxis (b : List Byte) : AxisParams :=
  ⟨rdS b 0 4, rdS b 4 4, rdU b 8 4, rdU b 12 4, rdU b 16 4, rdS b 20 4, rdS b 24 4, rdS b 28 4, rdU b 32 4, rdU b 36 2, rdU b 38 4, rdS b 42 4,
    rdS b 46 4⟩

/-- The settings of CONFIG_SITE, by chapter: 4, 5, 6, 7, 10, 11 (R178). -/
def readSite (b : List Byte) : SiteParams :=
  { policy := rdU b 0 1, hmin := rdU b 1 4
    stowMean := rdU b 5 2, stowGust := rdU b 7 2, watchMean := rdU b 9 2, watchGust := rdU b 11 2
    relMean := rdU b 13 2, relGust := rdU b 15 2, watchRelMean := rdU b 17 2, watchRelGust := rdU b 19 2
    quorum := rdU b 21 1, warmTarget := rdU b 22 1, lifetime := rdU b 23 2, grace := rdU b 25 2, relHold := rdU b 27 2
    watchMinEl := rdS b 29 4, resume := rdU b 33 1, autoShed := rdU b 34 1, shedThreshold := rdU b 35 2, shedDwell := rdU b 37 2
    autoPrewarm := rdU b 39 1, rate := rdU b 40 4
    polBeacon := rdU b 44 1, polStow := rdU b 45 1, polFault := rdU b 46 1
    drvBeacon := rdU b 47 1, drvStow := rdU b 48 1, drvFault := rdU b 49 1, polEstop := rdU b 50 1
    deglitch := rdU b 51 2, warn := rdU b 53 2 }

/-- The length a body of this kind must have; for the two requests with a list, a head and whole items within the
list's count (R169 step 4). ADD_POINTS with no item or more than 16 has a bad length; the count of FORM_GROUP is left to
check 1 of Table 3-3, which names it (DEDUCED, log 36). -/
def lengthOk (kind : Nat) (b : List Byte) : Bool :=
  let n := b.length
  match kind with
  | 0x02 => n == 3 | 0x03 => n == 6 | 0x10 => n == 52 | 0x11 => n == 11 | 0x12 => n == 55 | 0x13 => n == 18
  | 0x18 => n == 4
  | 0x20 => decide (2 ≤ n) && decide (1 ≤ rdU b 1 1) && decide (rdU b 1 1 ≤ 16) && n == 2 + 14 * rdU b 1 1
  | 0x21 | 0x22 | 0x23 | 0x24 | 0x25 | 0x29 | 0x2A | 0x2B | 0x31 | 0x34 | 0x35 | 0x36 | 0x3A | 0x3B | 0x3C => n == 1
  | 0x28 => decide (1 ≤ n) && n == 1 + rdU b 0 1 + 13
  | 0x30 => n == 2
  | 0x40 => n == 4 | 0x41 => n == 4 | 0x42 => n == 2 | 0x48 => n == 3 | 0x49 => n == 2 | 0x50 => n == 4
  | _ => n == 0

/-- The dish of GET_STATUS behind its presence byte, 1 when present (R173, R178); a presence byte other than 1 is read as
absent (DESIGN CHOICE, log 28). -/
def readStatusDish (b : List Byte) : Option Nat := if rdU b 1 1 = 1 then some (rdU b 2 1) else none

/-- The request a frame's kind, tag and body give, of a kind of Table 10-3 and a good length (R178). -/
def readRequest (kind : Nat) (t : Tag) (b : List Byte) : Option Instr :=
  match kind with
  | 0x01 => some (.identify t)
  | 0x02 => some (.getStatus t (rdU b 0 1) (readStatusDish b))
  | 0x03 => some (.setTime t (rdU b 0 6))
  | 0x10 => some (.configAxis t (rdU b 0 2) (readAxis (b.drop 2)))
  | 0x11 => some (.configZone t (rdU b 0 2) ⟨rdU b 2 4, rdS b 6 2, rdS b 8 2, rdU b 10 1⟩)
  | 0x12 => some (.configSite t (readSite b))
  | 0x13 => some (.configLines t ⟨rdU b 0 2, rdU b 2 1, rdU b 3 2, rdU b 5 1, (slice b 6 12).map (·.toNat)⟩)
  | 0x14 => some (.saveConfig t)
  | 0x18 => some (.setBudget t (rdU b 0 4))
  | 0x19 => some (.getBudget t)
  | 0x20 => some (.addPoints t (rdU b 0 1) (readPoints (rdU b 1 1) (b.drop 2)))
  | 0x21 => some (.flushPoints t (rdU b 0 1))
  | 0x22 => some (.trackStart t (rdU b 0 1))
  | 0x23 => some (.trackStop t (rdU b 0 1))
  | 0x24 => some (.holdDish t (rdU b 0 1))
  | 0x25 => some (.parkDish t (rdU b 0 1))
  | 0x28 =>
    let n := rdU b 0 1
    let r := b.drop (1 + n)
    some (.formGroup t ((slice b 1 n).map (·.toNat)) (rdS r 0 4) (rdS r 4 4) (rdU r 8 1) (rdU r 9 1) (rdU r 10 1) (rdU r 11 2))
  | 0x29 => some (.startGroup t (rdU b 0 1))
  | 0x2A => some (.abortGroup t (rdU b 0 1))
  | 0x2B => some (.getGroup t (rdU b 0 1))
  | 0x30 => some (.prewarm t (rdU b 0 1) (rdU b 1 1))
  | 0x31 => some (.snowForce t (rdU b 0 1))
  | 0x34 => some (.weatherEnable t (rdU b 0 1))
  | 0x35 => some (.weatherDisable t (rdU b 0 1))
  | 0x36 => some (.forgetWeather t ((b[0]?).getD 0))
  | 0x37 => some (.getWeather t)
  | 0x38 => some (.stowNow t)
  | 0x39 => some (.stowRelease t)
  | 0x3A => some (.shed t (rdU b 0 1))
  | 0x3B => some (.resume t (rdU b 0 1))
  | 0x3C => some (.clearContext t (rdU b 0 1))
  | 0x40 => some (.placeLock t (rdU b 0 1) (rdU b 1 1) (rdU b 2 2))
  | 0x41 => some (.removeLock t (rdU b 0 2) (rdU b 2 2))
  | 0x42 => some (.listLocks t (rdU b 0 2))
  | 0x48 => some (.resetFault t ⟨rdU b 0 1, rdU b 1 2⟩)
  | 0x49 => some (.resetWear t (rdU b 0 2))
  | 0x4A => some (.clearEstop t)
  | 0x50 => some (.setReportMask t (BitVec.ofNat 32 (rdU b 0 4)))
  | 0x51 => some (.softReset t)
  | _ => none

/-- The body of a request (R178). -/
def bodyOf : Instr → List Byte
  | .getStatus _ x d => fieldBytes (⟨1, x⟩ :: fopt d [1] fun n => [⟨1, n⟩])
  | .setTime _ ms => fieldBytes [⟨6, ms⟩]
  | .configAxis _ n p =>
    fieldBytes [⟨2, n⟩, ⟨4, p.v⟩, ⟨4, p.a⟩, ⟨4, p.pmax⟩, ⟨4, p.phold⟩, ⟨4, p.ptrack⟩, ⟨4, p.lo⟩, ⟨4, p.hi⟩,
      ⟨4, p.stowRate⟩, ⟨4, p.pstow⟩, ⟨2, p.parkDelay⟩, ⟨4, p.wear⟩, ⟨4, p.tol⟩, ⟨4, p.lagTol⟩]
  | .configZone _ n p => fieldBytes [⟨2, n⟩, ⟨4, p.rated⟩, ⟨2, p.setpoint⟩, ⟨2, p.step⟩, ⟨1, p.autoMelt⟩]
  | .configSite _ p =>
    fieldBytes [⟨1, p.policy⟩, ⟨4, p.hmin⟩, ⟨2, p.stowMean⟩, ⟨2, p.stowGust⟩, ⟨2, p.watchMean⟩, ⟨2, p.watchGust⟩,
      ⟨2, p.relMean⟩, ⟨2, p.relGust⟩, ⟨2, p.watchRelMean⟩, ⟨2, p.watchRelGust⟩, ⟨1, p.quorum⟩, ⟨1, p.warmTarget⟩,
      ⟨2, p.lifetime⟩, ⟨2, p.grace⟩, ⟨2, p.relHold⟩, ⟨4, p.watchMinEl⟩, ⟨1, p.resume⟩, ⟨1, p.autoShed⟩,
      ⟨2, p.shedThreshold⟩, ⟨2, p.shedDwell⟩, ⟨1, p.autoPrewarm⟩, ⟨4, p.rate⟩, ⟨1, p.polBeacon⟩, ⟨1, p.polStow⟩,
      ⟨1, p.polFault⟩, ⟨1, p.drvBeacon⟩, ⟨1, p.drvStow⟩, ⟨1, p.drvFault⟩, ⟨1, p.polEstop⟩, ⟨2, p.deglitch⟩,
      ⟨2, p.warn⟩]
  | .configLines _ p =>
    fieldBytes [⟨2, p.delayA⟩, ⟨1, p.polA⟩, ⟨2, p.delayB⟩, ⟨1, p.polB⟩] ++ p.cabinets.flatMap (toBytes 1)
  | .setBudget _ w => fieldBytes [⟨4, w⟩]
  | .addPoints _ d ps =>
    fieldBytes [⟨1, d⟩, ⟨1, ps.length⟩] ++ ps.flatMap fun p => fieldBytes [⟨6, p.time⟩, ⟨4, p.az⟩, ⟨4, p.el⟩]
  | .flushPoints _ d | .trackStart _ d | .trackStop _ d | .holdDish _ d | .parkDish _ d | .shed _ d | .resume _ d
  | .clearContext _ d => fieldBytes [⟨1, d⟩]
  | .formGroup _ ds az el p t w l =>
    toBytes 1 ds.length ++ ds.flatMap (toBytes 1)
      ++ fieldBytes [⟨4, az⟩, ⟨4, el⟩, ⟨1, p⟩, ⟨1, t⟩, ⟨1, w⟩, ⟨2, l⟩]
  | .startGroup _ g | .abortGroup _ g | .getGroup _ g => fieldBytes [⟨1, g⟩]
  | .prewarm _ d a => fieldBytes [⟨1, d⟩, ⟨1, a⟩]
  | .snowForce _ a => fieldBytes [⟨1, a⟩]
  | .weatherEnable _ n | .weatherDisable _ n => fieldBytes [⟨1, n⟩]
  | .forgetWeather _ m => [m]
  | .placeLock _ k d h => fieldBytes [⟨1, k⟩, ⟨1, d⟩, ⟨2, h⟩]
  | .removeLock _ n h => fieldBytes [⟨2, n⟩, ⟨2, h⟩]
  | .listLocks _ c => fieldBytes [⟨2, c⟩]
  | .resetFault _ t => fieldBytes [⟨1, t.form⟩, ⟨2, t.num⟩]
  | .resetWear _ n => fieldBytes [⟨2, n⟩]
  | .setReportMask _ m => fieldBytes [⟨4, m.toNat⟩]
  | _ => []

/-- A link frame after its start byte: length, kind, tag, body and CRC (Table 10-5). -/
def linkFrame (kind : Byte) (tag : Tag) (body : List Byte) : List Byte :=
  withCrc (toBytes 2 body.length ++ [kind] ++ toBytes 2 tag.toNat ++ body)

/-- The whole frame of a request, from its start byte; none for an event. -/
def requestFrame (i : Instr) : Option (List Byte) :=
  match kindOf i, i.tag? with
  | some k, some t => some (0xA5#8 :: linkFrame (BitVec.ofNat 8 k) t (bodyOf i))
  | _, _ => none

/-! ### Replies and reports (R171, R174) -/

/-- The value of a result code (Table 10-1). -/
def Code.value : Code → Nat
  | .ok => 0x00 | .clamped => 0x01 | .queued => 0x02 | .unknownRequest => 0x10 | .badLength => 0x11
  | .badValue => 0x12 | .noSuch => 0x20 | .state => 0x21 | .locked => 0x22 | .estop => 0x23 | .wind => 0x24
  | .notReady => 0x25 | .busy => 0x26 | .noTime => 0x27 | .queueFull => 0x31 | .trimmed => 0x32 | .outOfOrder => 0x33
  | .tooFar => 0x34 | .tooLong => 0x35 | .tableFull => 0x36 | .duplicate => 0x37 | .notHolder => 0x40
  | .storeFault => 0x41

/-- The bytes of a reply: the request's kind plus 0x80, or 0xFF under UNKNOWN_REQUEST (Table 10-5, R169). -/
def OutEntry.frame (e : OutEntry) : List Byte :=
  match e.reply with
  | none => []
  | some r =>
    let kind := if r.code = .unknownRequest then 0xFF#8 else e.kind + 0x80#8
    0xA5#8 :: linkFrame kind e.tag (toBytes 1 r.code.value ++ fieldBytes r.body)

/-- The bytes of a report: lost mark, site time, subject and contents (Table 10-5). -/
def Report.frame (r : Report) (lost : Bool) : List Byte :=
  let head := [⟨1, if lost then 1 else 0⟩, (⟨6, r.time⟩ : Fld), ⟨2, r.subject⟩]
  0xA5#8 :: linkFrame (BitVec.ofNat 8 (0xE0 + r.kind.bit)) 0 (fieldBytes (head ++ r.pre ++ r.prev.toList ++ r.post))

end Sys2Proof.Machine
end

