-- ==== Sys2Proof/Machine/Flags.lean ====
section
/-! DEFINITION. Flags.lean: every condition that is judged from other state: beacon requests and the three outputs
(R182), pin levels, stop sources, stow-block reasons (R108), the lost state of an axis, zone modes (R123), the snow
condition (R124), the site weather figures (R92), slots (R132), safe targets (R144) and reach (R161). -/

namespace Sys2Proof.Machine

/-! ### Outputs (R182, Table 11-1) -/

/-- An axis holds its beacon request: release stage BEACON, TESTING or RELEASING (R7). -/
def Axis.wantsBeacon (a : Axis) : Bool :=
  match a.state with
  | .braked => a.stage == .beacon
  | .testing | .releasing => true
  | _ => false

/-- A group that keeps the beacon asserted (R55). -/
def Group.wantsBeacon (g : Group) : Bool := g.state == .starting || g.state == .running

/-- A mode that keeps the beacon asserted. -/
def Mode.wantsBeacon (m : Mode) : Bool := m == .stowing || m == .shedding || m == .returning

/-- The condition of BEACON. -/
def Block.beaconCond (b : Block) : Bool :=
  (allAxes.any fun p => (b.axis p.1 p.2).wantsBeacon)
  || (allGroups.any fun g => (b.group g).elim false Group.wantsBeacon)
  || (allDishes.any fun d => (b.dish d).mode.wantsBeacon)

/-- The condition of STOW. -/
def Block.stowCond (b : Block) : Bool := b.weather.level == .stow

/-- The condition of FAULT. -/
def Block.faultCond (b : Block) : Bool :=
  (allAxes.any fun p => (b.axis p.1 p.2).state == .faulted)
  || (allZones.any fun p => (b.zone p.1 p.2).mode == .fault)
  || (allNodes.any fun r => (b.node r).reach == .unreachable)
  || b.field.lineA.state == .down || b.field.lineB.state == .down
  || b.site.storeFault

/-- How an output pin is driven: high, low, or not at all. -/
inductive PinLevel where
  | high | low | undriven
  deriving DecidableEq, Repr

/-- The level of an output under its settings: undriven until the store is loaded, and by an OPEN_DRAIN output that is
released (R182). -/
def pinLevel (started : Startup) (pol : PinPolarity) (drv : PinDrive) (asserted : Bool) : PinLevel :=
  match started with
  | .starting => .undriven
  | _ =>
    if asserted then (if pol = .activeHigh then .high else .low)
    else if drv = .openDrain then .undriven
    else if pol = .activeHigh then .low else .high

/-- The BEACON pin. -/
def Block.beaconPin (b : Block) : PinLevel :=
  pinLevel b.site.startup b.site.cfg.polBeacon b.site.cfg.drvBeacon b.site.beacon

/-- The STOW pin. -/
def Block.stowPin (b : Block) : PinLevel := pinLevel b.site.startup b.site.cfg.polStow b.site.cfg.drvStow b.site.stow

/-- The FAULT pin. -/
def Block.faultPin (b : Block) : PinLevel :=
  pinLevel b.site.startup b.site.cfg.polFault b.site.cfg.drvFault b.site.fault

/-- A stop mark stands (R181). -/
def StopMarks.any (m : StopMarks) : Bool := m.input || m.lineA || m.lineB || allDishes.any fun d => m.cabs[d]

/-! ### Axes and dishes -/

/-- A state in which an axis serves no requester (R60, R65). -/
def AxisState.lost (st : AxisState) : Bool := st == .locked || st == .faulted || st == .offline

/-- An axis is lost to its requesters: LOCKED, FAULTED, OFFLINE, or its lock count above zero (R27, R60, R61). -/
def Block.axisLost (b : Block) (d : DishId) (k : AxisKind) : Bool :=
  (b.axis d k).state.lost || decide (0 < b.axisLocks d k)

/-- Between b0 and b an axis has become LOCKED, FAULTED or OFFLINE, or its lock count has risen from zero; one that was
lost already is lost anew by another of these (R60, R65, R142). -/
def Block.newlyLost (b0 b : Block) (d : DishId) (k : AxisKind) : Bool :=
  ((b.axis d k).state.lost && (b.axis d k).state != (b0.axis d k).state)
  || (b0.axisLocks d k == 0 && decide (0 < b.axisLocks d k))

/-- Why a lost axis is lost (R60): OFFLINE, FAULT or LOCKED. -/
def Block.lostReason (b : Block) (d : DishId) (k : AxisKind) : DropReason :=
  match (b.axis d k).state with
  | .offline => .offline
  | .faulted => .fault
  | _ => .locked

/-- The stow-block reasons that hold for a dish (R108). -/
def Block.blockReasons (b : Block) (d : DishId) : Blocks :=
  { locked := b.dishLocked d
    estop := b.site.estop
    fault := (b.axis d .az).state == .faulted || (b.axis d .el).state == .faulted
    offline := (b.axis d .az).state == .offline || (b.axis d .el).state == .offline }

/-- Some reason holds. -/
def Blocks.any (x : Blocks) : Bool := x.locked || x.estop || x.fault || x.offline

/-- The reported position of an axis; 0 where none is held (log 25). -/
def Block.pos (b : Block) (d : DishId) (k : AxisKind) : Int := ((b.axis d k).reported.map (·.pos)).getD 0

/-- Both axes hold a reported position. -/
def Block.positioned (b : Block) (d : DishId) : Bool :=
  (b.axis d .az).reported.isSome && (b.axis d .el).reported.isSome

/-- An axis OFFLINE or FAULTED (Table 2-3 check 7). -/
def Block.outOfService (b : Block) (d : DishId) : Bool :=
  (b.blockReasons d).fault || (b.blockReasons d).offline

/-- The latest report lies within the arrival tolerance of a target (R13). -/
def Axis.near (a : Axis) (target : Int) : Bool :=
  match a.reported with
  | some r => decide (absDiff r.pos target ≤ a.cfg.tol)
  | none => false

/-- A site time has been reached by the clock; always so while the clock is unset and the time is 0 (R106). -/
def Block.reached (b : Block) (t : Nat) : Bool :=
  match b.site.clock with
  | some c => decide (t ≤ c)
  | none => true

/-! ### Zones (R123, R128, R132, R136) -/

/-- The watts of a duty (R128). -/
def dutyWatts (rated duty : Nat) : Nat := ceilDiv (rated * duty) 16

/-- The allotment of a zone in W (R121). -/
def Zone.watts (x : Zone) : Nat := dutyWatts x.cfg.rated x.duty

/-- The slot of the zones of a dish in the present heater second (R132). -/
def Block.slotOf (b : Block) (d : DishId) : Nat := (b.heater.slot + dishNum d) % 16

/-- The contactor order of a duty in a slot (R132). -/
def slotOn (duty slot : Nat) : Bool := decide (duty * slot / 16 < duty * (slot + 1) / 16)

/-- The mode of a zone: OFF throughout where its dish is not configured (R121, R166), though its fault flag is set
(DEDUCED, log 36), and otherwise the first row of Table 7-3 that holds (R123). -/
def Block.zoneMode (b : Block) (d : DishId) (z : ZoneKind) : ZoneMode :=
  let x := b.zone d z
  if !b.configured d then .off
  else if x.fault then .fault
  else if !b.heard d then .off
  else if 0 < b.zoneLocks d z then .locked
  else if x.purpose = .none then .idle
  else if x.duty < x.demand then .curtailed
  else if x.purpose = .melt then .melt else .prewarm

/-- A mode that is never served (R130). -/
def ZoneMode.shut (m : ZoneMode) : Bool := m == .fault || m == .off || m == .locked

/-- A locked zone is safe (R136, R144). -/
def Block.zoneSafeNow (b : Block) (d : DishId) (z : ZoneKind) : Bool :=
  decide (0 < b.zoneLocks d z) && b.heard d && !(b.zone d z).fault && (b.zone d z).reported == some false

/-- An axis is safe while it is LOCKED (R144). -/
def Block.axisSafeNow (b : Block) (d : DishId) (k : AxisKind) : Bool := (b.axis d k).state == .locked

/-- Every target an entry names has its safe mark set (R144). -/
def Block.entrySafe (b : Block) (e : LockEntry) : Bool :=
  let ax := b.lockout.axisSafe[e.dish]
  let zn := b.lockout.zoneSafe[e.dish]
  match e.kind with
  | .axisAz => ax.az
  | .axisEl => ax.el
  | .zoneSurf => zn.surf
  | .zoneDrive => zn.drive
  | .dish => ax.az && ax.el && zn.surf && zn.drive

/-! ### Site weather figures (R92) and the snow condition (R124) -/

/-- The readings of the contributing entries. -/
def Block.contributing (b : Block) : List Reading :=
  allWeather.filterMap fun n => if (b.wx n).state = .active then (b.wx n).reading else none

/-- The contributing count. -/
def Block.contribCount (b : Block) : Nat := (allWeather.filter fun n => (b.wx n).state == .active).length

/-- The site wind is KNOWN: the contributing count meets the quorum. -/
def Block.windKnown (b : Block) : Bool := decide (b.site.cfg.quorum ≤ b.contribCount)

/-- The site mean wind, read where the wind is KNOWN. -/
def Block.siteMean (b : Block) : Nat := (b.contributing.map (·.mean)).foldl max 0

/-- The site gust, read where the wind is KNOWN. -/
def Block.siteGust (b : Block) : Nat := (b.contributing.map (·.gust)).foldl max 0

/-- The site ambient: the least of the contributing entries. -/
def Block.siteAmbient (b : Block) : Option Int :=
  match b.contributing.map (·.ambient) with
  | [] => none
  | x :: xs => some (xs.foldl min x)

/-- The site precipitation. -/
def Block.sitePrecip (b : Block) : Precip :=
  if b.contributing.any fun r => r.precip == .frozen then .frozen
  else if b.contributing.any fun r => r.precip == .liquid then .liquid
  else .none

/-- LIQUID precipitation at or below +2.0 °C. -/
def Block.wetSnow (b : Block) : Bool :=
  b.sitePrecip == .liquid && b.siteAmbient.elim false fun t => decide (t ≤ 20)

/-- The snow condition (R124). -/
def Block.snowCond (b : Block) : Bool := b.sitePrecip == .frozen || b.wetSnow || b.heater.snowForce

/-! ### Reach (R161) -/

/-- The reach that two miss counts give a node that is not UNKNOWN. -/
def reachOf (missA missB : Nat) : Reach :=
  if 3 ≤ missA ∧ 3 ≤ missB then .unreachable
  else if 3 ≤ missA ∨ 3 ≤ missB then .degraded
  else .reachable

/-! ### Verify flag (R10) -/

/-- The verify flag of a count under a threshold. -/
def verifyOf (releases wear : Nat) : Bool := decide (wear < releases)

end Sys2Proof.Machine
end

