-- ==== Sys2Proof/Machine/Power.lean ====
section
/-! DEFINITION. Power.lean: the account's primitives (R66 to R78) and the zones' duties with curtailment (R131, R132),
which every grant and every lowered budget uses. No request is judged here; see Grants.lean. -/

namespace Sys2Proof.Machine

/-! ### Totals (R66) -/

/-- The axis claim total. -/
def Block.claimTotal (b : Block) : Nat := (allAxes.map fun p => b.claimWatts p.1 p.2).sum

/-- The stow claim total. -/
def Block.stowTotal (b : Block) : Nat :=
  (allAxes.map fun p => match b.claim p.1 p.2 with
    | some ⟨.stow, w⟩ => w
    | _ => 0).sum

/-- The heat total H. -/
def Block.heatTotal (b : Block) : Nat := (allZones.map fun p => (b.zone p.1 p.2).watts).sum

/-- The budget lags while B_eff exceeds B_req (R69). -/
def Block.lagging (b : Block) : Bool := decide (b.account.breq < b.account.beff)

/-- The figures of every BUDGET report (R69). -/
def Block.budgetFields (b : Block) : List Fld :=
  [f4 b.account.breq, f4 b.account.beff, f4 b.account.floor, f4 b.claimTotal, f4 b.stowTotal, f4 b.heatTotal,
    fb b.lagging]

/-- A BUDGET report. -/
def Block.tellBudget (b : Block) : Block := b.tell .budget 0 b.budgetFields

/-- An examination of the queues is called for (R76). -/
def Block.callExamine (b : Block) : Block := { b with account := { b.account with examineDue := true } }

/-- B_eff follows the claim total down while the budget lags (R69). -/
def Block.followLag (b : Block) : Block :=
  if b.account.breq < b.account.beff then
    let n := max b.account.breq b.claimTotal
    if n = b.account.beff then b else ({ b with account := { b.account with beff := n } }).tellBudget
  else b

/-- A release removes the claim (R71). -/
def Block.releaseClaim (b : Block) (d : DishId) (k : AxisKind) : Block :=
  match b.claim d k with
  | none => b
  | some c => if c.watts = 0 then b.setClaim d k none else ((b.setClaim d k none).followLag).callExamine

/-- A reduction lowers the amount and keeps the class; a figure not below the present amount changes nothing (R71). -/
def Block.reduceClaim (b : Block) (d : DishId) (k : AxisKind) (w : Nat) : Block :=
  match b.claim d k with
  | none => b
  | some c => if w < c.watts then ((b.setClaim d k (some ⟨c.cls, w⟩)).followLag).callExamine else b

/-- The claim falls to P_hold (R3). -/
def Block.reduceToHold (b : Block) (d : DishId) (k : AxisKind) : Block := b.reduceClaim d k (b.axis d k).cfg.phold

/-! ### Zones -/

/-- A ZONE_STATE report (R123); melt run time for SURF, the cold flag for DRIVE, each left out for the other kind with no
presence byte (DESIGN CHOICE, log 28). -/
def Block.tellZone (b : Block) (d : DishId) (z : ZoneKind) : Block :=
  let x := b.zone d z
  b.tell .zoneState (zoneNum d z)
    ([f1 x.mode.ctorIdx, f1 x.purpose.ctorIdx] ++ fopt x.rank [1] (fun r => [f1 r])
      ++ [f1 x.demand, f1 x.duty, f4 x.watts] ++ fopt x.temp [2] (fun t => [s2 t])
      ++ [fb x.commanded] ++ fopt x.reported [1] (fun c => [fb c]) ++ [f1 (b.zoneLocks d z), fb x.fault]
      ++ match z with
        | .surf => [f2 x.meltMin]
        | .drive => [fb (b.cold d)])

/-- The mode of a zone derived anew, without a report (R123). -/
def Block.deriveZone (b : Block) (d : DishId) (z : ZoneKind) : Block :=
  b.modZone d z fun x => { x with mode := b.zoneMode d z }

/-- The mode derived anew, with a report where it changed (R123). -/
def Block.rederiveZone (b : Block) (d : DishId) (z : ZoneKind) : Block :=
  let t := b.deriveZone d z
  if (t.zone d z).mode = (b.zone d z).mode then t else t.tellZone d z

/-- A zone's duty set, its contactor order recomputed for the slot (R132). -/
def Block.setDuty (b : Block) (d : DishId) (z : ZoneKind) (duty : Nat) : Block :=
  b.modZone d z fun x => { x with duty := duty, commanded := slotOn duty (b.slotOf d) }

/-- A zone set to allotment 0 between seconds; a fall of H calls for an examination (R70). -/
def Block.shutZone (b : Block) (d : DishId) (z : ZoneKind) : Block :=
  let t := b.setDuty d z 0
  if 0 < (b.zone d z).watts then t.callExamine else t

/-- The duty left when a zone of this duty is lowered step by step until need watts are cut or duty 0 (R131). -/
def cutDuty (rated from_ need : Nat) : Nat → Nat
  | 0 => 0
  | d + 1 => if need ≤ dutyWatts rated from_ - dutyWatts rated d then d else cutDuty rated from_ need d

/-- One zone cut: the new state and the watts still to cut (R131). -/
def Block.cutZone (b : Block) (d : DishId) (z : ZoneKind) (need : Nat) : Block × Nat :=
  let x := b.zone d z
  if need = 0 ∨ x.duty = 0 then (b, need)
  else
    let duty := cutDuty x.cfg.rated x.duty need x.duty
    (((b.setDuty d z duty).deriveZone d z).tellZone d z, need - (x.watts - dutyWatts x.cfg.rated duty))

/-- A curtailment of at least x watts, in the reverse of the serving order (R131). -/
def Block.curtail (b : Block) (x : Nat) : Block :=
  ((b.heater.serving.reverse).foldl (fun (p : Block × Nat) r => p.1.cutZone r.d r.z p.2) (b, x)).1

/-! ### Grants (R72 to R74, R78) -/

/-- The total M of a request. -/
def total (ws : List Want) : Nat := (ws.map (·.watts)).sum

/-- The claim total less the present claims of a request's own axes (R72). -/
def Block.otherTotal (b : Block) (ws : List Want) : Nat :=
  b.claimTotal - (ws.map fun w => b.claimWatts w.d w.k).sum

/-- The heat that stands against motion (Table 4-3). -/
def Block.heatAgainst (b : Block) : Nat :=
  match b.site.cfg.policy with
  | .motionOverMelt => min b.heatTotal b.site.cfg.hmin
  | .meltFirst => b.heatTotal

/-- The motion fit test for a total over own axes (R73). -/
def Block.motionFits (b : Block) (ws : List Want) : Bool :=
  decide (total ws + b.otherTotal ws + b.heatAgainst ≤ b.account.breq)

/-- The amount of a stow request of a dish (R77). -/
def Block.stowWants (b : Block) (d : DishId) : List Want := [⟨d, .el, (b.axis d .el).cfg.pstow⟩]

/-- The stow fit test (R78). -/
def Block.stowFits (b : Block) (d : DishId) : Bool :=
  decide (total (b.stowWants d) + b.otherTotal (b.stowWants d) ≤ b.account.breq)

/-- A grant: each share replaces its axis's claim, a lag follows, and heat is curtailed by any shortfall (R74). -/
def Block.grant (b : Block) (ws : List Want) (cls : ClaimClass) : Block :=
  let c := (b.each ws fun w s => s.setClaim w.d w.k (some ⟨cls, w.watts⟩)).followLag
  let short := c.claimTotal + c.heatTotal - c.account.breq
  if 0 < short then c.curtail short else c

/-! ### Wait queue and stow-pending list (R75, R77) -/

/-- The dish of a dish request. -/
def Waiter.dishOnly : Waiter → Option DishId
  | .hold d | .track d | .internal d => some d
  | _ => none

/-- Two waiters share one place: the three dish kinds of one dish do (R75). -/
def Waiter.samePlace (x y : Waiter) : Bool :=
  x == y || (x.dishOnly.isSome && x.dishOnly == y.dishOnly)

/-- A requester's entry is in the queue. -/
def Block.waits (b : Block) (who : Waiter) : Bool := b.account.waitq.any fun e => e.who.samePlace who

/-- A withdrawal: the entry leaves, and the queue is examined (R75). -/
def Block.withdraw (b : Block) (who : Waiter) : Block :=
  if b.waits who then
    ({ b with account :=
      { b.account with waitq := b.account.waitq.filter fun e => !e.who.samePlace who } }).callExamine
  else b

/-- A request queued: in the place its requester already has, or at the tail (R75). -/
def Block.enqueue (b : Block) (who : Waiter) (ws : List Want) : Block :=
  let e : WaitEntry := { who := who, wants := ws, time := b.site.tb }
  if b.waits who then
    { b with account :=
      { b.account with waitq := b.account.waitq.map fun x =>
          if x.who.samePlace who then { e with time := x.time } else x } }
  else { b with account := { b.account with waitq := b.account.waitq ++ [e] } }

/-- A stow-pending entry withdrawn by the Sequencer, with an examination (R77). -/
def Block.withdrawStow (b : Block) (d : DishId) : Block :=
  if b.account.stowq.contains d then
    ({ b with account := { b.account with stowq := b.account.stowq.filter (· != d) } }).callExamine
  else b

/-- A stow request entered in dish order, an examination called for (R76, R77). -/
def Block.enterStow (b : Block) (d : DishId) : Block :=
  if b.account.stowq.contains d then b
  else
    ({ b with account := { b.account with stowq := allDishes.filter fun e => e == d || b.account.stowq.contains e } }
      ).callExamine

/-- The stow floor of the configuration (R67). -/
def Block.floorOf (b : Block) : Nat := (b.configuredDishes.map fun d => (b.axis d .el).cfg.pstow).sum

/-- The floor recomputed; B_req and B_eff are raised to it where they lie below (R67). -/
def Block.recomputeFloor (b : Block) : Block :=
  let fl := b.floorOf
  if b.account.breq < fl then
    (({ b with account := { b.account with floor := fl, breq := fl, beff := max fl b.account.beff } }).tellBudget
      ).callExamine
  else { b with account := { b.account with floor := fl } }

end Sys2Proof.Machine
end

