-- ==== Sys2Proof/Machine/Store.lean ====
section
/-! DEFINITION. Store.lean: the replies of the outgoing list, LOCK_STATE reports, and the configuration store's writes
(R143, R151, R170, R183, R184). -/

namespace Sys2Proof.Machine

/-- The reply of an outgoing entry is made ready (R170). -/
def Block.answer (b : Block) (id : Nat) (code : Code) (body : List Fld) (after : After := .nothing) : Block :=
  let out := b.link.out.map fun e =>
    if e.id = id then { e with reply := some ⟨code, body⟩, after := after } else e
  { b with link := { b.link with out := out } }

/-! ### Lock entries -/

/-- The entry of a lock number. -/
def Block.lockEntry (b : Block) (num : Nat) : Option LockEntry := b.lockout.entries.find? fun e => e.num == num

/-- Causes of a LOCK_STATE report (R151). -/
inductive LockCause where
  | placed | engaged | disengaged | stored | removed
  deriving DecidableEq, Repr

/-- The lock counts of the targets an entry names (R151). -/
def Block.targetCounts (b : Block) (e : LockEntry) : List Nat :=
  let ax := fun k => if e.namesAxis e.dish k then [b.axisLocks e.dish k] else []
  let zn := fun z => if e.namesZone e.dish z then [b.zoneLocks e.dish z] else []
  ax .az ++ ax .el ++ zn .surf ++ zn .drive

/-- The fields of a lock entry (Table 8-1). -/
def LockEntry.fields (e : LockEntry) : List Fld :=
  [f2 e.num, f1 e.kind.ctorIdx, f1 (dishNum e.dish), f2 e.holder, fb e.key, fb e.engaged]

/-- The stored flag, absent for a KEY entry. -/
def LockEntry.storedField (e : LockEntry) : List Fld := fopt (if e.key then none else some e.stored) [1] fun s => [fb s]

/-- A LOCK_STATE report (R151); the lock counts, one or four by the entry's kind, are a list with its count byte (DESIGN
CHOICE, log 28). -/
def Block.tellLock (b : Block) (e : LockEntry) (cause : LockCause) : Block :=
  b.tell .lockState e.num
    (e.fields ++ e.storedField ++ flist (b.targetCounts e) (fun n => [f1 n]) ++ [f1 cause.ctorIdx])

/-! ### What a write carries (R183) -/

/-- The configuration image as it stands (R183); of a line whose new polarity waits for the next cycle (R154) it holds
the new one (DESIGN CHOICE, log 43). -/
def Block.imageNow (b : Block) : Image :=
  { axes := vec12 fun d => ⟨(b.axis d .az).cfg, (b.axis d .el).cfg⟩
    zones := vec12 fun d => ⟨(b.zone d .surf).cfg, (b.zone d .drive).cfg⟩
    site := b.site.cfg
    lineA := ⟨b.field.lineA.delay, b.field.lineA.newPol.getD b.field.lineA.inverted⟩
    lineB := ⟨b.field.lineB.delay, b.field.lineB.newPol.getD b.field.lineB.inverted⟩
    cabinets := b.field.configured
    enabled := vec8 fun n => (b.wx n).state != .disabled
    breq := b.account.breq }

/-- The LINK entries as they stand (R143). -/
def Block.linkLocks (b : Block) : List StoredLock :=
  (b.lockout.entries.filter fun e => !e.key).map fun e => ⟨e.num, e.kind, e.dish, e.holder, e.placed⟩

/-- The release counts as they stand. -/
def Block.countsNow (b : Block) : Vector (PerAxis Nat) 12 :=
  vec12 fun d => ⟨(b.axis d .az).releases, (b.axis d .el).releases⟩

/-- A write begins: it takes what stands now; a FULL write meets the purpose of each LOCK or COUNTS write that waits as
it begins (R183), and one that stood ahead of it was written by itself (DESIGN CHOICE, log 43). -/
def Block.beginWrite (b : Block) : Block :=
  match b.site.running, b.site.waiting with
  | none, r :: rest =>
    match r.kind with
    | .lock =>
      { b with site := { b.site with
        running := some { req := r, image := none, locks := some b.linkLocks, counts := none }, waiting := rest } }
    | .counts =>
      { b with site := { b.site with
        running := some { req := r, image := none, locks := none, counts := some b.countsNow }, waiting := rest } }
    | .full =>
      let met := rest.filter fun x => x.kind != .full
      { b with site := { b.site with
        running := some
          { req := { r with locks := r.locks ++ met.flatMap (·.locks) }, image := some b.imageNow
            locks := some b.linkLocks, counts := some b.countsNow }
        waiting := rest.filter fun x => x.kind == .full } }
  | _, _ => b

/-- A write of this kind waits, not yet begun. -/
def Block.waitsWrite (b : Block) (k : WriteKind) : Bool := b.site.waiting.any fun w => w.kind == k

/-- The write queue has room: at most four, the one in progress counting (R183). -/
def Block.writeRoom (b : Block) : Bool :=
  decide (b.site.waiting.length + (if b.site.running.isSome then 1 else 0) < 4)

/-- The waiting writes changed. -/
def Block.setWaiting (b : Block) (ws : List WriteReq) : Block := { b with site := { b.site with waiting := ws } }

/-- A COUNTS write is asked for; where there is no room it is not made (R10, R183), and where a FULL waits it is not
queued beside it (DESIGN CHOICE, log 43). -/
def Block.askCounts (b : Block) : Block :=
  if b.waitsWrite .counts || b.waitsWrite .full then b
  else if b.writeRoom then (b.setWaiting (b.site.waiting ++ [⟨.counts, [], []⟩])).beginWrite
  else b

/-- A STORE_FAULT report: the fault's state, the write concerned and the lock numbers concerned (R143, R183, R184). -/
def Block.tellStoreFault (b : Block) (kind : Option WriteKind) (nums : List Nat) : Block :=
  b.tell .storeFault 0
    (fb b.site.storeFault :: fopt kind [1] (fun k => [f1 k.ctorIdx]) ++ flist nums fun n => [f2 n])

/-- A write failed, or could not be queued (R183, R184, log 17). -/
def Block.storeFail (b : Block) (kind : Option WriteKind) (nums : List Nat) : Block :=
  ({ b with site := { b.site with storeFault := true } }).tellStoreFault kind nums

/-- The reply of a PLACE_LOCK or REMOVE_LOCK when its lock write ends (R141, R143, R145). A PLACE_LOCK whose entry has been
removed meanwhile answers PENDING and not stored; a REMOVE_LOCK answers one flag, set where the removal is stored
(DESIGN CHOICE, log 42). -/
def Block.replyLock (b : Block) (ok : Bool) (a : LockAsk) : Block :=
  if a.place then
    match b.lockEntry a.num with
    | some e => b.answer a.id .ok [f2 a.num, fb e.engaged, fb e.stored]
    | none => b.answer a.id .ok [f2 a.num, fb false, fb false]
  else b.answer a.id .ok [fb ok]

/-- A lock write is asked for (R143): met by one waiting, or ahead of every write not begun, or failed. -/
def Block.askLock (b : Block) (a : LockAsk) : Block :=
  if b.waitsWrite .lock then
    b.setWaiting (b.site.waiting.map fun w =>
      if w.kind = .lock then { w with locks := w.locks ++ [a] } else w)
  else if b.writeRoom then (b.setWaiting (⟨.lock, [a], []⟩ :: b.site.waiting)).beginWrite
  else (b.storeFail (some .lock) [a.num]).replyLock false a

/-- A FULL write is asked for by SAVE_CONFIG (R184): met by one waiting, or at the tail, or failed. -/
def Block.askFull (b : Block) (id : Nat) : Block :=
  if b.waitsWrite .full then
    b.setWaiting (b.site.waiting.map fun w =>
      if w.kind = WriteKind.full then { w with saves := w.saves ++ [id] } else w)
  else if b.writeRoom then (b.setWaiting (b.site.waiting ++ [⟨.full, [], [id]⟩])).beginWrite
  else (b.storeFail (some .full) []).answer id .storeFault []

/-- The stored flag set on the entries a lock write carried, with a report where it was clear (R143). -/
def Block.markStored (b : Block) (nums : List Nat) : Block :=
  let fresh := b.lockout.entries.filter fun e => !e.key && !e.stored && nums.contains e.num
  let marked := b.lockout.entries.map fun e =>
    if !e.key && nums.contains e.num then { e with stored := true } else e
  let t := { b with lockout := { b.lockout with entries := marked } }
  t.each fresh fun e s => s.tellLock { e with stored := true } .stored

/-- The store after a good write: the parts it carries and the checksum over all three are replaced (R183, log 16). -/
def Store.put (st : Store) (w : WriteRun) : Store :=
  { good := true
    image := w.image.getD st.image
    locks := w.locks.getD st.locks
    counts := w.counts.getD st.counts }

/-- The write in progress ends, good or not, and the next begins (R143, R183, R184); a failed one names the locks of the
requests that wait on it, and the STORED reports of a good FULL write join the queue ahead of the STORE_FAULT report of
the fault's clearing (DESIGN CHOICE, log 42). -/
def Block.writeDone (b : Block) (ok : Bool) : Block :=
  match b.site.running with
  | none => b
  | some w =>
    let t := { b with site := { b.site with running := none } }
    let t :=
      if ok then
        let t := { t with site := { t.site with store := t.site.store.put w } }
        let t := match w.locks with
          | some ls => t.markStored (ls.map (·.num))
          | none => t
        if w.req.kind == .full && t.site.storeFault then
          ({ t with site := { t.site with storeFault := false } }).tellStoreFault none []
        else t
      else t.storeFail (some w.req.kind) (w.req.locks.map (·.num))
    let t := t.each w.req.locks fun a s => s.replyLock ok a
    let t := t.each w.req.saves fun id s => s.answer id (if ok then .ok else .storeFault) []
    t.beginWrite

end Sys2Proof.Machine
end

