-- ==== Sys2Proof/Machine/Axis.lean ====
section
/-! DEFINITION. Axis.lean: what one axis does by itself (chapter 1): entering a state, releasing, stopping, engaging,
faulting, going offline, and the answers that bear on it. What its requesters then do is elsewhere. -/

namespace Sys2Proof.Machine

/-- An AXIS_STATE report (R3). -/
def Block.tellAxis (b : Block) (d : DishId) (k : AxisKind) (prev : AxisState) : Block :=
  let a := b.axis d k
  b.report .axisState (axisNum d k) [f1 a.state.ctorIdx] (some (f1 prev.ctorIdx))
    (fopt a.fault [1] (fun r => [f1 r.ctorIdx]) ++ [f1 (b.axisLocks d k), f4 a.releases, fb a.verify])

/-- What an axis keeps as it enters a state: the lag timer belongs to MOVING, the park timer to HELD, the release stage
to BRAKED (R1, R15, R22). -/
def Axis.entered (a : Axis) (st : AxisState) : Axis :=
  { a with
    state := st
    stage := if st = .braked then a.stage else .none
    lag := if st = .moving then a.lag else none
    lagOpen := decide (st = .moving) && a.lagOpen
    parkDue := if st = .held then a.parkDue else none }

/-- An axis enters a state, reporting the change (R3); every state but HELD clears its park request (R31). -/
def Block.enter (b : Block) (d : DishId) (k : AxisKind) (st : AxisState) : Block :=
  let prev := (b.axis d k).state
  let t := b.modAxis d k (·.entered st)
  let t := if st = .held then t
    else t.modDish d fun x => { x with parkReq := x.parkReq.set k false }
  if prev = st then t else t.tellAxis d k prev

/-- The need is removed. -/
def Block.dropNeed (b : Block) (d : DishId) (k : AxisKind) : Block := b.modAxis d k fun a => { a with need := none }

/-- An order replaces the current one; leaving a TRACK order ends the lag (R4, R22). -/
def Block.setOrder (b : Block) (d : DishId) (k : AxisKind) (o : Order) : Block := b.modAxis d k fun a =>
  match o with
  | .track _ => { a with order := o }
  | _ => { a with order := o, lag := none, lagOpen := false }

/-- A release in stage CLAIM or BEACON is ended: the need removed, the stage NONE, the axis's own claim request
withdrawn (R5). -/
def Block.endRelease (b : Block) (d : DishId) (k : AxisKind) : Block :=
  (b.modAxis d k fun a => { a with need := none, stage := .none }).withdraw (.axis d k)

/-- A need is withdrawn by its requester (R5). -/
def Block.withdrawNeed (b : Block) (d : DishId) (k : AxisKind) : Block :=
  let a := b.axis d k
  if a.state = .braked ∧ a.stage ≠ .none then (b.endRelease d k).releaseClaim d k else b.dropNeed d k

/-- ENGAGING is entered: BRAKE ordered, 3 s given (R16). -/
def Block.engage (b : Block) (d : DishId) (k : AxisKind) : Block :=
  ((b.setOrder d k .brake).modAxis d k fun a => { a with opDue := some (b.site.tb + 3000) }).enter d k .engaging

/-- STOPPING is entered with an after-stop intent (R14). -/
def Block.stopAxis (b : Block) (d : DishId) (k : AxisKind) (i : AfterStop) : Block :=
  ((b.setOrder d k .stop).modAxis d k fun a => { a with intent := i }).enter d k .stopping

/-- FAULTED is entered (R17), its claim given back first (DESIGN CHOICE, log 21). -/
def Block.faultAxis (b : Block) (d : DishId) (k : AxisKind) (r : FaultReason) : Block :=
  let t := (b.withdraw (.axis d k)).releaseClaim d k
  ((t.setOrder d k .brake).modAxis d k fun a =>
    { a with opDue := none, parkDue := none, holdDue := none, stage := .none, need := none, fault := some r }
    ).enter d k .faulted

/-- OFFLINE is entered from whatever state, OFFLINE included (R21); a claim held is kept for 10 s. -/
def Block.offlineAxis (b : Block) (d : DishId) (k : AxisKind) : Block :=
  ((b.withdraw (.axis d k)).modAxis d k fun a =>
    { a with opDue := none, stage := .none, need := none, holdDue := some (b.site.tb + 10000) }).enter d k .offline

/-- The axis rests on its brake: LOCKED under a lock, BRAKED otherwise, its claim given back first (R3; DESIGN CHOICE, log
21). -/
def Block.rest (b : Block) (d : DishId) (k : AxisKind) : Block :=
  let t := (b.setOrder d k .none).releaseClaim d k
  if 0 < b.axisLocks d k then t.enter d k .locked else t.enter d k .braked

/-- A brake test is abandoned: order NONE, claim given back (R19, R20). -/
def Block.abandonTest (b : Block) (d : DishId) (k : AxisKind) : Block :=
  (b.modAxis d k fun a => { a with opDue := none, need := none }).rest d k

/-- The lock count of an axis rises from zero (R19). -/
def Block.lockRise (b : Block) (d : DishId) (k : AxisKind) : Block :=
  match (b.axis d k).state with
  | .braked => ((b.withdrawNeed d k).releaseClaim d k).enter d k .locked
  | .testing => b.abandonTest d k
  | .releasing | .held => (b.dropNeed d k).engage d k
  | .moving => (b.dropNeed d k).stopAxis d k .brake
  | .stopping => b.modAxis d k fun a => { a with need := none, intent := .brake }
  | _ => b.dropNeed d k

/-- The lock count of an axis falls to zero (R19). -/
def Block.lockFall (b : Block) (d : DishId) (k : AxisKind) : Block :=
  if (b.axis d k).state = .locked then b.enter d k .braked else b

/-- The e-stop latch is set (R20). -/
def Block.estopAxis (b : Block) (d : DishId) (k : AxisKind) : Block :=
  match (b.axis d k).state with
  | .testing => b.abandonTest d k
  | .releasing | .held | .moving | .stopping => (b.dropNeed d k).engage d k
  | _ => b.withdrawNeed d k

/-- A need reaches an axis (R5): taken, or refused with a reason. A share it carries is given back at once (R82), which
is the axis's whole claim, also where the axis is ENGAGING, STOPPING or OFFLINE (DESIGN CHOICE, log 40). -/
def Block.deliverNeed (b : Block) (d : DishId) (k : AxisKind) (n : Need) : Block × Option DropReason :=
  let a := b.axis d k
  let back := if n.grant.isSome then b.releaseClaim d k else b
  let taken := b.modAxis d k fun a => { a with need := some n }
  if 0 < b.axisLocks d k then (back, some .locked)
  else if b.site.estop then (back, some .estop)
  else match a.state with
  | .offline => (back, some .offline)
  | .faulted => (back, some .fault)
  | .locked => (back, some .locked)
  | .braked =>
    if n.grant.isSome then ((taken.withdraw (.axis d k)).modAxis d k fun a => { a with stage := .beacon }, none)
    else if a.stage = .none then (taken.modAxis d k fun a => { a with stage := .claim }, none)
    else (taken, none)
  | .stopping => (taken.modAxis d k fun a => { a with intent := .hold }, none)
  | _ => (taken, none)

/-- The beacon interval has been met: TESTING in verify mode, RELEASING otherwise (R7, R8, R9). -/
def Block.proceed (b : Block) (d : DishId) (k : AxisKind) : Block :=
  let a := b.axis d k
  let release := ((b.setOrder d k .release).modAxis d k fun a => { a with opDue := some (b.site.tb + 3000) }
    ).enter d k .releasing
  if a.state = .braked ∧ a.stage = .beacon then
    if a.verify then
      ((b.setOrder d k .brakeTest).modAxis d k fun a => { a with opDue := some (b.site.tb + 5000) }).enter d k .testing
    else release
  else if a.state = .testing ∧ a.opDue = none then release
  else b

/-- The verify flag recomputed, with a WEAR report when it becomes set (R10). -/
def Block.judgeWear (b : Block) (d : DishId) (k : AxisKind) : Block :=
  let a := b.axis d k
  let v := verifyOf a.releases a.cfg.wear
  let t := b.modAxis d k fun a => { a with verify := v }
  if v && !a.verify then t.tell .wear (axisNum d k) [f4 a.releases] else t

/-- A release is confirmed (R9, R10). The count and the verify flag are judged before HELD is entered, so that the
AXIS_STATE report carries them anew and a WEAR report of the same event joins the queue ahead of it (DESIGN CHOICE, log
21). -/
def Block.releaseConfirmed (b : Block) (d : DishId) (k : AxisKind) : Block :=
  let n := min ((b.axis d k).releases + 1) 4294967295
  let t := ((b.setOrder d k .hold).modAxis d k fun a => { a with opDue := none, releases := n }).judgeWear d k
  let t := t.enter d k .held
  if n % 256 = 0 then t.askCounts else t

/-- A stop completes (R14). -/
def Block.stopComplete (b : Block) (d : DishId) (k : AxisKind) : Block :=
  let a := b.axis d k
  match a.intent with
  | .brake => b.engage d k
  | .hold =>
    let t := (b.setOrder d k .hold).enter d k .held
    if (a.need.bind (·.grant)).isSome then t else t.reduceToHold d k

/-- An engagement is confirmed (R16). -/
def Block.engageConfirmed (b : Block) (d : DishId) (k : AxisKind) : Block :=
  let t := b.modAxis d k fun a => { a with opDue := none }
  if 0 < b.axisLocks d k ∨ (b.axis d k).need = none ∨ b.site.estop then (t.dropNeed d k).rest d k
  else
    ((t.setOrder d k .none).enter d k .braked).modAxis d k fun a =>
      { a with stage := if (b.claim d k).isSome then .beacon else .claim }

/-- A move arrives (R13). -/
def Block.arrive (b : Block) (d : DishId) (k : AxisKind) : Block :=
  ((b.setOrder d k .hold).enter d k .held).reduceToHold d k

/-- A DRIVE or LIMIT code, as a reason (R17). -/
def FaultCode.reason : FaultCode → Option FaultReason
  | .drive => some .drive
  | .limit => some .limit
  | _ => Option.none

/-- The brake has changed unbidden (R17). -/
def unbidden (st : AxisState) (released : Bool) : Bool :=
  match st with
  | .held | .moving | .stopping => !released
  | .braked | .locked | .testing => released
  | _ => false

/-- The axis is heard again (R21). -/
def Block.heardAgain (b : Block) (d : DishId) (k : AxisKind) (r : AxisReport) : Block :=
  match r.code.reason with
  | some f => b.faultAxis d k f
  | none =>
    let t := b.modAxis d k fun a => { a with holdDue := none }
    if r.released then (t.reduceToHold d k).engage d k else t.rest d k

/-- What an answer does to an axis that shows no fault, by its state (R8, R9, R13, R14, R16). An answer is taken at or
after a start time by the clock at the end of its visit, when it is handed (DESIGN CHOICE, log 37). -/
def Block.answerByState (b : Block) (d : DishId) (k : AxisKind) (r : AxisReport) : Block :=
  let a := b.axis d k
  match a.state with
  | .testing =>
    match r.test with
    | .pass => b.modAxis d k fun a => { a with opDue := none }
    | .fail => b.faultAxis d k .brakeSuspect
    | .none => b
  | .releasing => if r.released && r.driveOn then b.releaseConfirmed d k else b
  | .moving =>
    match a.order with
    | .move target _ start => if b.reached start && a.near target && r.rate == 0 then b.arrive d k else b
    | _ => b
  | .stopping => if r.rate = 0 then b.stopComplete d k else b
  | .engaging => if r.released then b else b.engageConfirmed d k
  | _ => b

/-- An accepted answer reaches an axis: its reported fields are replaced, then a fault is judged before its operation
(R4, R17, R21, log 19). -/
def Block.axisAnswer (b : Block) (d : DishId) (k : AxisKind) (r : AxisReport) : Block :=
  let b := b.modAxis d k fun a => { a with reported := some r }
  let st := (b.axis d k).state
  if st = .offline then b.heardAgain d k r
  else if st = .faulted then b
  else match r.code.reason with
  | some f => b.faultAxis d k f
  | none => if unbidden st r.released then b.faultAxis d k .drive else b.answerByState d k r

/-- A REFUSED acceptance reaches an axis (R17). -/
def Block.axisRefused (b : Block) (d : DishId) (k : AxisKind) : Block :=
  let st := (b.axis d k).state
  if st = .faulted ∨ st = .offline then b else b.faultAxis d k .refused

/-! ### What requesters order (R12, R29, R31, R105) -/

/-- A MOVE order to an axis HELD or MOVING (R12). -/
def Block.orderMove (b : Block) (d : DishId) (k : AxisKind) (target : Int) (dur start : Nat) : Block :=
  (b.setOrder d k (.move target dur start)).enter d k .moving

/-- A HOLD or STOP to an axis: a MOVING axis stops to hold (R12). -/
def Block.orderHold (b : Block) (d : DishId) (k : AxisKind) : Block :=
  if (b.axis d k).state = .moving then b.stopAxis d k .hold else b

/-- A HELD axis is sent BRAKE, its need removed (R12, R15). -/
def Block.orderBrake (b : Block) (d : DishId) (k : AxisKind) : Block := (b.dropNeed d k).engage d k

/-- The need becomes a hold of the dish (R29). -/
def Block.needHold (b : Block) (d : DishId) (k : AxisKind) : Block :=
  b.modAxis d k fun a => { a with need := some ⟨.hold, none⟩ }

/-- R29's table: the axis ends held for the dish at P_hold; a lost axis, a braked one without a release, and every
axis while the latch is set (R5) are left as they stand (log 29). -/
def Block.holdAfterEnd (b : Block) (d : DishId) (k : AxisKind) : Block :=
  let a := b.axis d k
  if b.axisLost d k || b.site.estop then b
  else match a.state with
  | .moving => (b.needHold d k).stopAxis d k .hold
  | .held | .testing | .releasing => (b.needHold d k).reduceToHold d k
  | .braked => if a.stage = .none then b else (b.needHold d k).reduceToHold d k
  | .stopping => (b.needHold d k).modAxis d k fun a => { a with intent := .hold }
  | .engaging => b.needHold d k
  | _ => b

/-- R31's table: the axis is brought to its brake where it stands; a braked one gives back a claim it was left for its
stow (R105, log 13). -/
def Block.brakeInPlace (b : Block) (d : DishId) (k : AxisKind) : Block :=
  match (b.axis d k).state with
  | .held => b.orderBrake d k
  | .moving => (b.dropNeed d k).stopAxis d k .brake
  | .stopping => b.modAxis d k fun a => { a with need := none, intent := .brake }
  | .braked => (b.withdrawNeed d k).releaseClaim d k
  | .testing | .releasing =>
    (b.dropNeed d k).modDish d fun x => { x with parkReq := x.parkReq.set k true }
  | .engaging => b.dropNeed d k
  | _ => b

end Sys2Proof.Machine
end

