-- ==== Sys2Proof/Machine/Points.lean ====
section
/-! DEFINITION. Points.lean: resolving, clamping, admitting, trimming, consuming, raising and flushing points, the points
of a TRACK order, and track lag (R22, R34 to R40). -/

namespace Sys2Proof.Machine

/-- The wrap candidates of a sky azimuth, ascending (00_scope.md 4.3). -/
def candidates (sky : Int) : List Int := [sky - 360000, sky, sky + 360000]

/-- The nearest to a reference; the more positive where two are equally near (R37). -/
def nearestTo (ref : Int) : List Int → Option Int
  | [] => none
  | x :: xs =>
    match nearestTo ref xs with
    | none => some x
    | some y => if absDiff x ref < absDiff y ref then some x else some y

/-- The reference a point's azimuth is resolved against (R37). -/
def Block.azRef (b : Block) (d : DishId) : Int :=
  match (b.queue d).getLast? with
  | some p => p.az
  | none => b.pos d .az

/-- A sky azimuth resolved against a reference under soft limits; true where no candidate fits (R37). -/
def resolveAz (lo hi ref sky : Int) : Int × Bool :=
  match nearestTo ref ((candidates sky).filter fun c => within lo hi c) with
  | some c => (c, false)
  | none => (if absDiff lo ref < absDiff hi ref then lo else hi, true)

/-- An elevation held to the soft limits, and to the watch minimum while the level is WATCH (R37). -/
def Block.clampEl (b : Block) (d : DishId) (el : Int) : Int :=
  let c := (b.axis d .el).cfg
  let raised := if b.weather.level = .watch then max el b.site.cfg.watchMinEl else el
  clampInt c.lo c.hi raised

/-- The point record an offered point becomes (R37). -/
def Block.makePoint (b : Block) (d : DishId) (p : PointParams) : Point :=
  let c := (b.axis d .az).cfg
  let az := resolveAz c.lo c.hi (b.azRef d) p.az
  let el := b.clampEl d p.el
  { time := p.time, sky := p.az, el := el, az := az.1, clamped := az.2 || el != p.el }

/-- A CLAMPED report: the point's time, the position asked for and the position held (R38). -/
def Block.tellClamped (b : Block) (d : DishId) (p : Point) (asked : Int) : Block :=
  b.tell .clamped (dishNum d) [f6 p.time, s4 p.sky, s4 asked, s4 p.az, s4 p.el]

/-- A clamped point opens the episode, once (R38). -/
def Block.openClamp (b : Block) (d : DishId) (p : Point) (asked : Int) : Block :=
  if (b.dish d).clampOpen then b
  else (b.modDish d fun x => { x with clampOpen := true }).tellClamped d p asked

/-- The clamp episode closes (R38). -/
def Block.closeClamp (b : Block) (d : DishId) : Block := b.modDish d fun x => { x with clampOpen := false }

/-- The dish with the most queued points, the highest-numbered of those that share the count (R36). -/
def Block.victim (b : Block) : DishId :=
  allDishes.foldl (fun v d => if (b.queue v).length ≤ (b.queue d).length then d else v) 0

/-- Early trim of the victim's latest point (R36). -/
def Block.trim (b : Block) (v : DishId) : Block :=
  let q := (b.queue v).dropLast
  let t := (b.setQueue v q).modDish v fun x => { x with trims := bump16 x.trims }
  t.tell .pointsTrimmed (dishNum v)
    [f2 (t.dish v).trims, f1 q.length, f6 ((q.getLast?.map (·.time)).getD 0)]

/-- Checks 1 and 2 of admission: time, then cap (R35). -/
def Block.pointRefused (b : Block) (d : DishId) (time now : Nat) : Option Code :=
  if (b.queue d).getLast?.elim false fun p => decide (time ≤ p.time) then some .outOfOrder
  else if now + 600000 < time then some .tooFar
  else if 120 ≤ (b.queue d).length then some .queueFull
  else none

/-- A point joins the queue, with its clamp episode (R35 check 4, R37, R38). -/
def Block.joinPoint (b : Block) (d : DishId) (p : PointParams) : Block :=
  let x := b.makePoint d p
  let t := b.setQueue d (b.queue d ++ [x])
  if x.clamped then t.openClamp d x p.el else t.closeClamp d

/-- One point is offered (R35): admitted, with whether it was clamped, or refused with nothing changed. -/
def Block.offer (b : Block) (d : DishId) (p : PointParams) (now : Nat) : Except Code (Block × Bool) :=
  match b.pointRefused d p.time now with
  | some c => .error c
  | none =>
    if b.points.free ≤ 32 then
      if b.victim = d then .error .trimmed
      else
        let t := b.trim b.victim
        .ok (t.joinPoint d p, (t.makePoint d p).clamped)
    else .ok (b.joinPoint d p, (b.makePoint d p).clamped)

/-- The points are admitted in order until one is refused: the state, the count and the result (R35). -/
def Block.takePoints (b : Block) (d : DishId) (now : Nat) (n : Nat) (clamped : Bool) :
    List PointParams → Block × Nat × Code
  | [] => (b, n, if clamped then .clamped else .ok)
  | p :: ps =>
    match b.offer d p now with
    | .error c => (b, n, c)
    | .ok (t, cl) => t.takePoints d now (n + 1) (clamped || cl) ps

/-- The queue is emptied and the episode closed; the points return to the pool (R40, R180). -/
def Block.flush (b : Block) (d : DishId) : Block := (b.setQueue d []).closeClamp d

/-- Points whose time is before t are removed (R115, R116). -/
def Block.dropBefore (b : Block) (d : DishId) (t : Nat) : Block :=
  b.setQueue d ((b.queue d).filter fun p => decide (t ≤ p.time))

/-- Consumption at a cycle: what is past is removed but for the latest; when nothing lies ahead the queue has run out
(R39). -/
def consumed (q : List Point) (now : Nat) : List Point :=
  let ahead := q.filter fun p => decide (now < p.time)
  if ahead = [] then []
  else (q.filter fun p => decide (p.time ≤ now)).getLast?.toList ++ ahead

/-- The next three points after now, as an axis reads them (R12, Table 9-2). -/
def Block.trackPoints (b : Block) (d : DishId) (k : AxisKind) : List TrackPoint :=
  let now := b.site.clock.getD 0
  (((b.queue d).filter fun p => decide (now < p.time)).take 3).map fun p =>
    ⟨p.time, match k with
      | .az => p.az
      | .el => p.el⟩

/-- A HELD axis of a TRACKING dish is sent TRACK (R12, R26). -/
def Block.orderTrack (b : Block) (d : DishId) (k : AxisKind) : Block :=
  (b.setOrder d k (.track (b.trackPoints d k))).enter d k .moving

/-- An axis under TRACK replaces the points of its order (R12). -/
def Block.refreshTrack (b : Block) (d : DishId) (k : AxisKind) : Block :=
  match (b.axis d k).order with
  | .track _ => b.modAxis d k fun a => { a with order := .track (b.trackPoints d k) }
  | _ => b

/-- One dish's queued points below the watch minimum are raised (R38). -/
def Block.raisePoints (b : Block) (d : DishId) : Block :=
  let low := b.site.cfg.watchMinEl
  let lift := fun (p : Point) =>
    if p.el < low then { p with el := min (b.axis d .el).cfg.hi low, clamped := true } else p
  match (b.queue d).find? fun p => decide (p.el < low) with
  | none => b
  | some p => (b.setQueue d ((b.queue d).map lift)).openClamp d (lift p) p.el

/-- The position expected at a site time from the bracketing pair (R22). -/
def Block.expectedPos (b : Block) (d : DishId) (k : AxisKind) (now : Nat) : Option Int :=
  let x := fun (p : Point) => match k with
    | .az => p.az
    | .el => p.el
  match ((b.queue d).filter fun p => decide (p.time ≤ now)).getLast?,
      (b.queue d).find? fun p => decide (now < p.time) with
  | some p, some q => some (x p + ((x q - x p) * ((now : Int) - p.time)).tdiv ((q.time : Int) - p.time))
  | _, _ => none

/-- An axis MOVING under TRACK compares an accepted answer (R22). -/
def Block.judgeLag (b : Block) (d : DishId) (k : AxisKind) (r : AxisReport) : Block :=
  let a := b.axis d k
  match a.state, a.order with
  | .moving, .track _ =>
    match b.field.cycleTime.bind (b.expectedPos d k) with
    | none => b.modAxis d k fun a => { a with lag := none }
    | some e =>
      if a.cfg.lagTol < absDiff r.pos e then
        b.modAxis d k fun a => { a with lag := some ⟨(a.lag.map (·.since)).getD b.site.tb, e⟩ }
      else b.modAxis d k fun a => { a with lag := none, lagOpen := false }
  | _, _ => b

end Sys2Proof.Machine
end

