-- ==== Sys2Proof/Machine/Modes.lean ====
section
/-! DEFINITION. Modes.lean: the dish's changes of mode and what ends its work without asking for power (R24, R27 to R31,
R102, R103, R105, R108). -/

namespace Sys2Proof.Machine

/-- Causes of a DISH_MODE report (R24). -/
inductive ModeCause where
  | request | grant | trackEnd | flush | axis | group | estop | wind | shed | resume
  deriving DecidableEq, Repr

/-- The set of block reasons as four flag bytes LOCKED, ESTOP, FAULT and OFFLINE (R109; DESIGN CHOICE, log 28). -/
def Blocks.fields (x : Blocks) : List Fld := [fb x.locked, fb x.estop, fb x.fault, fb x.offline]

/-- A DISH_MODE report (R24, R109). -/
def Block.tellMode (b : Block) (d : DishId) (prev : Mode) (cause : ModeCause) : Block :=
  b.report .dishMode (dishNum d) [f1 (b.dish d).mode.ctorIdx] (some (f1 prev.ctorIdx))
    (f1 cause.ctorIdx :: fopt (b.dish d).blocks [1, 1, 1, 1] Blocks.fields)

/-- A dish enters a mode, reporting the change; what is present only in some modes leaves with them (R24, R102). -/
def Block.setMode (b : Block) (d : DishId) (m : Mode) (cause : ModeCause) : Block :=
  let prev := (b.dish d).mode
  let t := b.modDish d fun x =>
    { x with
      mode := m
      blocks := if m = .stowBlocked then x.blocks else none
      intent := if m = .returning then x.intent else none
      dwell := if m = .shedDwell then x.dwell else .stopped }
  if prev = m then t else t.tellMode d prev cause

/-- A pending HOLD or TRACK request is withdrawn, without a report (R25, R31, R33). -/
def Block.withdrawPending (b : Block) (d : DishId) : Block :=
  match (b.dish d).pendingReq with
  | none => b
  | some .hold => (b.withdraw (.hold d)).modDish d fun x => { x with pendingReq := none }
  | some .track => (b.withdraw (.track d)).modDish d fun x => { x with pendingReq := none }

/-- A pending request withdrawn by the part: a TRACK_WAIT dish becomes IDLE; otherwise the mode is unchanged and
reported so (R24, R27, R30). -/
def Block.losePending (b : Block) (d : DishId) (cause : ModeCause) : Block :=
  match (b.dish d).pendingReq with
  | none => b
  | some .track => (b.withdrawPending d).setMode d .idle cause
  | some .hold => (b.withdrawPending d).tellMode d (b.dish d).mode cause

/-- Both axes of a dish treated in turn. -/
def Block.bothAxes (b : Block) (f : AxisKind → Block → Block) : Block := f .el (f .az b)

/-- R29's table for both axes. -/
def Block.holdBoth (b : Block) (d : DishId) : Block := b.bothAxes fun k s => s.holdAfterEnd d k

/-- R31's table for both axes. -/
def Block.brakeBoth (b : Block) (d : DishId) : Block := b.bothAxes fun k s => s.brakeInPlace d k

/-- Tracking ends with a cause (R29). -/
def Block.endTracking (b : Block) (d : DishId) (cause : ModeCause) : Block := (b.setMode d .idle cause).holdBoth d

/-- Each recorded need of the dish becomes a hold of the dish (R110). -/
def Block.holdNeeds (b : Block) (d : DishId) : Block :=
  b.bothAxes fun k s => if (s.axis d k).need.isSome then s.needHold d k else s

/-- The context a protective move writes, from the mode of that moment (R103, Table 6-3). -/
def Block.contextNow (b : Block) (d : DishId) (o : Origin) : SavedContext :=
  let x := b.dish d
  let t := b.site.clock.getD 0
  match x.mode with
  | .trackWait | .tracking => ⟨o, .tracking, none, t⟩
  | .returning =>
    match x.intent with
    | some i => ⟨o, i.work, if i.work = .idle then some i.target else none, t⟩
    | none => ⟨o, .idle, none, t⟩
  | .idle =>
    if (b.axis d .az).state = .held ∧ (b.axis d .el).state = .held then
      ⟨o, .idle, some ⟨b.pos d .az, b.pos d .el⟩, t⟩
    else ⟨o, .idle, none, t⟩
  | _ => ⟨o, .idle, none, t⟩

/-- The context is written where the slot is empty (R103); a STOW_BLOCKED dish writes none, nor does a STOWED one, for
which Table 6-3 has no row (DEDUCED, log 36). -/
def Block.saveContext (b : Block) (d : DishId) (o : Origin) : Block :=
  if (b.dish d).context.isSome || (b.dish d).mode == .stowBlocked || (b.dish d).mode == .stowed then b
  else b.modDish d fun x => { x with context := some (b.contextNow d o) }

/-- The context is discarded. -/
def Block.clearContext (b : Block) (d : DishId) : Block := b.modDish d fun x => { x with context := none }

/-- The EL axis of a stowing dish needs no move: BRAKED, ENGAGING or HELD within its tolerance of the stow elevation
(R105). -/
def Block.elStowed (b : Block) (d : DishId) : Bool :=
  let a := b.axis d .el
  (a.state == .braked || a.state == .engaging || a.state == .held) && a.near stowEl

/-- The EL axis of a dish that makes its stow request: its need removed, a MOVING one stopped to hold, a release ended;
it keeps the claim it holds (R105, log 13). -/
def Block.awaitStow (b : Block) (d : DishId) : Block :=
  match (b.axis d .el).state with
  | .moving => (b.dropNeed d .el).stopAxis d .el .hold
  | .braked => b.endRelease d .el
  | _ => b.dropNeed d .el

/-- STOWING is left for a block, or with the level: the entry withdrawn and each axis brought to its brake (R108,
R114). -/
def Block.haltStow (b : Block) (d : DishId) : Block :=
  let t := b.withdrawStow d
  t.bothAxes fun k s => if s.axisLost d k then s else s.brakeInPlace d k

end Sys2Proof.Machine
end

