-- ==== Sys2Proof/Machine/Planner.lean ====
section
/-! DEFINITION. Planner.lean: the plan's arithmetic (R49 to R53), group records and their endings (R43, R59 to R63), and
internal moves (R64, R65), save what asks for power. -/

namespace Sys2Proof.Machine

/-! ### Arithmetic -/

/-- The largest m below 2^k + n with m² < x, found bit by bit from n. -/
def sqrtBelow (x : Nat) : Nat → Nat → Nat
  | 0, n => n
  | k + 1, n => sqrtBelow x k (if (n + 2 ^ k) * (n + 2 ^ k) < x then n + 2 ^ k else n)

/-- The least n with n² at least x, for x up to 2^64. -/
def sqrtUp (x : Nat) : Nat := if x = 0 then 0 else sqrtBelow x 32 0 + 1

/-- Half rounded down, raised to 1 (R50). -/
def halved (n : Nat) : Nat := max 1 (n / 2)

/-- The least duration of one axis over a distance, in ds; 0 for no distance (R50). -/
def axisMin (c : AxisCfg) (cold : Bool) (dist : Nat) : Nat :=
  if dist = 0 then 0
  else
    let v := if cold then halved c.v else c.v
    let a := if cold then halved c.a else c.a
    max (ceilDiv (40 * dist) (3 * v)) (sqrtUp (ceilDiv (1600 * dist) (3 * a)))

/-- The rate and claim of one axis at a duration (R52). -/
def shareAt (c : AxisCfg) (dist n : Nat) : Share :=
  if dist = 0 then ⟨0, c.phold⟩
  else
    let v := ceilDiv (40 * dist) (3 * n)
    ⟨v, max c.phold (ceilDiv (c.pmax * v) c.v)⟩

/-- One candidate is taken before another under NEAREST (R49). -/
def nearer (cur x y : Int) : Bool :=
  decide (absDiff x cur < absDiff y cur)
  || (absDiff x cur == absDiff y cur && (decide (x.natAbs < y.natAbs) || (x.natAbs == y.natAbs && decide (y ≤ x))))

/-- The wrap candidate taken by a preference, from candidates in ascending order (R49). -/
def pickWrap (pref : WrapPref) (cur : Int) (cs : List Int) : Option Int :=
  match pref with
  | .positive => cs.getLast?
  | .negative => cs.head?
  | .nearest => cs.foldl (fun best c => match best with
    | none => some c
    | some y => if nearer cur c y then some c else some y) none

/-- The targets of a member, where the group's target fits its soft limits (R46 check 10, R49). -/
def Block.memberTarget (b : Block) (d : DishId) (az el : Int) (pref : WrapPref) : Option AzEl :=
  let ca := (b.axis d .az).cfg
  let ce := (b.axis d .el).cfg
  if within ce.lo ce.hi el then
    (pickWrap pref (b.pos d .az) ((candidates az).filter fun c => within ca.lo ca.hi c)).map fun x => ⟨x, el⟩
  else none

/-- The plan of one dish to a target, from the positions now reported (R49). -/
def Block.planTo (b : Block) (d : DishId) (t : AzEl) : Plan :=
  { target := t, dist := ⟨absDiff t.az (b.pos d .az), absDiff t.el (b.pos d .el)⟩ }

/-- A dish with its plan, as the stretch search takes it. -/
abbrev Mover := DishId × Plan

/-- The least duration of a set of movers, not held to 6,000 (R51). -/
def Block.minDuration (b : Block) (ms : List Mover) : Nat :=
  (ms.flatMap fun m =>
    [axisMin (b.axis m.1 .az).cfg (b.cold m.1) m.2.dist.az, axisMin (b.axis m.1 .el).cfg (b.cold m.1) m.2.dist.el]
    ).foldl max 20

/-- The shares of one mover at a duration (R52). -/
def Block.sharesAt (b : Block) (m : Mover) (n : Nat) : PerAxis Share :=
  ⟨shareAt (b.axis m.1 .az).cfg m.2.dist.az n, shareAt (b.axis m.1 .el).cfg m.2.dist.el n⟩

/-- The amount of a request for one axis. -/
def wanted (ws : List Want) (d : DishId) (k : AxisKind) : Nat :=
  ((ws.find? fun w => w.d == d && w.k == k).map (·.watts)).getD 0

/-- The shares of one mover under amounts granted at a duration: the rates of the duration, the amounts as claims. -/
def Block.sharesUnder (b : Block) (m : Mover) (n : Nat) (ws : List Want) : PerAxis Share :=
  let s := b.sharesAt m n
  ⟨{ s.az with claim := wanted ws m.1 .az }, { s.el with claim := wanted ws m.1 .el }⟩

/-- The request of a set of movers at a duration (R52, Table 4-2). -/
def Block.wantsAt (b : Block) (ms : List Mover) (n : Nat) : List Want :=
  ms.flatMap fun m =>
    let s := b.sharesAt m n
    [⟨m.1, .az, s.az.claim⟩, ⟨m.1, .el, s.el.claim⟩]

/-- The least duration from n, over at most fuel candidates, whose claim fits with what stands against it (R53). -/
def Block.searchFrom (b : Block) (ms : List Mover) (against : Nat) : Nat → Nat → Option Nat
  | 0, _ => none
  | fuel + 1, n =>
    if total (b.wantsAt ms n) + against ≤ b.account.breq then some n else b.searchFrom ms against fuel (n + 1)

/-- The stretch search from n0 to L against the headroom of the moment (R53). -/
def Block.stretch (b : Block) (ms : List Mover) (n0 limit : Nat) : Option Nat :=
  b.searchFrom ms (b.otherTotal (b.wantsAt ms n0) + b.heatAgainst) (limit + 1 - n0) n0

/-! ### Group records -/

/-- The member part of a GROUP_STATE report (R43). -/
def Member.brief (m : Member) : List Fld :=
  [f1 (dishNum m.dish), f1 m.state.ctorIdx] ++ fopt m.drop [1] (fun r => [f1 r.ctorIdx]) ++ [fb m.late]

/-- A GROUP_STATE report, with the member whose change caused it (R43). -/
def Block.tellGroup (b : Block) (g : GroupId) (m : Option Member) : Block :=
  match b.group g with
  | none => b
  | some x =>
    b.tell .groupState (groupNum g)
      (f1 x.state.ctorIdx :: fopt x.reason [1] (fun r => [f1 r.ctorIdx]) ++ fopt x.nStar [2] (fun n => [f2 n])
        ++ fopt x.start [6] (fun t => [f6 t]) ++ fopt m [1, 1, 1, 1, 1] Member.brief)

/-- The record of a member of a group. -/
def Block.member (b : Block) (g : GroupId) (d : DishId) : Option Member :=
  (b.group g).bind fun x => x.members.find? fun m => m.dish == d

/-- A group record changed. -/
def Block.modGroup (b : Block) (g : GroupId) (f : Group → Group) : Block := b.setGroup g ((b.group g).map f)

/-- A group's state changed, with a report (R43). -/
def Block.setGroupState (b : Block) (g : GroupId) (st : GroupState) : Block :=
  (b.modGroup g fun x => { x with state := st }).tellGroup g none

/-- One member record changed, with a report (R42, R43). -/
def Block.modMember (b : Block) (g : GroupId) (d : DishId) (f : Member → Member) : Block :=
  let t := b.modGroup g fun x => { x with members := x.members.map fun m => if m.dish = d then f m else m }
  t.tellGroup g (t.member g d)

/-- The group record ends: finish order recorded, group fields removed, reported with the member whose change ended it,
where one did (R43, R59, R62, R63). The finish order recorded is the running count of the groups finished since reset, not
a rank among those in the table (DESIGN CHOICE, log 44). -/
def Block.endGroup (b : Block) (g : GroupId) (st : GroupState) (r : Option EndReason) (by_ : Option DishId) : Block :=
  match b.group g with
  | none => b
  | some x =>
    let n := b.planner.finished
    let t := b.setGroup g (some { x with state := st, reason := r, finishOrder := some n })
    let t := { t with planner := { t.planner with finished := n + 1 } }
    (t.each x.members fun m s => s.modDish m.dish fun y => { y with group := none }).tellGroup g (by_.bind (t.member g))

/-- A member that is still PLANNED or MOVING. -/
def Member.active (m : Member) : Bool := m.state == .planned || m.state == .moving

/-- A group whose members are all settled finishes, by the change of the member named (R43, R59). -/
def Block.settleGroup (b : Block) (g : GroupId) (d : DishId) : Block :=
  match b.group g with
  | some x =>
    if (x.state = .starting ∨ x.state = .running) ∧ x.members.all fun m => !m.active then
      b.endGroup g (if x.members.all fun m => m.state == .arrived then .done else .partly) none (some d)
    else b
  | none => b

/-! ### Start of a group (R56) -/

/-- An axis is HELD under a requester's need. -/
def Block.heldFor (b : Block) (d : DishId) (k : AxisKind) (r : Requester) : Bool :=
  (b.axis d k).state == .held && (b.axis d k).need.any fun n => n.who == r

/-- The MOVE orders of one mover: each axis with a distance is sent its target (R56). -/
def Block.orderMoves (b : Block) (m : Mover) (n start : Nat) : Block :=
  let t := if m.2.dist.az = 0 then b else b.orderMove m.1 .az m.2.target.az n start
  if m.2.dist.el = 0 then t else t.orderMove m.1 .el m.2.target.el n start

/-- The active members of a group with their plans. -/
def Group.movers (x : Group) : List Mover := (x.members.filter Member.active).filterMap fun m => m.plan.map fun p => (m.dish, p)

/-- A mover with a distance on some axis. -/
def Mover.moves (m : Mover) : Bool := m.2.dist.az != 0 || m.2.dist.el != 0

/-- The member a start's report carries: the one whose drop started the group, else the last to become MOVING (R43, R56;
log 21). -/
def startMember (ms : List Mover) (by_ : Option DishId) : Option DishId :=
  by_ <|> ((ms.filter Mover.moves).getLast?.map (·.1))

/-- A STARTING group whose axes are all HELD under it starts (R56), by the drop of the member named, where one is. -/
def Block.startGroup (b : Block) (g : GroupId) (by_ : Option DishId) : Block :=
  match b.group g with
  | some x =>
    if x.state = .starting ∧ x.movers.all fun m =>
        b.heldFor m.1 .az (.group g) && b.heldFor m.1 .el (.group g) then
      let start := b.moveStart
      let n := x.nStar.getD 20
      let t := b.modGroup g fun x => { x with state := .running, start := some start }
      let t := t.each x.movers fun m s =>
        let u := (s.orderMoves m n start).setMode m.1 .slewing .group
        if m.moves then u.modMember g m.1 fun y => { y with state := .moving } else u
      t.tellGroup g ((startMember x.movers by_).bind (t.member g))
    else b
  | none => b

/-- A member of a STARTING or RUNNING group is dropped (R60); its drop may end the group (R59) or start it (R56). -/
def Block.dropMember (b : Block) (g : GroupId) (d : DishId) (r : DropReason) : Block :=
  let t := b.modMember g d fun m => { m with state := .dropped, drop := some r }
  (((t.holdBoth d).setMode d .idle .group).settleGroup g d).startGroup g (some d)

/-- The share of an axis that is ENGAGING falls to P_hold, at which it is to be HELD again (R62, log 29). -/
def Block.cutEngaging (b : Block) (d : DishId) (k : AxisKind) : Block :=
  if (b.axis d k).state = .engaging then b.reduceToHold d k else b

/-- The dishes and axes of an aborted group, as ABORT_GROUP ends it by its state (R62). -/
def Block.releaseMembers (b : Block) (ms : List Member) : Block :=
  b.each ms fun m s =>
    if (s.dish m.dish).mode = .slewWait ∨ (s.dish m.dish).mode = .slewing then
      ((s.holdBoth m.dish).bothAxes fun k u => u.cutEngaging m.dish k).setMode m.dish .idle .group
    else s

/-- A group aborted with a reason, by the change of a member where one is named, its members released (R48, R61, R62). -/
def Block.abortGroup (b : Block) (g : GroupId) (r : EndReason) (by_ : Option DishId) : Block :=
  match b.group g with
  | none => b
  | some x =>
    let t := (b.endGroup g .aborted (some r) by_).withdraw (.group g)
    if x.state = .formed then t else t.releaseMembers x.members

/-- Every live group aborted by the wind or the e-stop, its axes left to others (R63). -/
def Block.abortAll (b : Block) (r : EndReason) : Block :=
  b.each allGroups fun g s =>
    match s.group g with
    | some x => if x.state.live then (s.endGroup g .aborted (some r) none).withdraw (.group g) else s
    | none => s

/-- A drop reason as an end reason. -/
def DropReason.toEnd : DropReason → EndReason
  | .locked => .locked
  | .fault => .fault
  | .offline => .offline
  | .estop => .estop

/-- A member axis is lost to its group (R60, R61). -/
def Block.groupLoses (b : Block) (g : GroupId) (d : DishId) (r : DropReason) : Block :=
  match b.group g with
  | none => b
  | some x =>
    match x.state with
    | .starting | .running =>
      if x.members.any fun m => m.dish == d && m.active then b.dropMember g d r else b
    | .warming | .waiting =>
      (b.modMember g d fun m => { m with state := .dropped, drop := some r }).abortGroup g r.toEnd (some d)
    | _ => b

/-! ### Start of an internal move (R65) -/

/-- An internal move in STARTING whose axes are both HELD under it starts (R65, R116). -/
def Block.startMove (b : Block) (d : DishId) : Block :=
  match b.move d with
  | some m =>
    if m.phase = .starting ∧ b.heldFor d .az .internal ∧ b.heldFor d .el .internal then
      let start := b.moveStart
      (b.setMove d (some { m with phase := .running, start := some start })).orderMoves (d, m.plan) (m.nStar.getD 20)
        start
    else b
  | none => b

/-! ### Endings of an internal move (R65, R111, R116) -/

/-- An internal move is removed with its wait-queue entry, its axes treated as R60 treats a dropped member's (R65). -/
def Block.endMove (b : Block) (d : DishId) : Block :=
  match b.move d with
  | none => b
  | some _ => ((b.setMove d none).withdraw (.internal d)).holdBoth d

/-- A move that ends early on a loss: the shed is abandoned, or the return given up (R111, R116). -/
def Block.loseMove (b : Block) (d : DishId) : Block :=
  match b.move d with
  | none => b
  | some _ =>
    let t := b.endMove d
    match (t.dish d).mode with
    | .shedding => (t.clearContext d).setMode d .idle .axis
    | .returning => t.setMode d .idle .axis
    | _ => t

/-! ### A lost axis (R27, R29, R30, R60, R61, R65) -/

/-- What a newly lost axis of a dish does to the dish's work. -/
def Block.loseDish (b : Block) (d : DishId) (r : DropReason) : Block :=
  let t := match (b.dish d).group with
    | some g => b.groupLoses g d r
    | none => b
  let t := t.loseMove d
  let t := if (t.dish d).mode = .tracking then t.endTracking d .axis else t
  t.losePending d .axis

/-- The requesters of a dish act on the axes lost since b0 (R3, R116); OFFLINE and FAULT are named before LOCKED. -/
def Block.reactLost (b0 b : Block) (d : DishId) : Block :=
  let fresh := [AxisKind.az, AxisKind.el].filter fun k => Block.newlyLost b0 b d k
  match fresh with
  | [] => b
  | k :: _ => b.loseDish d (b.lostReason d k)

end Sys2Proof.Machine
end

