-- ==== Sys2Proof/Machine/Grants.lean ====
section
/-! DEFINITION. Grants.lean: the shares of a grant reach their axes, the queues are examined, and power is asked for
(R26, R30, R53 to R55, R64, R72 to R78, R82). -/

namespace Sys2Proof.Machine

/-- A need with its share is delivered to each axis of a dish; the first refusal is told (R5, R82). -/
def Block.deliverBoth (b : Block) (d : DishId) (who : Requester) (wa we : Nat) : Block × Option DropReason :=
  let x := b.deliverNeed d .az ⟨who, some wa⟩
  let y := x.1.deliverNeed d .el ⟨who, some we⟩
  (y.1, x.2 <|> y.2)

/-- A granted HOLD reaches its axes (R30). -/
def Block.takeHold (b : Block) (d : DishId) (ws : List Want) : Block :=
  ((b.modDish d fun x => { x with pendingReq := none }).deliverBoth d .hold (wanted ws d .az) (wanted ws d .el)).1

/-- A granted TRACK: TRACKING is entered and the shares reach the axes (R26); a refused need ends it (R29). -/
def Block.takeTrack (b : Block) (d : DishId) (ws : List Want) (cause : ModeCause) : Block :=
  let t := (b.modDish d fun x => { x with pendingReq := none }).setMode d .tracking cause
  let r := t.deliverBoth d .track (wanted ws d .az) (wanted ws d .el)
  if r.2.isSome then r.1.endTracking d .axis else r.1

/-- A granted internal move: its figures recorded and the INTERNAL needs delivered; a refusal ends it (R64, R65). -/
def Block.takeMove (b : Block) (d : DishId) (n : Nat) (ws : List Want) : Block :=
  match b.move d with
  | none => b
  | some m =>
    let s := b.sharesUnder (d, m.plan) n ws
    let t := b.setMove d (some { m with phase := .starting, nStar := some n, grant := some s })
    let r := t.deliverBoth d .internal s.az.claim s.el.claim
    if r.2.isSome then r.1.loseMove d else r.1

/-- A granted group: STARTING at n with each member's shares of the amounts granted (R53, R54, log 27). -/
def Block.recordGrant (b : Block) (g : GroupId) (n : Nat) (ws : List Want) : Block :=
  match b.group g with
  | none => b
  | some x =>
    let ms := x.members.map fun m => match m.plan with
      | some p => { m with grant := some (b.sharesUnder (m.dish, p) n ws) }
      | none => m
    (b.setGroup g (some { x with state := .starting, nStar := some n, total := some (total ws), members := ms })
      ).tellGroup g none

/-- The GROUP needs of a STARTING group are delivered; a refusal drops the member (R55, R60). -/
def Block.deliverGroup (b : Block) (g : GroupId) : Block :=
  match b.group g with
  | none => b
  | some x =>
    b.each x.members fun m s =>
      match m.grant with
      | some sh =>
        let r := s.deliverBoth m.dish (.group g) sh.az.claim sh.el.claim
        match r.2 with
        | some why => r.1.dropMember g m.dish why
        | none => r.1
      | none => s

/-! ### Examination (R76) -/

/-- A stow grant: the claim, the entry leaves, and the STOW need reaches the EL axis (R78, R82, R106). -/
def Block.grantStow (b : Block) (d : DishId) : Block :=
  let ws := b.stowWants d
  let t := b.grant ws .stow
  let left := t.account.stowq.filter (· != d)
  (({ t with account := { t.account with stowq := left } }).deliverNeed d .el ⟨.stow, some (total ws)⟩).1

/-- Each stow-pending entry that passes is granted, in dish order (R76 step 1). -/
def Block.examineStow (b : Block) : Block :=
  if b.weather.level = .stow then
    b.each allDishes fun d s => if s.account.stowq.contains d && s.stowFits d then s.grantStow d else s
  else b

/-- A stow request: refused off STOW with nothing entered; entered, and the stow-pending list examined at once; an entry
already there is left as it is (R77). The wait queue behind the list is examined with the event's other examinations
(log 8). -/
def Block.askStow (b : Block) (d : DishId) : Block :=
  if b.weather.level = .stow ∧ !b.account.stowq.contains d then (b.enterStow d).examineStow else b

/-- The duration and amounts of a planned entry at its grant: the search of the moment, or the limit with the amounts
queued where the search finds none (R54, log 27). -/
def Block.planGrant (b : Block) (ms : List Mover) (n0 limit : Nat) (queued : List Want) : Nat × List Want :=
  match b.stretch ms n0 limit with
  | some n => (n, b.wantsAt ms n)
  | none => (limit, queued)

/-- A head of the wait queue that passes is granted, by its requester (R54, R74, R82). -/
def Block.grantHead (b : Block) (e : WaitEntry) : Block :=
  let t := { b with account := { b.account with waitq := b.account.waitq.tail } }
  match e.who with
  | .axis d k => (t.grant e.wants .motion).modAxis d k fun a => { a with stage := .beacon }
  | .hold d => (t.grant e.wants .motion).takeHold d e.wants
  | .track d => (t.grant e.wants .motion).takeTrack d e.wants .grant
  | .internal d =>
    match t.move d with
    | none => t
    | some m =>
      let r := t.planGrant [(d, m.plan)] m.n0 6000 e.wants
      (t.grant r.2 .motion).takeMove d r.1 r.2
  | .group g =>
    match t.group g with
    | none => t
    | some x =>
      let r := t.planGrant x.movers (x.n0.getD 20) x.limit e.wants
      ((t.grant r.2 .motion).recordGrant g r.1 r.2).deliverGroup g

/-- The head of the wait queue is tried, and the next, until one does not pass (R76 step 3). -/
def Block.examineQueue (b : Block) : Nat → Block
  | 0 => b
  | fuel + 1 =>
    match b.account.waitq with
    | [] => b
    | e :: _ => if b.motionFits e.wants then (b.grantHead e).examineQueue fuel else b

/-- One examination (R76). -/
def Block.examineOnce (b : Block) : Block :=
  let t := ({ b with account := { b.account with examineDue := false } }).examineStow
  if t.account.stowq = [] then t.examineQueue t.account.waitq.length else t

/-- The examinations called for, until none is due; each but the last finds an entry gone (R76). -/
def Block.examineAll (b : Block) : Nat → Block
  | 0 => b
  | fuel + 1 => if b.account.examineDue then (b.examineOnce).examineAll fuel else b

/-- The examination due is made (log 8). -/
def Block.examine (b : Block) : Block := b.examineAll (b.account.waitq.length + b.account.stowq.length + 1)

/-! ### Asking for power (R72) -/

/-- What the account answers a motion request. -/
inductive Asked where
  | granted | queued | busy
  deriving DecidableEq, Repr

/-- A request must join the queue: an entry waits, or a stow entry is not yet granted (R72). -/
def Block.mustQueue (b : Block) : Bool := !b.account.waitq.isEmpty || !b.account.stowq.isEmpty

/-- The wait queue holds its 20 entries (R72, log 15). -/
def Block.queueFull (b : Block) : Bool := decide (20 ≤ b.account.waitq.length)

/-- A request of fixed amounts: granted, queued or BUSY (R72). -/
def Block.askPower (b : Block) (who : Waiter) (ws : List Want) : Block × Asked :=
  let b := b.examine
  if b.queueFull then (b, .busy)
  else if !b.mustQueue && b.motionFits ws then (b.grant ws .motion, .granted)
  else (b.enqueue who ws, .queued)

/-- A planned request with its stretch search: granted at a duration, queued with the claim at L, or BUSY (R53). -/
def Block.askPlanned (b : Block) (who : Waiter) (ms : List Mover) (n0 limit : Nat) : Block × Asked × Nat :=
  let b := b.examine
  if b.queueFull then (b, .busy, 0)
  else match (if b.mustQueue then none else b.stretch ms n0 limit) with
  | some n => (b.grant (b.wantsAt ms n) .motion, .granted, n)
  | none => (b.enqueue who (b.wantsAt ms limit), .queued, 0)

/-- An axis is in release stage CLAIM without an entry of its own (R6). -/
def Block.wantsClaim (b : Block) (d : DishId) (k : AxisKind) : Bool :=
  (b.axis d k).state == .braked && (b.axis d k).stage == .claim && !b.waits (.axis d k)

/-- The hold claim of an axis is asked for (R6). -/
def Block.askHoldClaim (b : Block) (d : DishId) (k : AxisKind) : Block :=
  let r := b.askPower (.axis d k) [⟨d, k, (b.axis d k).cfg.phold⟩]
  match r.2 with
  | .granted => r.1.modAxis d k fun a => { a with stage := .beacon }
  | .queued => r.1
  | .busy => r.1.modAxis d k fun a => { a with stage := .none, need := none }

/-- An axis in release stage CLAIM asks for its hold claim (R6), unless the examination that is due before it gives the
axis a need with a grant (log 8). -/
def Block.askAxis (b : Block) (d : DishId) (k : AxisKind) : Block :=
  if b.wantsClaim d k then
    let t := b.examine
    if t.wantsClaim d k then t.askHoldClaim d k else t
  else b

/-- The amounts of a dish's TRACK request (R25). -/
def Block.trackWants (b : Block) (d : DishId) : List Want :=
  [⟨d, .az, (b.axis d .az).cfg.ptrack⟩, ⟨d, .el, (b.axis d .el).cfg.ptrack⟩]

/-- The amounts of a dish's HOLD request (R30). -/
def Block.holdWants (b : Block) (d : DishId) : List Want :=
  [⟨d, .az, (b.axis d .az).cfg.phold⟩, ⟨d, .el, (b.axis d .el).cfg.phold⟩]

/-- The power to track is asked for (R25, R57, R116): TRACKING, TRACK_WAIT, or the dish IDLE on BUSY. -/
def Block.askTrack (b : Block) (d : DishId) (cause : ModeCause) : Block × Asked :=
  let ws := b.trackWants d
  let r := b.askPower (.track d) ws
  match r.2 with
  | .granted => (r.1.takeTrack d ws cause, .granted)
  | .queued => ((r.1.modDish d fun x => { x with pendingReq := some .track }).setMode d .trackWait cause, .queued)
  | .busy => (r.1.setMode d .idle cause, .busy)

/-- The target of an internal move held to the soft limits in force (R64). -/
def Block.heldTarget (b : Block) (d : DishId) (t : AzEl) : AzEl :=
  let ca := (b.axis d .az).cfg
  let ce := (b.axis d .el).cfg
  ⟨clampInt ca.lo ca.hi t.az, clampInt ce.lo ce.hi t.el⟩

/-- An internal move is asked of the planner (R64): PLAN or BUSY with nothing changed, or the move WAITING (true) or
STARTING with its needs not yet delivered. -/
def Block.askMove (b : Block) (d : DishId) (t : AzEl) : Except EndReason (Block × Option Nat) :=
  let p := b.planTo d (b.heldTarget d t)
  let n0 := b.minDuration [(d, p)]
  if 6000 < n0 then .error .plan
  else
    let r := b.askPlanned (.internal d) [(d, p)] n0 6000
    let m : InternalMove :=
      { plan := p, n0 := n0, nStar := none, grant := none, phase := .waiting, start := none, arrived := .both false }
    match r.2.1 with
    | .busy => .error .busy
    | .queued => .ok (r.1.setMove d (some m), none)
    | .granted => .ok (r.1.setMove d (some m), some r.2.2)

/-- The needs of an internal move granted at once are delivered (R65). -/
def Block.beginMove (b : Block) (d : DishId) (n : Option Nat) : Block :=
  match n, b.move d with
  | some n, some m => b.takeMove d n (b.wantsAt [(d, m.plan)] n)
  | _, _ => b

end Sys2Proof.Machine
end

