-- ==== Sys2Proof/Machine/Protective.lean ====
section
/-! DEFINITION. Protective.lean: wind stow, block, shed, resume, the arrivals of groups and internal moves, and the
e-stop latch (chapter 6; R57, R58, R63, R65, R180). -/

namespace Sys2Proof.Machine

/-! ### Holds of the dish -/

/-- Both needs become a satisfied hold of the dish (R57, R116). -/
def Block.satisfyHold (b : Block) (d : DishId) : Block := b.bothAxes fun k s => s.needHold d k

/-! ### Resume (R115, R117) -/

/-- A return elevation raised to the watch minimum while the level is WATCH (R115). -/
def Block.returnEl (b : Block) (el : Int) : Int :=
  if b.weather.level = .watch then max el b.site.cfg.watchMinEl else el

/-- What a resume does first, and the return it asks for (Table 6-5). -/
def Block.resumePlan (b : Block) (d : DishId) (c : SavedContext) : Block × Option ReturnIntent :=
  match c.work, c.pos with
  | .tracking, _ =>
    let t := b.dropBefore d (b.site.clock.getD 0)
    (t, (t.queue d).head?.map fun p => ⟨.tracking, p.az, t.returnEl p.el⟩)
  | .idle, some p => (b, some ⟨.idle, p.az, b.returnEl p.el⟩)
  | .idle, none => (b, none)

/-- A resume of a dish's context (R115). -/
def Block.resumeDish (b : Block) (d : DishId) : Block :=
  match (b.dish d).context with
  | none => b
  | some c =>
    let r := b.resumePlan d c
    let t := r.1.clearContext d
    match r.2 with
    | none => t.setMode d .idle .resume
    | some i =>
      let t := (t.modDish d fun x => { x with intent := some i }).setMode d .returning .resume
      match t.askMove d i.target with
      | .error _ => t.setMode d .idle .resume
      | .ok (u, n) => u.beginMove d n

/-- Checks 6 and 7 of RESUME: what the return move would be refused for (R117). -/
def Block.resumeRefused (b : Block) (d : DishId) : Option Code :=
  match (b.dish d).context with
  | none => none
  | some c =>
    let r := b.resumePlan d c
    match r.2 with
    | none => none
    | some i =>
      match r.1.askMove d i.target with
      | .error .plan => some .tooLong
      | .error _ => some .busy
      | .ok _ => none

/-! ### Wind stow (R104, R107, R108, R109, R114) -/

/-- STOWING begins: AZ to its brake, EL braked where it stands at stow, or its stow claim asked for (R105, R77). -/
def Block.beginStow (b : Block) (d : DishId) : Block :=
  let t := b.brakeInPlace d .az
  if t.elStowed d then t.brakeInPlace d .el else (t.awaitStow d).askStow d

/-- STOW_BLOCKED is entered with the reasons that hold. -/
def Block.blockStow (b : Block) (d : DishId) (cause : ModeCause) : Block :=
  let r := b.blockReasons d
  (b.modDish d fun x => { x with blocks := some r }).setMode d .stowBlocked cause

/-- A dish is taken into stow (R104); one that enters STOW_BLOCKED leaves its axes as they stand (log 14). -/
def Block.takeIntoStow (b : Block) (d : DishId) : Block :=
  let t := ((b.endMove d).withdrawPending d).saveContext d .wind
  if (t.blockReasons d).any then t.blockStow d .wind
  else (t.setMode d .stowing .wind).beginStow d

/-- A configured dish that the level's entry takes into stow: one that is not STOWED and not in stow already (R104). -/
def Block.mustStow (b : Block) (d : DishId) : Bool :=
  b.configured d && (b.dish d).mode != .stowing && (b.dish d).mode != .stowed && (b.dish d).mode != .stowBlocked

/-- The level enters STOW: pending HOLDs withdrawn, every dish into stow, the queues examined (R98, R104). -/
def Block.enterStowLevel (b : Block) : Block :=
  let t := b.abortAll .wind
  let t := t.each allDishes fun d s => if (s.dish d).pendingReq = some .hold then s.losePending d .wind else s
  (t.each allDishes fun d s => if s.mustStow d then s.takeIntoStow d else s).callExamine

/-- What the level's leaving of STOW does with one dish (R114). -/
def Block.leaveStowDish (b : Block) (d : DishId) : Block :=
  let m := (b.dish d).mode
  if m = .stowing ∨ m = .stowed ∨ m = .stowBlocked then
    let t := if m = .stowed then b else b.brakeBoth d
    if (t.dish d).context.isNone then t.setMode d .idle .resume
    else match t.site.cfg.resume with
    | .auto => t.resumeDish d
    | .manual => t.setMode d .stowed .wind
  else b

/-- The level leaves STOW: the stow-pending list emptied, then each dish in order (R77, R114). -/
def Block.leaveStowLevel (b : Block) : Block :=
  let t := ({ b with account := { b.account with stowq := [] } }).callExamine
  t.each allDishes fun d s => s.leaveStowDish d

/-- A STOWING dish that meets a reason is blocked; a blocked one follows its reasons, and stows when none is left
(R108, R109). Where a reason of the axes and the e-stop change in one event the cause is AXIS for the STOWING dish
and ESTOP for the blocked one (DESIGN CHOICE, log 21). -/
def Block.settleBlocks (b : Block) (d : DishId) : Block :=
  let r := b.blockReasons d
  let axisCause := r.locked || r.fault || r.offline
  match (b.dish d).mode with
  | .stowing => if r.any then (b.haltStow d).blockStow d (if axisCause then .axis else .estop) else b
  | .stowBlocked =>
    if r.any then
      match (b.dish d).blocks with
      | some old =>
        if old = r then b
        else (b.modDish d fun x => { x with blocks := some r }).tellMode d .stowBlocked
          (if old.estop = r.estop then .axis else .estop)
      | none => b.modDish d fun x => { x with blocks := some r }
    else if b.weather.level = .stow then (b.setMode d .stowing .wind).beginStow d
    else b
  | _ => b

/-- An EL axis HELD under its STOW need is sent its move, or its brake where it stands at stow (R106, R107). -/
def Block.pursueStow (b : Block) (d : DishId) : Block :=
  if (b.dish d).mode = .stowing ∧ b.heldFor d .el .stow then
    let a := b.axis d .el
    if a.near stowEl then b.orderBrake d .el
    else b.orderMove d .el stowEl (ceilDiv (10 * absDiff stowEl (b.pos d .el)) a.cfg.stowRate) b.moveStart
  else b

/-- A STOWING dish whose two axes are braked after the stow is STOWED (R107). -/
def Block.finishStow (b : Block) (d : DishId) : Block :=
  let el := b.axis d .el
  if (b.dish d).mode = .stowing ∧ (b.axis d .az).state = .braked ∧ (b.axis d .az).need = none ∧ el.state = .braked
      ∧ el.need = none ∧ !b.account.stowq.contains d then b.setMode d .stowed .wind
  else b

/-! ### Shed (R110 to R113) -/

/-- Checks 2 to 7 of SHED (Table 6-4); a STOWING dish refuses it with WIND, as R107 names that mode, and not with the
STATE of check 2 (log 36). -/
def Block.shedRefused (b : Block) (d : DishId) : Option Code :=
  let m := (b.dish d).mode
  if m = .stowing then some .wind
  else if m ≠ .idle ∧ m ≠ .tracking then some .state
  else if b.site.clock = none then some .noTime
  else if b.site.estop then some .estop
  else if b.weather.level ≠ .calm then some .wind
  else if b.dishLocked d then some .locked
  else if b.outOfService d || !b.positioned d then some .state
  else none

/-- A shed (R110): refused with a code, or made, with whether its move waits. -/
def Block.shedDish (b : Block) (d : DishId) : Except Code (Block × Bool) :=
  match b.shedRefused d with
  | some c => .error c
  | none =>
    match b.askMove d ⟨b.pos d .az, shedEl⟩ with
    | .error .plan => .error .tooLong
    | .error _ => .error .busy
    | .ok (t, n) =>
      let t := t.saveContext d .shed
      let t := t.modDish d fun x => { x with deferred := false, pendingReq := none }
      let t := t.setMode d .shedding .shed
      let t := (t.bothAxes fun k s => s.orderHold d k).holdNeeds d
      .ok (t.beginMove d n, n.isNone)

/-- A shed the part makes by itself: made where its checks pass (R113). -/
def Block.autoShedDish (b : Block) (d : DishId) : Block :=
  if b.configured d then
    match b.shedDish d with
    | .ok (t, _) => t
    | .error _ => b
  else b

/-- The dishes handed over at the end of an episode: deferred while the level is not CALM, or shed (R113). -/
def Block.takeShedList (b : Block) (ds : List DishId) : Block :=
  if b.site.cfg.autoShed then
    b.each ds fun d s =>
      if s.weather.level = .calm then s.autoShedDish d
      else s.modDish d fun x => { x with deferred := true }
  else b

/-- The level enters CALM: each deferred shed is judged (R113). -/
def Block.deferredSheds (b : Block) : Block :=
  b.each allDishes fun d s =>
    if (s.dish d).deferred then (s.modDish d fun x => { x with deferred := false }).autoShedDish d else s

/-- Every shed deferral is cleared (R113, R119). -/
def Block.clearDeferrals (b : Block) : Block := b.each allDishes fun d s => s.modDish d fun x => { x with deferred := false }

/-! ### Arrivals (R57, R65, R111, R116) -/

/-- An axis of a running plan has arrived: it has come HELD from its MOVE, or it had no distance and an answer at or
after the start, by the clock of its visit's end (log 37), shows it at its target and at rest (R57). -/
def Block.axisArrived (b : Block) (d : DishId) (k : AxisKind) (dist : Nat) (target : Int) (start : Nat) : Bool :=
  let a := b.axis d k
  if dist = 0 then b.reached start && a.near target && (a.reported.map (·.rate)) == some 0
  else a.state == .held

/-- The arrivals of a plan's axes, added to those already seen. -/
def Block.arrivals (b : Block) (d : DishId) (p : Plan) (start : Nat) (seen : PerAxis Bool) : PerAxis Bool :=
  ⟨seen.az || b.axisArrived d .az p.dist.az p.target.az start, seen.el || b.axisArrived d .el p.dist.el p.target.el start⟩

/-- An arrived member's dish gets its outcome (Table 3-5). -/
def Block.memberOutcome (b : Block) (d : DishId) (thenTrack : Bool) : Block :=
  let t := b.satisfyHold d
  if thenTrack && !(t.queue d).isEmpty then (t.askTrack d .group).1 else t.setMode d .idle .group

/-- An answer is judged for the arrival of a member (R57, R59). An axis that arrives before its fellow keeps its GROUP
need, HELD at P_hold, until the whole member has arrived (DEDUCED, log 37). -/
def Block.judgeMember (b : Block) (d : DishId) : Block :=
  match (b.dish d).group with
  | none => b
  | some g =>
    match b.group g with
    | none => b
    | some x =>
      match x.state, x.start, x.members.find? (fun m => m.dish == d && m.active) with
      | .running, some start, some m =>
        match m.plan with
        | none => b
        | some p =>
          let seen := b.arrivals d p start m.arrived
          let mark := fun (y : Group) =>
            { y with members := y.members.map fun z => if z.dish = d then { z with arrived := seen } else z }
          if seen.az && seen.el then
            let t := (b.modGroup g mark).modMember g d fun z => { z with state := .arrived }
            (t.memberOutcome d x.thenTrack).settleGroup g d
          else b.modGroup g mark
      | _, _, _ => b

/-- A return has arrived (R116). -/
def Block.returnArrived (b : Block) (d : DishId) (i : ReturnIntent) : Block :=
  let t := b.satisfyHold d
  match i.work with
  | .idle => t.setMode d .idle .resume
  | .tracking =>
    let t := t.dropBefore d (t.site.clock.getD 0)
    if (t.queue d).isEmpty then t.setMode d .idle .resume else (t.askTrack d .resume).1

/-- A shed has arrived: both axes braked, the dwell begun (R111). -/
def Block.shedArrived (b : Block) (d : DishId) : Block :=
  let t := b.setMode d .shedDwell .shed
  let t := t.bothAxes fun k s => s.orderBrake d k
  t.modDish d fun x => { x with dwell := .running (b.site.tb + 1000 * b.site.cfg.shedDwell) }

/-- An answer is judged for the arrival of an internal move (R65). -/
def Block.judgeMove (b : Block) (d : DishId) : Block :=
  match b.move d with
  | none => b
  | some m =>
    match m.phase, m.start with
    | .running, some start =>
      let seen := b.arrivals d m.plan start m.arrived
      if seen.az && seen.el then
        let t := b.setMove d none
        match (t.dish d).mode, (t.dish d).intent with
        | .shedding, _ => t.shedArrived d
        | .returning, some i => t.returnArrived d i
        | _, _ => t
      else b.setMove d (some { m with arrived := seen })
    | _, _ => b

/-! ### The e-stop latch (R20, R63, R119, R180) -/

/-- A stop mark as it stands. -/
def StopMarks.get (m : StopMarks) : StopSource → Bool
  | .input => m.input
  | .line .a => m.lineA
  | .line .b => m.lineB
  | .cabinet d => m.cabs[d]

/-- A stop mark set or cleared. -/
def StopMarks.put (m : StopMarks) (s : StopSource) (v : Bool) : StopMarks :=
  match s with
  | .input => { m with input := v }
  | .line .a => { m with lineA := v }
  | .line .b => { m with lineB := v }
  | .cabinet d => { m with cabs := m.cabs.set d v }

/-- A source's number in a report: INPUT, LINE A, LINE B, CABINET 1 to 12 (log 30). -/
def StopSource.num : StopSource → Nat
  | .input => 0
  | .line .a => 1
  | .line .b => 2
  | .cabinet d => d.val + 3

/-- The marks in the order of their numbers. -/
def StopMarks.fields (m : StopMarks) : List Fld := [fb m.input, fb m.lineA, fb m.lineB] ++ allDishes.map fun d => fb m.cabs[d]

/-- An ESTOP report (R180). -/
def Block.tellEstop (b : Block) : Block :=
  b.tell .estop 0 (fb b.site.estop :: fopt b.site.stopSource [1] (fun s => [f1 s.num]) ++ b.site.marks.fields)

/-- What the latch does with one dish's mode (R27, R30, Table 6-7); STOWING and STOW_BLOCKED follow their reasons. -/
def Block.estopMode (b : Block) (d : DishId) : Block :=
  match (b.dish d).mode with
  | .idle | .trackWait => b.losePending d .estop
  | .stowing | .stowBlocked => b
  | .stowed => if b.weather.level = .stow then b else b.setMode d .idle .estop
  | _ => b.setMode d .idle .estop

/-- What the latch does with one dish (R119). -/
def Block.estopDish (b : Block) (d : DishId) : Block :=
  let t := ((b.endMove d).withdrawStow d).modDish d fun x =>
    { x with context := none, deferred := false, intent := none, dwell := .stopped }
  t.estopMode d

/-- The dish has an axis whose recorded need is this group's. -/
def Block.needsGroup (b : Block) (g : GroupId) (d : DishId) : Bool :=
  [AxisKind.az, AxisKind.el].any fun k => (b.axis d k).need.any fun n => n.who == .group g

/-- The members of a STARTING or RUNNING group still under way whose axes lost its need to the latch since b0 are DROPPED
with reason ESTOP; the group itself is aborted after it (R60, R63). -/
def Block.stopMembers (b0 b : Block) (g : GroupId) : Block :=
  match b.group g with
  | some x =>
    if x.state = .starting ∨ x.state = .running then
      b.each (x.members.filter fun m => m.active && b0.needsGroup g m.dish) fun m s =>
        s.modMember g m.dish fun y => { y with state := .dropped, drop := some .estop }
    else b
  | none => b

/-- The latch is set by a mark (R180): every axis braked, the members it reaches dropped, every live group aborted, the
dishes' modes changed, the queues emptied. -/
def Block.latchEstop (b : Block) (s : StopSource) : Block :=
  let t := ({ b with site := { b.site with estop := true, stopSource := some s } }).tellEstop
  let t := t.each allAxes fun p u => u.estopAxis p.1 p.2
  let t := t.each allGroups fun g u => Block.stopMembers b u g
  let t := t.abortAll .estop
  let t := t.each allDishes fun d u => u.estopDish d
  t.each allDishes fun d u => u.flush d

/-- A stop mark follows its source (R180). -/
def Block.setMark (b : Block) (s : StopSource) (v : Bool) : Block :=
  if b.site.marks.get s = v then b
  else
    let t := { b with site := { b.site with marks := b.site.marks.put s v } }
    if t.site.estop then t.tellEstop
    else if v then t.latchEstop s
    else t

end Sys2Proof.Machine
end

