-- ==== Sys2Proof/Machine/Weather.lean ====
section
/-! DEFINITION. Weather.lean: weather entries, readings, the sweep, the stow level and the snow episode (R83 to R100,
R113, R124, R125). -/

namespace Sys2Proof.Machine

/-! ### Reports -/

/-- The site figures as a report or a reply carries them (R92, R101): mean and gust each present when KNOWN (R178); the wind
is a byte, 1 for KNOWN and 0 for UNKNOWN (DESIGN CHOICE, log 28). -/
def Block.figureFields (b : Block) : List Fld :=
  let known := fun (x : Nat) => if b.windKnown then some x else none
  fb b.windKnown :: fopt (known b.siteMean) [2] (fun x => [f2 x]) ++ fopt (known b.siteGust) [2] (fun x => [f2 x])
    ++ fopt b.siteAmbient [2] (fun t => [s2 t]) ++ [f1 b.sitePrecip.ctorIdx, f1 b.contribCount]

/-- Causes of a WEATHER_NODE report (R91). -/
inductive WxCause where
  | enable | disable | forget | warmed | fault | expired | clamped
  deriving DecidableEq, Repr

/-- A reading with its clamp mark (Table 5-1). -/
def Reading.fields (r : Reading) : List Fld :=
  [f2 r.mean, f2 r.gust, s2 r.ambient, f1 r.precip.ctorIdx, fb r.clamp]

/-- A WEATHER_NODE report (R91). -/
def Block.tellWx (b : Block) (n : WeatherId) (cause : WxCause) : Block :=
  let e := b.wx n
  b.tell .weatherNode (nodeNum (.wx n))
    ([f1 e.state.ctorIdx, f1 e.warm, f2 e.faults] ++ fopt e.reading [2, 2, 2, 1, 1] Reading.fields
      ++ [f1 cause.ctorIdx])

/-! ### The snow episode (R124, R125) -/

/-- Causes of an episode (R125). -/
def Block.snowCause (b : Block) : Nat := if b.sitePrecip = .frozen then 0 else if b.wetSnow then 1 else 2

/-- A SNOW report (R125); the report of an episode's end carries the site figures too, its cause absent (DESIGN CHOICE,
log 28). -/
def Block.tellSnow (b : Block) (cause : Option Nat) : Block :=
  b.tell .snow 0 (fb b.heater.episode :: fopt cause [1] (fun c => [f1 c]) ++ b.figureFields)

/-- The snow condition is judged: an episode starts, or its clear timer starts or stops (R125). -/
def Block.judgeSnow (b : Block) : Block :=
  if b.snowCond then
    let t := { b with heater := { b.heater with episode := true, clear := none } }
    if b.heater.episode then t else (t.tellSnow (some b.snowCause)).clearDeferrals
  else if b.heater.episode ∧ b.heater.clear = none then { b with heater := { b.heater with clear := some 0 } }
  else b

/-- The episode ends: the shed list handed over, then the run times zeroed (R125, R113). -/
def Block.endEpisode (b : Block) : Block :=
  let list := allDishes.filter fun d => decide (b.site.cfg.shedThreshold ≤ (b.zone d .surf).meltMin)
  let t := b.takeShedList list
  let t := t.each allDishes fun d s => s.modZone d .surf fun x => { x with fullSecs := 0, meltMin := 0 }
  ({ t with heater := { t.heater with episode := false, clear := none } }).tellSnow none

/-- The seconds without the condition that end an episode (R125). -/
def clearSeconds : Nat := 600

/-- The clear timer set to n ticks; at 600 the episode ends (R125). -/
def Block.clearAt (b : Block) (n : Nat) : Block :=
  if clearSeconds ≤ n then b.endEpisode else { b with heater := { b.heater with clear := some n } }

/-! ### The stow level (R93 to R98) -/

/-- The mean and gust lie below a pair of thresholds, under a KNOWN wind. -/
def Block.calmBelow (b : Block) (mean gust : Nat) : Bool :=
  b.windKnown && decide (b.siteMean < mean) && decide (b.siteGust < gust)

/-- The watch release hold is fixed (R95). -/
def watchHoldSeconds : Nat := 300

/-- The timers start, go on, or stop by their conditions (R94 to R96). -/
def Block.settleTimers (b : Block) : Block :=
  let c := b.site.cfg
  let w := b.weather
  let unknown := if w.level ≠ .stow ∧ !b.windKnown then some (w.unknown.getD 0) else none
  let hold :=
    if w.level = .stow ∧ b.calmBelow c.relMean c.relGust then
      match w.hold with
      | .complete => .complete
      | .running n => if c.relHold ≤ n then .complete else .running n
      | .stopped => .running 0
    else RelHold.stopped
  let watchHold :=
    if w.level = .watch ∧ b.calmBelow c.watchRelMean c.watchRelGust then some (w.watchHold.getD 0) else none
  { b with weather := { w with unknown := unknown, hold := hold, watchHold := watchHold } }

/-- The one change of level whose condition holds, with its cause (R94 to R96). From CALM to WATCH the cause is MEAN where
mean and gust both meet their watch thresholds (DESIGN CHOICE, log 45). -/
def Block.nextLevel (b : Block) : Option (Level × LevelCause) :=
  let c := b.site.cfg
  let w := b.weather
  let graced := w.unknown.any fun n => decide (c.grace ≤ n)
  match w.level with
  | .stow => if w.hold = .complete ∧ !w.force then some (.watch, .release) else none
  | lv =>
    if b.windKnown ∧ c.stowMean ≤ b.siteMean then some (.stow, .mean)
    else if b.windKnown ∧ c.stowGust ≤ b.siteGust then some (.stow, .gust)
    else if graced then some (.stow, .unknown)
    else if w.force then some (.stow, .force)
    else if lv = .calm then
      if b.windKnown ∧ c.watchMean ≤ b.siteMean then some (.watch, .mean)
      else if b.windKnown ∧ c.watchGust ≤ b.siteGust then some (.watch, .gust)
      else none
    else if w.watchHold.any fun n => decide (watchHoldSeconds ≤ n) then some (.calm, .calmed)
    else none

/-- A change of level is recorded, reported and handed to the neighbours (R98). -/
def Block.changeLevel (b : Block) (lv : Level) (cause : LevelCause) : Block :=
  let prev := b.weather.level
  let t := { b with weather :=
    { b.weather with level := lv, cause := cause, changedSec := b.weather.sec, changedTime := b.site.clock } }
  let t := t.report .stowLevel 0 [f1 lv.ctorIdx] (some (f1 prev.ctorIdx))
    ([f1 cause.ctorIdx, fb t.weather.force] ++ t.figureFields)
  match lv with
  | .stow => t.enterStowLevel
  | .watch =>
    let t := if prev = .stow then t.leaveStowLevel else t
    t.each allDishes fun d s => s.raisePoints d
  | .calm => t.deferredSheds

/-- The level is evaluated: the timers, then at most one change, then the timers under the new level (R93). -/
def Block.evaluate (b : Block) : Block :=
  let t := b.settleTimers
  match t.nextLevel with
  | some (lv, cause) => (t.changeLevel lv cause).settleTimers
  | none => t

/-- The site figures have been recomputed: the level is evaluated and the snow condition judged (R92, R124), in this
order, so that a STOW_LEVEL report joins the queue ahead of a SNOW report of the same event (DESIGN CHOICE, log 21). -/
def Block.figuresChanged (b : Block) : Block := b.evaluate.judgeSnow

/-! ### Entries and readings (R85 to R90) -/

/-- An entry with its reading cleared, WARMING from nothing. -/
def WxEntry.cleared (e : WxEntry) : WxEntry := { e with state := .warming, warm := 0, reading := none }

/-- A sensor-fault reading (R89); its WEATHER_NODE report joins the queue ahead of the STOW_LEVEL and SNOW reports of the
recomputation (DESIGN CHOICE, log 21). -/
def Block.wxFault (b : Block) (n : WeatherId) : Block :=
  let e := b.wx n
  let t := (b.setWx n { e.cleared with faults := bump16 e.faults }).tellWx n .fault
  if e.state = .active then t.figuresChanged else t

/-- A reading brought into range (R88); its expiry counts from the present weather second (R84). -/
def Block.wxHeld (b : Block) (r : WxBody) (p : Precip) : Reading :=
  let mean := min r.mean 750
  let gust := max (min r.gust 750) mean
  let ambient := clampInt (-600) 600 r.ambient
  { mean := mean, gust := gust, ambient := ambient, precip := p
    clamp := mean != r.mean || gust != r.gust || ambient != r.ambient
    expiry := b.weather.sec + b.site.cfg.lifetime }

/-- A warming entry whose count meets the target becomes ACTIVE (R89, R100); its count stands, also above a lowered
target (DESIGN CHOICE, log 39). -/
def Block.wxWarmed (b : Block) (n : WeatherId) : Block :=
  let e := b.wx n
  if e.state = .warming ∧ e.reading.isSome ∧ b.site.cfg.warmTarget ≤ e.warm then
    ((b.setWx n { e with state := .active }).tellWx n .warmed).figuresChanged
  else b

/-- A good reading replaces the entry's reading (R88, R89). A clamped reading taken where none is held counts as a mark
newly set, and the CLAMPED report carries the warm count as the reading leaves it (DESIGN CHOICE, log 39); it joins the
queue ahead of the reports of the recomputation (DESIGN CHOICE, log 21). -/
def Block.wxTake (b : Block) (n : WeatherId) (r : Reading) : Block :=
  let e := b.wx n
  let newly := r.clamp && !(e.reading.any fun x => x.clamp)
  let warm := if e.state = .warming then e.warm + 1 else e.warm
  let t := b.setWx n { e with reading := some r, warm := warm }
  let t := if newly then t.tellWx n .clamped else t
  if e.state = .active then t.figuresChanged else t.wxWarmed n

/-- A weather node's reading reaches its entry (R88). -/
def Block.wxReading (b : Block) (n : WeatherId) (r : WxBody) : Block :=
  if (b.wx n).state = .disabled then b
  else match r.fault, r.precip with
  | false, some p => b.wxTake n (b.wxHeld r p)
  | _, _ => b.wxFault n

/-- An entry whose expiry has come is cleared (R90). -/
def Block.expireWx (b : Block) (n : WeatherId) : Block :=
  let e := b.wx n
  match e.reading with
  | some r =>
    if r.expiry ≤ b.weather.sec then
      let t := b.setWx n e.cleared
      if e.state = .active then t.tellWx n .expired else t
    else b
  | none => b

/-- The aging sweep; the figures are recomputed once when an ACTIVE entry was cleared (R90). -/
def Block.sweep (b : Block) : Block :=
  let t := b.each allWeather fun n s => s.expireWx n
  if t.contribCount < b.contribCount then t.figuresChanged else t

/-- The level timers advance by a tick, those that ran before it and still run (R84). -/
def Block.advanceTimers (b0 b : Block) : Block :=
  let w0 := b0.weather
  let w := b.weather
  let hold := match w0.hold, w.hold with
    | .running _, .running n => RelHold.running (n + 1)
    | _, h => h
  { b with weather :=
    { w with
      unknown := if w0.unknown.isSome then w.unknown.map (· + 1) else w.unknown
      hold := hold
      watchHold := if w0.watchHold.isSome then w.watchHold.map (· + 1) else w.watchHold } }

/-- The snow clear timer advances by a tick (R125). -/
def Block.advanceClear (b0 b : Block) : Block :=
  match b0.heater.clear, b.heater.clear with
  | some _, some n => b.clearAt (n + 1)
  | _, _ => b

/-- The SITE_WEATHER report of a tick (R101). -/
def Block.tellSiteWeather (b : Block) : Block :=
  b.tell .siteWeather 0 (b.figureFields ++ [f1 b.weather.level.ctorIdx, fb b.weather.force])

end Sys2Proof.Machine
end

