-- ==== Sys2Proof/Machine/Heater.lean ====
section
/-! DEFINITION. Heater.lean: purpose, demand and the heater second, the cold flag, supervision of contactors, loss of a
cabinet, and the replanning of a WARMING group (R48, R126 to R137). -/

namespace Sys2Proof.Machine

/-! ### Planning a group for power (R46 to R48, R53) -/

/-- The movers of a group planned anew, where its target fits every member (R49). -/
def Block.planGroup (b : Block) (x : Group) : Option (List Mover) :=
  x.members.foldr (fun m acc =>
    match b.memberTarget m.dish x.az x.el x.pref, acc with
    | some t, some ms => some ((m.dish, b.planTo m.dish t) :: ms)
    | _, _ => none) (some [])

/-- The plan recorded in the group: each member's plan, n0, and L raised to n0 (R42, R51). -/
def Block.recordPlan (b : Block) (g : GroupId) (ms : List Mover) (n0 : Nat) : Block :=
  b.modGroup g fun x =>
    { x with
      n0 := some n0
      limit := max x.limit n0
      members := x.members.map fun m => { m with plan := (ms.find? fun p => p.1 == m.dish).map (·.2) } }

/-- A planned group asks for its power: STARTING with its needs not yet delivered, WAITING, or BUSY with nothing changed
(R47, R53). -/
def Block.askGroup (b : Block) (g : GroupId) (ms : List Mover) (n0 limit : Nat) : Block × Asked :=
  let r := b.askPlanned (.group g) ms n0 (max limit n0)
  match r.2.1 with
  | .busy => (b, .busy)
  | .queued => ((r.1.recordPlan g ms n0).setGroupState g .waiting, .queued)
  | .granted => ((r.1.recordPlan g ms n0).recordGrant g r.2.2 (r.1.wantsAt ms r.2.2), .granted)

/-- The cold flag of any member of a group is set (R47, R48). -/
def Block.groupCold (b : Block) (x : Group) : Bool := x.members.any fun m => b.cold m.dish

/-- A WARMING group whose member axes are all warm is planned anew (R48); a plan that is made stands in the record also
where it is then refused with BUSY (R42, R51), and one that fails leaves the record as it was (log 41). -/
def Block.replan (b : Block) (g : GroupId) : Block :=
  match b.group g with
  | none => b
  | some x =>
    if x.state = .warming ∧ !b.groupCold x then
      match b.planGroup x with
      | none => b.abortGroup g .plan none
      | some ms =>
        let n0 := b.minDuration ms
        if 6000 < n0 then b.abortGroup g .plan none
        else
          let r := b.askGroup g ms n0 x.limit
          match r.2 with
          | .busy => (b.recordPlan g ms n0).abortGroup g .busy none
          | .queued => r.1
          | .granted => r.1.deliverGroup g
    else b

/-! ### Purpose, demand, serving (R126, R128, R130, R137) -/

/-- The dish is a member of a WARMING group. -/
def Block.warmingDish (b : Block) (d : DishId) : Bool :=
  match (b.dish d).group with
  | some g => (b.group g).any fun x => x.state == .warming
  | none => false

/-- The purpose and rank of a zone (R126). A zone whose dish is not configured, which R126 does not judge, has purpose
NONE and no rank from the next heater second on (DESIGN CHOICE, log 46). -/
def Block.purposeOf (b : Block) (d : DishId) (z : ZoneKind) : Purpose × Option Nat :=
  let x := b.zone d z
  if !b.configured d then (.none, none)
  else match z with
  | .drive =>
    if b.warmingDish d then (.prewarm, some 1)
    else if x.prewarm.isSome || (b.site.cfg.autoPrewarm && b.cold d) then (.prewarm, some 2)
    else (.none, none)
  | .surf => if b.heater.episode && x.cfg.autoMelt then (.melt, some 3) else (.none, none)

/-- The demand duty of a zone toward its setpoint (R128). -/
def demandOf (c : ZoneCfg) (temp : Option Int) : Nat :=
  match temp with
  | none => 0
  | some t => if c.setpoint - t ≤ 0 then 0 else min 16 (ceilDiv (c.setpoint - t).toNat c.step)

/-- Purpose, rank and demand judged for the new second (R126, R128). -/
def Block.judgeZone (b : Block) (d : DishId) (z : ZoneKind) : Block :=
  let p := b.purposeOf d z
  let x := b.zone d z
  let shut := (b.zoneMode d z).shut
  let demand := if p.1 = .none ∨ shut then 0 else demandOf x.cfg x.temp
  b.setZone d z { x with purpose := p.1, rank := p.2, demand := demand }

/-- The zones served in the second, in serving order (R130). -/
def Block.servingOrder (b : Block) : List ZoneRef :=
  let ranked := fun (z : ZoneKind) (r : Nat) =>
    (allDishes.filter fun d => (b.zone d z).rank == some r && !(b.zoneMode d z).shut).map fun d => (⟨d, z⟩ : ZoneRef)
  ranked .drive 1 ++ ranked .drive 2 ++ ranked .surf 3

/-- The largest duty not above a demand whose watts do not exceed what remains (R130). -/
def dutyWithin (rated remaining : Nat) : Nat → Nat
  | 0 => 0
  | d + 1 => if dutyWatts rated (d + 1) ≤ remaining then d + 1 else dutyWithin rated remaining d

/-- The duties served, zone by zone, from the heat available (R130). -/
def Block.serve (b : Block) : Nat → List ZoneRef → List (ZoneRef × Nat)
  | _, [] => []
  | left, r :: rs =>
    let x := b.zone r.d r.z
    let duty := dutyWithin x.cfg.rated left x.demand
    (r, duty) :: b.serve (left - dutyWatts x.cfg.rated duty) rs

/-- A second at full duty counts toward the melt run time (R137). -/
def Zone.countMelt (x : Zone) : Zone :=
  if x.duty = 16 then
    if x.fullSecs + 1 = 60 then { x with fullSecs := 0, meltMin := min 65535 (x.meltMin + 1) }
    else { x with fullSecs := x.fullSecs + 1 }
  else x

/-- Every zone in turn. -/
def Block.eachZone (b : Block) (f : DishId → ZoneKind → Block → Block) : Block :=
  b.each allZones fun p s => f p.1 p.2 s

/-- The heater second (R130): melt time, purpose and demand, serving from B_eff less the claim total, duties and slots,
modes; a lower H calls for an examination (R70). -/
def Block.heaterSecond (b : Block) : Block :=
  let t := if b.heater.episode then b.each allDishes fun d s => s.modZone d .surf Zone.countMelt else b
  let second := match b.site.clock with
    | some c => c / 1000
    | none => b.weather.sec
  let t := { t with heater := { t.heater with slot := second } }
  let t := t.eachZone fun d z s => s.judgeZone d z
  let order := t.servingOrder
  let t := { t with heater := { t.heater with serving := order } }
  let duties := t.serve (t.account.beff - t.claimTotal) order
  let t := t.eachZone fun d z s =>
    (s.setDuty d z (((duties.find? fun p => p.1.d == d && p.1.z == z).map (·.2)).getD 0)).rederiveZone d z
  if t.heatTotal < b.heatTotal then t.callExamine else t

/-! ### Cold flag (R129) -/

/-- The cold flag a temperature leaves (R129). -/
def coldAfter (cold : Bool) (t : Int) : Bool := if t < -100 then true else if -80 ≤ t then false else cold

/-- The drive temperature judges the cold flag; a change is reported, ends a pre-warm request, and is told to the Slew
Planner (R48, R127, R129). -/
def Block.judgeCold (b : Block) (d : DishId) (t : Int) : Block :=
  let c := coldAfter (b.cold d) t
  if c = b.cold d then b
  else
    let s := { b with heater := { b.heater with cold := b.heater.cold.set d c } }
    let s := if c then s else s.modZone d .drive fun x => { x with prewarm := none }
    let s := s.tellZone d .drive
    match (s.dish d).group with
    | some g => s.replan g
    | none => s

/-! ### Supervision (R133 to R136) -/

/-- The reported contactor is compared with the one ordered, in every mode (R134). -/
def Zone.compare (x : Zone) (ordered : Bool) (tb : Nat) : Zone :=
  if x.reported = some ordered then { x with mismatch := none }
  else { x with mismatch := some (x.mismatch.getD tb) }

/-- The zone part of an accepted answer (R121, R129, R133, R134). -/
def Block.zoneAnswer (b : Block) (d : DishId) (body : CabBody) (surfOrdered driveOrdered : Bool) : Block :=
  let one := fun (s : Block) (z : ZoneKind) (t : Int) (on_ ordered : Bool) =>
    (s.modZone d z fun x => ({ x with temp := some t, reported := some on_ }).compare ordered b.site.tb).rederiveZone d z
  let s := one b .surf body.surfTemp body.surfOn surfOrdered
  let s := one s .drive body.driveTemp body.driveOn driveOrdered
  s.judgeCold d body.driveTemp

/-- The zones of an unreachable cabinet (R133). -/
def Block.loseZones (b : Block) (d : DishId) : Block :=
  let one := fun (s : Block) (z : ZoneKind) =>
    (((s.shutZone d z).modZone d z fun x =>
      { x with commanded := false, reported := none, temp := none, mismatch := none }).deriveZone d z).tellZone d z
  one (one b .surf) .drive

/-- A zone's fault flag is set (R134). -/
def Block.faultZone (b : Block) (d : DishId) (z : ZoneKind) : Block :=
  (((b.shutZone d z).modZone d z fun x => { x with commanded := false, mismatch := none, fault := true }
    ).deriveZone d z).tellZone d z

/-- The lock count of a zone rises from zero (R136). -/
def Block.zoneLockRise (b : Block) (d : DishId) (z : ZoneKind) : Block :=
  (((b.shutZone d z).modZone d z fun x => { x with commanded := false }).deriveZone d z).tellZone d z

/-- The lock count of a zone falls to zero: a LOCKED zone's mode is derived anew, with a report (R136). -/
def Block.zoneLockFall (b : Block) (d : DishId) (z : ZoneKind) : Block :=
  if (b.zone d z).mode = .locked then (b.deriveZone d z).tellZone d z else b

end Sys2Proof.Machine
end

