-- ==== Sys2Proof/Machine/Lock.lean ====
section
/-! DEFINITION. Lock.lean: lock entries joining and leaving, safe marks and engagement, and the key switches (R138 to
R148). -/

namespace Sys2Proof.Machine

/-- A number is held by an entry. -/
def Block.numHeld (b : Block) (n : Nat) : Bool := b.lockout.entries.any fun e => e.num == n

/-- The number after n, counting from 65535 on to 1 (R140). -/
def nextNum (n : Nat) : Nat := if n < 65535 then n + 1 else 1

/-- The first number from n that no entry holds (R140); at most 64 are held. -/
def Block.freeNum (b : Block) : Nat → Nat → Nat
  | 0, n => n
  | fuel + 1, n => if b.numHeld n then b.freeNum fuel (nextNum n) else n

/-- An entry placed by its number (R138). -/
def insertLock (e : LockEntry) : List LockEntry → List LockEntry
  | [] => [e]
  | x :: xs => if e.num < x.num then e :: x :: xs else x :: insertLock e xs

/-- Each safe mark follows its target (R136, R144). -/
def Block.setMarks (b : Block) : Block :=
  { b with lockout :=
    { b.lockout with
      axisSafe := vec12 fun d => ⟨b.axisSafeNow d .az, b.axisSafeNow d .el⟩
      zoneSafe := vec12 fun d => ⟨b.zoneSafeNow d .surf, b.zoneSafeNow d .drive⟩ } }

/-- One entry's state set (R144). -/
def Block.setEngaged (b : Block) (num : Nat) (v : Bool) : Block :=
  let es := b.lockout.entries.map fun e => if e.num = num then { e with engaged := v } else e
  { b with lockout := { b.lockout with entries := es } }

/-- One entry is judged anew, with a report where its state changes (R144). -/
def Block.judgeEntry (b : Block) (e : LockEntry) : Block :=
  let v := b.entrySafe e
  if e.engaged = v then b
  else (b.setEngaged e.num v).tellLock { e with engaged := v } (if v then .engaged else .disengaged)

/-- The safe marks are kept and every entry judged (R144). -/
def Block.settleLocks (b : Block) : Block :=
  let t := b.setMarks
  t.each t.lockout.entries fun e s => s.judgeEntry e

/-- The counts of a dish's targets have risen since b0: the owners of those that were zero act, then the dish's work
(R139, R142). -/
def Block.actOnRise (b0 b : Block) (d : DishId) : Block :=
  let ax := fun (s : Block) (k : AxisKind) => if b0.axisLocks d k = 0 ∧ 0 < b.axisLocks d k then s.lockRise d k else s
  let zn := fun (s : Block) (z : ZoneKind) =>
    if b0.zoneLocks d z = 0 ∧ 0 < b.zoneLocks d z then s.zoneLockRise d z else s
  Block.reactLost b0 (zn (zn (ax (ax b .az) .el) .surf) .drive) d

/-- The counts of a dish's targets have fallen since b0: the owners of those now zero act (R146). -/
def Block.actOnFall (b0 b : Block) (d : DishId) : Block :=
  let ax := fun (s : Block) (k : AxisKind) => if 0 < b0.axisLocks d k ∧ b.axisLocks d k = 0 then s.lockFall d k else s
  let zn := fun (s : Block) (z : ZoneKind) =>
    if 0 < b0.zoneLocks d z ∧ b.zoneLocks d z = 0 then s.zoneLockFall d z else s
  zn (zn (ax (ax b .az) .el) .surf) .drive

/-- An entry is created (R141 steps 1 to 3, R148): numbered, its counts raised, judged when the owners have acted, and
reported PLACED. -/
def Block.placeLock (b : Block) (kind : LockKind) (d : DishId) (holder : Nat) (key : Bool) : Block × Nat :=
  let num := b.freeNum 65 b.lockout.next
  let e : LockEntry :=
    { num := num, kind := kind, dish := d, holder := holder, key := key, engaged := false
      placed := b.siteSecond, stored := false }
  let t := { b with lockout := { b.lockout with entries := insertLock e b.lockout.entries, next := nextNum num } }
  let t := (Block.actOnRise b t d).setMarks
  let v := t.entrySafe e
  ((t.setEngaged num v).tellLock { e with engaged := v } .placed, num)

/-- An entry is removed (R145, R148): its counts lowered, and reported REMOVED as it stood, behind the reports of the
owners that act, and with the lock counts as they are lowered (DESIGN CHOICE, log 42). -/
def Block.takeLock (b : Block) (e : LockEntry) : Block :=
  let t := { b with lockout := { b.lockout with entries := b.lockout.entries.filter fun x => x.num != e.num } }
  (Block.actOnFall b t e.dish).tellLock e .removed

/-- The KEY entry of a dish (R139). -/
def Block.keyEntry (b : Block) (d : DishId) : Option LockEntry :=
  b.lockout.entries.find? fun e => e.key && e.dish == d

/-- One key record replaced. -/
def Block.setKey (b : Block) (d : DishId) (r : KeyRec) : Block :=
  { b with lockout := { b.lockout with keys := b.lockout.keys.set d r } }

/-- A position advances one run and clears the other (R147). -/
def KeyRec.next (r : KeyRec) (lockout : Bool) : KeyRec :=
  if lockout then { pos := some true, lockRun := min 3 (r.lockRun + 1), remoteRun := 0 }
  else { pos := some false, lockRun := 0, remoteRun := min 3 (r.remoteRun + 1) }

/-- An accepted answer's key switch position (R147, R148). -/
def Block.keyAnswer (b : Block) (d : DishId) (lockout : Bool) : Block :=
  let old := b.lockout.keys[d]
  let new := old.next lockout
  let t := b.setKey d new
  if new.lockRun = 3 ∧ old.lockRun ≠ 3 then
    if (t.keyEntry d).isNone then (t.placeLock .dish d 0 true).1 else t
  else if new.remoteRun = 3 ∧ old.remoteRun ≠ 3 then
    match t.keyEntry d with
    | some e => t.takeLock e
    | none => t
  else t

/-- The key record of an unreachable cabinet (R147). -/
def Block.clearKey (b : Block) (d : DishId) : Block := b.setKey d { pos := none, lockRun := 0, remoteRun := 0 }

end Sys2Proof.Machine
end

