-- ==== Sys2Proof/Machine/Field.lean ====
section
/-! DEFINITION. Field.lean: lines, cycles, visits, answers, reach and the configured cabinet set (R153 to R166). -/

namespace Sys2Proof.Machine

/-! ### Reach (R161, R162) -/

/-- A node's reach changed, with a NODE_REACH report (R161). -/
def Block.reportReach (b : Block) (r : NodeRef) (new : Reach) : Block :=
  let x := b.node r
  if x.reach = new then b
  else
    (b.setNode r { x with reach := new }).report .nodeReach (nodeNum r) [f1 new.ctorIdx] (some (f1 x.reach.ctorIdx))
      [f1 x.missA, f1 x.missB]

/-- What a cabinet's loss does: axes OFFLINE, zones OFF, key record cleared, and the dish's work (R162). -/
def Block.loseCabinet (b : Block) (d : DishId) : Block :=
  let t := (b.offlineAxis d .az).offlineAxis d .el
  Block.reactLost b ((t.loseZones d).clearKey d) d

/-- A node's reach set; entering UNREACHABLE clears its last status and has its consequences (R161, R162), whose reports
join the queue behind the NODE_REACH one (DESIGN CHOICE, log 22). -/
def Block.setReach (b : Block) (r : NodeRef) (new : Reach) : Block :=
  if (b.node r).reach = new then b
  else
    let t := b.reportReach r new
    if new = .unreachable then
      let t := t.setNode r { t.node r with lastStatus := none }
      match r with
      | .cab d => t.loseCabinet d
      | .wx _ => t
    else t

/-! ### Lines (R154, R157, R158, R164, R165) -/

/-- Causes of a LINE_STATE report. -/
inductive LineCause where
  | echo | probe | brk
  deriving DecidableEq, Repr

/-- A line's state changed, with a LINE_STATE report, which carries the new state and then the cause (DESIGN CHOICE,
log 28). -/
def Block.setLineState (b : Block) (l : Line) (x : LineRec) (cause : LineCause) : Block :=
  (b.setLine l x).tell .lineState (lineNum l) [f1 x.state.ctorIdx, f1 cause.ctorIdx]

/-- What the visit does on a line. -/
def Visit.phase (v : Visit) : Line → LinePhase
  | .a => v.a
  | .b => v.b

/-- The visit's part on one line replaced. -/
def Visit.setPhase (v : Visit) (l : Line) (p : LinePhase) : Visit :=
  match l with
  | .a => { v with a := p }
  | .b => { v with b := p }

/-- A line is heard in the visit. -/
def Visit.hear (v : Visit) : Line → Visit
  | .a => { v with heardA := true }
  | .b => { v with heardB := true }

/-- The visit replaced. -/
def Block.setVisit (b : Block) (v : Option Visit) : Block := { b with field := { b.field with visit := v } }

/-- An order frame goes out on this line: it is UP, or DOWN with its probe due (R156, R158). -/
def Block.lineCarries (b : Block) (l : Line) : Bool :=
  match (b.line l).state with
  | .up => true
  | .down => (b.line l).probeDue.any fun t => decide (t ≤ b.site.tb)
  | .brk => false

/-- A byte read back differs (R157, R158). -/
def Block.echoFails (b : Block) (l : Line) : Block :=
  match b.field.visit with
  | none => b
  | some v =>
    if v.phase l = .sending then
      let t := b.setVisit (some (v.setPhase l .abandoned))
      let x := { b.line l with echoTotal := bump16 (b.line l).echoTotal }
      match x.state with
      | .up =>
        if 5 ≤ x.echoRun + 1 then
          t.setLineState l { x with state := .down, echoRun := 0, probeDue := some (b.site.tb + 10000) } .echo
        else t.setLine l { x with echoRun := x.echoRun + 1 }
      | .down => t.setLine l { x with probeDue := some (v.sentAt + 10000) }
      | .brk => t
    else b

/-- An order frame has gone in full: the window opens, and a probe makes its line UP (R157, R158). -/
def Block.frameSent (b : Block) (l : Line) : Block :=
  match b.field.visit with
  | none => b
  | some v =>
    if v.phase l = .sending then
      let t := b.setVisit (some (v.setPhase l .window))
      let x := b.line l
      if x.state = .down then t.setLineState l { x with state := .up, echoRun := 0, probeDue := none } .probe
      else t.setLine l { x with echoRun := 0 }
    else b

/-- A line enters BREAK (R164); the stop mark is kept from DISCOVERING on (R180). -/
def Block.lineBreaks (b : Block) (l : Line) : Block :=
  let x := b.line l
  if x.state = .brk then b
  else
    let cut := fun (v : Visit) => if v.phase l = .unused then v else v.setPhase l .abandoned
    let t := b.setVisit (b.field.visit.map cut)
    let t := t.setLineState l
      { x with state := .brk, echoRun := 0, probeDue := none, breakStart := some b.site.tb, heldReports := 0 } .brk
    if b.site.startup = .starting then t else t.setMark (.line l) true

/-- The time a break has been held, in whole seconds (R165, log 28). -/
def Block.breakHeld (b : Block) (x : LineRec) : Nat := min 65535 ((b.site.tb - x.breakStart.getD b.site.tb) / 1000)

/-- Another 4 s of a break (R165). -/
def Block.breakGoesOn (b : Block) (l : Line) : Block :=
  match (b.line l).breakStart with
  | none => b
  | some t0 =>
    let n := (b.line l).heldReports + 1
    let t := b.carryTo (t0 + 4000 * n)
    let x := { t.line l with heldReports := n }
    (t.setLine l x).tell .breakHeld (lineNum l) [f2 (t.breakHeld x)]

/-- A break ends (R165). -/
def Block.breakEnds (b : Block) (l : Line) : Block :=
  let x := b.line l
  if x.state = .brk then
    let t := (b.setLine l { x with state := .up, echoRun := 0, breakStart := none, heldReports := 0 }).tell .breakEnd
      (lineNum l) [f2 (b.breakHeld x)]
    if b.site.startup = .starting then t else t.setMark (.line l) false
  else b

/-! ### Cycles (R39, R58, R155) -/

/-- When what comes every p ms, and was due at a moment now reached, comes next: by the clock where it is set, by the
internal time base otherwise (R84, R155). Moments of it that are past already by then are dropped: a tick taken late
counts one second, whatever number has gone by (DESIGN CHOICE, log 45; of cycles, log 22). -/
def Block.nextDue (b : Block) (due p : Nat) : Nat :=
  match b.site.clock with
  | some _ => b.site.tb + b.untilMultiple p
  | none => b.site.tb + (p - (b.site.tb - due) % p)

/-- The queue of a TRACKING dish is consumed; one that has run out ends the tracking (R39). -/
def Block.consume (b : Block) (d : DishId) (now : Nat) : Block :=
  if (b.dish d).mode = .tracking then
    let q := consumed (b.queue d) now
    let t := b.setQueue d q
    if q = [] then t.endTracking d .trackEnd else t
  else b

/-- The late deadline of a running group (R58). -/
def Group.deadline (x : Group) : Option Nat :=
  match x.state, x.start, x.nStar with
  | .running, some t, some n => some (t + 100 * n + 10000)
  | _, _, _ => none

/-- Each member still under way is marked LATE (R58). -/
def Block.markLate (b : Block) (g : GroupId) : Block :=
  match b.group g with
  | none => b
  | some x =>
    b.each x.members fun m s =>
      if m.active && !m.late then s.modMember g m.dish fun y => { y with late := true } else s

/-- A group is judged against its deadline at a cycle's site time (R58). -/
def Block.judgeLate (b : Block) (g : GroupId) (now : Nat) : Block :=
  match (b.group g).bind Group.deadline with
  | some t => if t ≤ now then b.markLate g else b
  | none => b

/-- A waiting polarity applies at the beginning of a cycle (R154). -/
def LineRec.applyPol (x : LineRec) : LineRec :=
  match x.newPol with
  | some p => { x with inverted := p, newPol := none, echoRun := 0 }
  | none => x

/-- A field cycle begins (R155): polarities, consumption, TRACK points, late deadlines, then the nodes to visit. -/
def Block.beginCycle (b : Block) : Block :=
  let t := { b with field :=
    { b.field with
      cycleTime := b.site.clock, successor := false
      lineA := b.field.lineA.applyPol, lineB := b.field.lineB.applyPol } }
  let t := match b.site.clock with
    | some now => t.each allDishes fun d s => s.consume d now
    | none => t
  let t := t.each allAxes fun p s => s.refreshTrack p.1 p.2
  let t := match b.site.clock with
    | some now => t.each allGroups fun g s => s.judgeLate g now
    | none => t
  { t with field := { t.field with todo := allNodes.filter t.inCycle } }

/-- A successor that waits begins when no visit is left (R155). -/
def Block.nextCycle (b : Block) : Block :=
  if b.field.successor && b.field.visit.isNone && b.field.todo.isEmpty then b.beginCycle else b

/-! ### Visits (R156, R159, R161) -/

/-- The order of a node from the present state of its owners (Table 9-2). -/
def Block.orderFor (b : Block) : NodeRef → OrderSent
  | .cab d =>
    .cabinet (b.site.clock.getD 0) (b.axis d .az).order (b.axis d .el).order (b.zone d .surf).commanded
      (b.zone d .drive).commanded
  | .wx _ => .poll

/-- The next node is visited (R156); with no line to carry the order none is sent. -/
def Block.visitNode (b : Block) (r : NodeRef) (rest : List NodeRef) : Block :=
  let phase := fun l => if b.lineCarries l then LinePhase.sending else .unused
  let v : Visit :=
    { node := r, a := phase .a, b := phase .b, sentAt := b.site.tb, answers := [], heardA := false, heardB := false }
  let t := { b with field := { b.field with todo := rest, visit := some v } }
  if b.lineCarries .a || b.lineCarries .b then
    let x := t.node r
    t.setNode r { x with seq := (x.seq + 1) % 256, lastOrder := some (b.orderFor r) }
  else t

/-- An answer frame ends on a line (R159, R177). -/
def Block.answerEnds (b : Block) (l : Line) (bytes : List Byte) : Block :=
  match b.field.visit with
  | none => b
  | some v =>
    if v.phase l = .window then
      let x := b.node v.node
      let bad := b.setNode v.node { x with bads := bump16 x.bads }
      match readAnswer v.node bytes with
      | none => bad
      | some f =>
        if f.addr ≠ nodeNum v.node ∨ f.answered ≠ x.seq then bad
        else
          let heard := if f.answer.acc = .corrupt then v else v.hear l
          if x.lastStatus = some f.status then
            (b.setNode v.node { x with dups := bump16 x.dups }).setVisit (some heard)
          else
            (b.setNode v.node { x with lastStatus := some f.status, taken := bump16 x.taken }).setVisit
              (some { heard with answers := heard.answers ++ [f.answer] })
    else b

/-- A miss count after a visit (R161). -/
def missNext (heard : Bool) (n : Nat) : Nat := if heard then 0 else min 3 (n + 1)

/-- The reach a visit leaves (R161): UNKNOWN is left at the first answer taken, or after start-up when both lines are
lost. -/
def Block.reachAfter (b : Block) (x : Node) (answered : Bool) : Reach :=
  if x.reach = .unknown ∧ !answered then
    if 3 ≤ x.missA ∧ 3 ≤ x.missB ∧ b.site.startup = .ready then .unreachable else .unknown
  else reachOf x.missA x.missB

/-- The contactor orders of the order an answer answers (R134, R163). -/
def OrderSent.contactors : OrderSent → Bool × Bool
  | .poll => (false, false)
  | .cabinet _ _ _ s d => (s, d)

/-- An accepted cabinet answer reaches its owners (R163): axes, what their loss does, zones, arrivals, key switch. Of a
cabinet that has left the cycle and joined it again within its own visit the last order is absent, and the contactor
orders handed are OFF and OFF (DESIGN CHOICE, log 22). -/
def Block.handCabinet (b : Block) (d : DishId) (x : CabBody) : Block :=
  let t := (b.axisAnswer d .az x.az).axisAnswer d .el x.el
  let t := Block.reactLost b t d
  let t := (t.judgeLag d .az x.az).judgeLag d .el x.el
  let o := ((b.node (.cab d)).lastOrder.getD .poll).contactors
  let t := t.zoneAnswer d x o.1 o.2
  ((t.judgeMember d).judgeMove d).keyAnswer d x.lockout

/-- The local e-stop flag of a taken answer reaches its cabinet's stop mark (R163, R180). -/
def Block.handStop (b : Block) (r : NodeRef) (a : Answer) : Block :=
  match r, a.body with
  | .cab d, .cab x => b.setMark (.cabinet d) x.estop
  | _, _ => b

/-- A taken answer is handed when its visit has been settled (R163). -/
def Block.hand (b : Block) (r : NodeRef) (a : Answer) : Block :=
  let lost := (b.node r).reach = .unreachable
  match r, a.body with
  | .cab d, .cab x =>
    let t :=
      if lost then b
      else if a.acc = .refused then
        Block.reactLost b ((b.axisRefused d .az).axisRefused d .el) d
      else b.handCabinet d x
    t.handStop r a
  | .wx n, .wx x => if lost ∨ a.acc = .refused then b else b.wxReading n x
  | _, _ => b

/-- The answers taken in a visit are handed: of each its e-stop flag, of the last every part (R163, log 24). -/
def Block.handAll (b : Block) (r : NodeRef) : List Answer → Block
  | [] => b
  | [a] => b.hand r a
  | a :: as => (b.handStop r a).handAll r as

/-- The local e-stop flag of each answer taken, and no other part (R163). -/
def Block.handStops (b : Block) (r : NodeRef) (as : List Answer) : Block := b.each as fun a s => s.handStop r a

/-- A visit ends: miss counts and reach are settled, then its answers are handed (R161, R163); a node that has left the
cycle is not settled, and of its answers the local e-stop flags alone are handed, whatever its reach (log 22). -/
def Block.endVisit (b : Block) : Block :=
  match b.field.visit with
  | none => b
  | some v =>
    let t := b.setVisit none
    let t :=
      if t.inCycle v.node then
        let x := t.node v.node
        let x := { x with missA := missNext v.heardA x.missA, missB := missNext v.heardB x.missB }
        let t := (t.setNode v.node x).setReach v.node (t.reachAfter x !v.answers.isEmpty)
        t.handAll v.node v.answers
      else t.handStops v.node v.answers
    t.nextCycle

/-! ### The configured cabinet set (R166) -/

/-- A node as it joins the cycle (R166). One outside the cycle is UNKNOWN already, so that joining changes no reach. -/
def Node.joined (x : Node) : Node :=
  { x with reach := .unknown, missA := 0, missB := 0, seq := 0, lastOrder := none, lastStatus := none }

/-- A node as it leaves the cycle, but for its reach (R166); a weather node's last status sequence is removed as a
cabinet's is (DESIGN CHOICE, log 22). -/
def Node.left (x : Node) : Node := { x with missA := 0, missB := 0, lastStatus := none }

/-- Membership of one cabinet set. -/
def Block.setConfigured (b : Block) (d : DishId) (v : Bool) : Block :=
  { b with field := { b.field with configured := b.field.configured.set d v } }

/-- A node leaves the cycle: its entry as R166 leaves it, the change of its reach to UNKNOWN reported with the counts at 0
(R161; DESIGN CHOICE, log 22), and no visit to it in what is left of the cycle, whether or not it joins again (R155). -/
def Block.leaveCycle (b : Block) (r : NodeRef) : Block :=
  let t := (b.setNode r (b.node r).left).reportReach r .unknown
  { t with field := { t.field with todo := t.field.todo.filter (· != r) } }

/-- Both zone modes of a dish derived anew as it becomes configured or ceases to be (R121, R123). -/
def Block.rederiveBoth (b : Block) (d : DishId) : Block := (b.rederiveZone d .surf).rederiveZone d .drive

/-- A cabinet is added (R166): under STOW its dish is taken into stow whatever its mode, a STOWED one too. -/
def Block.addCabinet (b : Block) (d : DishId) : Block :=
  let t := ((b.setNode (.cab d) (b.node (.cab d)).joined).setConfigured d true).rederiveBoth d
  let t := t.recomputeFloor
  if t.weather.level = .stow then t.takeIntoStow d else t

/-- A cabinet is removed (R166). -/
def Block.removeCabinet (b : Block) (d : DishId) : Block :=
  let t := if b.heard d then b.setReach (.cab d) .unreachable else b
  let t := ((t.leaveCycle (.cab d)).setConfigured d false).rederiveBoth d
  let t := t.modZone d .drive fun x => { x with prewarm := none }
  (t.setMark (.cabinet d) false).recomputeFloor

/-- Each cabinet whose membership changes, added or removed (R166), in ascending order, the floor computed anew after
each (R67): a floor that stands only between two of them can raise B_req, which keeps the raise (DESIGN CHOICE,
log 21). -/
def Block.swapCabinets (b : Block) (want : DishId → Bool) : Block :=
  b.each allDishes fun d s =>
    if want d = s.configured d then s else if want d then s.addCabinet d else s.removeCabinet d

/-- The configured set replaced (R166); a cycle that this leaves with no node to visit gives way to a successor that
waits (R155). -/
def Block.setCabinets (b : Block) (want : DishId → Bool) : Block := (b.swapCabinets want).nextCycle

/-! ### Start-up (R185) -/

/-- Every configured cabinet's key record shows a run of 3. -/
def Block.discovered (b : Block) : Bool :=
  allDishes.all fun d =>
    !b.configured d || b.lockout.keys[d].lockRun == 3 || b.lockout.keys[d].remoteRun == 3

/-- A node still UNKNOWN as DISCOVERING ends is UNREACHABLE, which is both lines lost: its counts stand at 3 (R161,
log 22), so that it leaves only when a line is heard (R162). A node whose first answer is taken in a visit not yet ended
is still UNKNOWN here (DESIGN CHOICE, log 22). -/
def Block.loseUnknown (b : Block) (r : NodeRef) : Block :=
  if b.inCycle r && (b.node r).reach == .unknown then
    (b.setNode r { b.node r with missA := 3, missB := 3 }).setReach r .unreachable
  else b

/-- DISCOVERING ends: READY, and the nodes of the cycle still UNKNOWN become UNREACHABLE (R161, R185). -/
def Block.becomeReady (b : Block) : Block :=
  let t := { b with site := { b.site with startup := .ready, discovering := none } }
  t.each allNodes fun r s => s.loseUnknown r

/-- DISCOVERING ends when its condition holds (R185). -/
def Block.judgeStartup (b : Block) : Block :=
  if b.site.startup = .discovering ∧ b.discovered then b.becomeReady else b

end Sys2Proof.Machine
end

