-- ==== Sys2Proof/Machine/Finish.lean ====
section
/-! DEFINITION. Finish.lean: what every event settles before it ends: blocks, examinations, starts, park timers, lock
engagement, the outputs, releases the beacon allows, and the transmitter (R7, R15, R26, R31, R56, R65, R76, R106, R107,
R109, R144, R176, R182; logs 8, 9, 21). -/

namespace Sys2Proof.Machine

/-- An axis with its park request set that is HELD is sent BRAKE (R31); a need recorded since is kept. -/
def Block.pursuePark (b : Block) (d : DishId) (k : AxisKind) : Block :=
  if (b.axis d k).state = .held ∧ (b.dish d).parkReq.get k then
    (b.modDish d fun x => { x with parkReq := x.parkReq.set k false }).engage d k
  else b

/-- An axis of a TRACKING dish that is HELD is sent TRACK (R26). -/
def Block.pursueTrack (b : Block) (d : DishId) (k : AxisKind) : Block :=
  if (b.dish d).mode = .tracking ∧ b.heldFor d k .track then b.orderTrack d k else b

/-- What waits on an axis being HELD or braked (R26, R31, R56, R65, R106, R107). -/
def Block.pursue (b : Block) : Block :=
  let t := b.each allAxes fun p s => s.pursuePark p.1 p.2
  let t := t.each allGroups fun g s => s.startGroup g none
  let t := t.each allDishes fun d s => (s.startMove d).pursueStow d
  let t := t.each allAxes fun p s => s.pursueTrack p.1 p.2
  t.each allDishes fun d s => s.finishStow d

/-- The conditions of an axis's park timer (R15). -/
def Block.mayPark (b : Block) (d : DishId) (k : AxisKind) : Bool :=
  let a := b.axis d k
  a.state == .held && (b.dish d).mode == .idle && (match a.need with
    | none => true
    | some n => n.who == .hold)

/-- The park timer starts when its conditions begin to hold, and stops when one fails (R15). -/
def Block.settlePark (b : Block) (d : DishId) (k : AxisKind) : Block :=
  b.modAxis d k fun a =>
    { a with
      parkDue := if b.mayPark d k then some (a.parkDue.getD (b.site.tb + 1000 * a.cfg.parkDelay)) else none }

/-- The outputs follow their conditions; the beacon's time counts from its assertion (R182). -/
def Block.settleOutputs (b : Block) : Block :=
  let on_ := b.beaconCond
  { b with site :=
    { b.site with
      beacon := on_
      stow := b.stowCond
      fault := b.faultCond
      beaconSince := if on_ && !b.site.beacon then some b.site.tb else b.site.beaconSince } }

/-- The beacon has been asserted for the warn interval (R7). -/
def Block.beaconMet (b : Block) : Bool :=
  b.site.beacon && b.site.beaconSince.any fun t => decide (t + 1000 * b.site.cfg.warn ≤ b.site.tb)

/-- Each axis that waits on the beacon goes on when its interval is met (R7). -/
def Block.settleBeacon (b : Block) : Block :=
  if b.beaconMet then b.each allAxes fun p s => s.proceed p.1 p.2 else b

/-- The transmitter, when free, begins the oldest ready reply, else the report at the head (R175, R176). -/
def Block.kick (b : Block) : Block :=
  if b.link.tx.isSome then b
  else match b.link.out.find? fun e => e.reply.isSome with
  | some e => { b with link := { b.link with tx := some (.reply e.id) } }
  | none =>
    match b.link.reports with
    | [] => b
    | r :: rs => { b with link := { b.link with tx := some (.report r b.link.lost), reports := rs, lost := false } }

/-- What an event settles in the blocks (logs 8, 21). -/
def Block.settle (b : Block) : Block :=
  let t := b.each allDishes fun d s => s.settleBlocks d
  let t := t.each allAxes fun p s => s.askAxis p.1 p.2
  let t := t.examine.pursue
  let t := t.each allAxes fun p s => s.settlePark p.1 p.2
  let t := t.settleLocks
  t.settleOutputs.settleBeacon

/-- What every event ends with: nothing but the link while the store is being read (R185). -/
def Block.finish (b : Block) : Block := if b.site.startup = .starting then b.kick else b.settle.kick

/-- What a command answers. -/
abbrev Ran := Host.Outcome State Fault Refusal

/-- A command's effect on the blocks as an outcome, the queue as it stands. -/
def State.run (s : State) (f : Block → Block) : Ran :=
  .next { s with block := (f s.block).finish }

/-- An event of the blocks: nothing happens before the store is loaded (R185). -/
def State.event (s : State) (f : Block → Block) : Ran :=
  s.run fun b => if b.site.startup = .starting then b else f b

end Sys2Proof.Machine
end

