-- ==== Sys2Proof/Machine/Link.lean ====
section
/-! DEFINITION. Link.lean: receiving frames, the request queue, handing requests to their owners, and start-up (R167 to
R172, R185). -/

namespace Sys2Proof.Machine

/-! ### The outgoing list (R170) -/

/-- The requests pending. -/
def Block.pendingCount (b : Block) : Nat := (b.link.out.filter fun e => e.req.isSome).length

/-- The answers of the port that wait unsent. -/
def Block.answerCount (b : Block) : Nat := (b.link.out.filter fun e => e.req.isNone).length

/-- The link's counters changed. -/
def Block.count (b : Block) (f : LinkCounters → LinkCounters) : Block :=
  { b with link := { b.link with counters := f b.link.counters } }

/-- An entry joins the outgoing list. -/
def Block.joinOut (b : Block) (tag : Tag) (kind : Byte) (req : Option Instr) (reply : Option Reply) : Block :=
  let e : OutEntry :=
    { id := b.link.nextId, tag := tag, kind := kind, req := req, handed := reply.isSome, reply := reply
      after := .nothing }
  { b with link := { b.link with out := b.link.out ++ [e], nextId := b.link.nextId + 1 } }

/-- An answer of the port itself: at most four wait, a fifth frame is discarded (R170). -/
def Block.portAnswer (b : Block) (tag : Tag) (kind : Byte) (code : Code) : Block :=
  if b.answerCount < 4 then b.joinOut tag kind none (some ⟨code, []⟩)
  else b.count fun c => { c with overrun := bump16 c.overrun }

/-- A request answered in every start-up state (R172). -/
def alwaysAnswered : Instr → Bool
  | .identify .. | .getStatus .. => true
  | _ => false

/-- A request is taken into the queue, or answered BUSY or NOT_READY (R170, R172). -/
def Block.accept (b : Block) (i : Instr) : Block :=
  let tag := i.tag?.getD 0
  let kind := BitVec.ofNat 8 ((kindOf i).getD 0)
  if 4 ≤ b.pendingCount then b.portAnswer tag kind .busy
  else if b.site.startup = .ready ∨ alwaysAnswered i then b.joinOut tag kind (some i) none
  else b.joinOut tag kind (some i) (some ⟨.notReady, []⟩)

/-- A frame received to its end, from its length to its CRC, is checked (R169). -/
def Block.judgeFrame (b : Block) (bytes : List Byte) : Block :=
  let tag := BitVec.ofNat 16 (beNat (slice bytes 3 2))
  let kind := byteAt bytes 2
  let body := slice bytes 5 (bytes.length - 7)
  if !crcGood bytes then b.count fun c => { c with crc := bump16 c.crc }
  else if tag = 0 then b.count fun c => { c with tag := bump16 c.tag }
  else if !requestKinds.contains kind then b.portAnswer tag (BitVec.ofNat 8 kind) .unknownRequest
  else if !lengthOk kind body then b.portAnswer tag (BitVec.ofNat 8 kind) .badLength
  else match readRequest kind tag body with
  | some i => b.accept i
  | none => b

/-! ### The receiver (R168) -/

/-- The receiver in a state with the bytes taken. -/
def Block.setRx (b : Block) (st : RxState) (bytes : List Byte) : Block :=
  { b with link := { b.link with rx := st, rxBytes := bytes } }

/-- The frame being received is abandoned under a cause, in any state but HUNT (R168). -/
def Block.abandon (b : Block) (f : LinkCounters → LinkCounters) : Block :=
  if b.link.rx = .hunt then b else (b.count f).setRx .hunt []

/-- A gap abandons. -/
def countGap (c : LinkCounters) : LinkCounters := { c with gap := bump16 c.gap }

/-- A framing error abandons. -/
def countFraming (c : LinkCounters) : LinkCounters := { c with framing := bump16 c.framing }

/-- A body length above 1,024 abandons. -/
def countLength (c : LinkCounters) : LinkCounters := { c with length := bump16 c.length }

/-- One byte received (R168). -/
def Block.rxByte (b : Block) (x : Byte) : Block :=
  let bs := b.link.rxBytes ++ [x]
  let len := beNat (bs.take 2)
  match b.link.rx with
  | .hunt => if x = 0xA5#8 then b.setRx .header [] else b
  | .header =>
    if bs.length = 2 ∧ 1024 < len then b.abandon countLength
    else if bs.length = 5 then b.setRx (if len = 0 then .check else .body) bs
    else b.setRx .header bs
  | .body => b.setRx (if bs.length = 5 + len then .check else .body) bs
  | .check => if bs.length = 7 + len then (b.setRx .hunt []).judgeFrame bs else b.setRx .check bs

/-- Bytes received one after another. -/
def Block.rxBytesIn (b : Block) (bytes : List Byte) : Block := b.each bytes fun x s => s.rxByte x

/-! ### Handing requests to their owners (R170, R171) -/

/-- What an owner answers a request: the state, and the reply with what follows it, or none where it waits. -/
abbrev Answered := Block × Option (Reply × After)

/-- A refused request with an empty body (R171). -/
def refuse (b : Block) (code : Code) : Answered := (b, some (⟨code, []⟩, .nothing))

/-- A request answered. -/
def reply (b : Block) (code : Code) (body : List Fld) : Answered := (b, some (⟨code, body⟩, .nothing))

/-- A request taken with an empty body. -/
def done (b : Block) : Answered := reply b .ok []

/-- The first request not yet handed to its owner. -/
def Block.nextRequest (b : Block) : Option OutEntry := b.link.out.find? fun e => e.req.isSome && !e.handed

/-- A request is handed to its owner, who answers at once or later. -/
def Block.handTo (b : Block) (id : Nat) (owner : Nat → Block → Answered) : Block :=
  let out := b.link.out.map fun e => if e.id = id then { e with handed := true } else e
  let r := owner id { b with link := { b.link with out := out } }
  match r.2 with
  | some (a, after) => r.1.answer id a.code a.body after
  | none => r.1

/-- A request that arrives whole is judged as its frame would be past its CRC (R169). -/
def Block.arrives (b : Block) (i : Instr) : Block :=
  if i.tag?.getD 0 = 0 then b.count fun c => { c with tag := bump16 c.tag } else b.accept i

/-- A request command (log 3): the one at the head of those not handed is handed to its owner; with none waiting the
request arrives and is handed; with others waiting it arrives behind them. -/
def Block.serveRequest (b : Block) (i : Instr) (owner : Nat → Block → Answered) : Block :=
  match b.nextRequest with
  | some e => if e.req = some i then b.handTo e.id owner else b.arrives i
  | none =>
    let t := b.arrives i
    match t.nextRequest with
    | some e => t.handTo e.id owner
    | none => t

/-- A request command as an outcome. -/
def State.request (s : State) (i : Instr) (owner : Nat → Block → Answered) : Ran :=
  s.run fun b => b.serveRequest i owner

/-! ### Reset and the load (R67, R83, R150, R185) -/

/-- Every reset: the values after reset over the store as it stands; a write in progress is abandoned (R183, R185). -/
def Block.reset (b : Block) : Block := Block.afterReset b.site.store

/-- An axis under the configuration and release count loaded. -/
def Block.loadedAxis (b : Block) (m : Image) (counts : Vector (PerAxis Nat) 12) (d : DishId) (k : AxisKind) : Axis :=
  { b.axis d k with cfg := (m.axes[d]).get k, releases := (counts[d]).get k }

/-- A zone under the configuration loaded. -/
def Block.loadedZone (b : Block) (m : Image) (d : DishId) (z : ZoneKind) : Zone :=
  { b.zone d z with cfg := (m.zones[d]).get z }

/-- A weather entry of the enabled set loaded (R83). -/
def Block.loadedWx (b : Block) (m : Image) (n : WeatherId) : WxEntry :=
  { b.wx n with state := if m.enabled[n] then .warming else .disabled }

/-- A line under the settings loaded (R154). -/
def LineRec.loaded (x : LineRec) (c : LineCfg) : LineRec := { x with delay := c.delay, inverted := c.inverted }

/-- The image put in force. -/
def Block.putImage (b : Block) (m : Image) (counts : Vector (PerAxis Nat) 12) : Block :=
  let t := b.each allAxes fun p s => s.setAxis p.1 p.2 (s.loadedAxis m counts p.1 p.2)
  let t := t.each allZones fun p s => s.setZone p.1 p.2 (s.loadedZone m p.1 p.2)
  let t := t.each allWeather fun n s => s.setWx n (s.loadedWx m n)
  let t := (t.setLine .a (t.field.lineA.loaded m.lineA)).setLine .b (t.field.lineB.loaded m.lineB)
  let t := { t with field := { t.field with configured := m.cabinets } }
  let t := { t with link := { t.link with rate := m.site.rate } }
  let t := { t with account := { t.account with breq := m.breq, beff := m.breq } }
  { t with site := { t.site with cfg := m.site } }

/-- The LINK entries put in the table, PENDING and stored (R150); the next number follows the highest (R140). -/
def Block.putLocks (b : Block) (ls : List StoredLock) : Block :=
  let entry := fun (x : StoredLock) =>
    { num := x.num, kind := x.kind, dish := x.dish, holder := x.holder, key := false, engaged := false
      placed := x.placed, stored := true : LockEntry }
  let top := (ls.map (·.num)).foldl max 0
  { b with lockout :=
    { b.lockout with
      entries := (ls.map entry).foldl (fun es e => insertLock e es) []
      next := if top = 65535 then 1 else top + 1 } }

/-- What the load puts in force: the store's content, or the defaults and the store fault under a bad checksum. -/
def Block.loadContent (b : Block) : Block :=
  match b.site.store.good with
  | true => (b.putImage b.site.store.image b.site.store.counts).putLocks b.site.store.locks
  | false => ((b.putImage Image.default Store.erased.counts).putLocks []).storeFail none []

/-- DISCOVERING begins (R185). -/
def Block.beginDiscovery (b : Block) : Block :=
  let t := { b with field := { b.field with cycleDue := b.site.tb } }
  { t with site := { t.site with startup := .discovering, discovering := some b.site.tb } }

/-- A line already in BREAK sets its mark as DISCOVERING begins (R154, R180). -/
def Block.markBreak (b : Block) (l : Line) : Block :=
  match (b.line l).state with
  | .brk => b.setMark (.line l) true
  | _ => b

/-- B_eff equals B_req after reset (R66). -/
def Block.levelBudget (b : Block) : Block := { b with account := { b.account with beff := b.account.breq } }

/-- The verify flags judged at the load (R10). -/
def Block.judgeAllWear (b : Block) : Block := b.each allAxes fun p s => s.judgeWear p.1 p.2

/-- The store has been read: its content, or the defaults under a bad checksum; then DISCOVERING begins (R185). Where
both lines stand in BREAK by then, LINE A is marked first and is the latch's source (DESIGN CHOICE, log 21). -/
def Block.load (b : Block) : Block :=
  ((b.loadContent.judgeAllWear.recomputeFloor.levelBudget.beginDiscovery).markBreak .a).markBreak .b

end Sys2Proof.Machine
end

