-- ==== Sys2Proof/Machine/Status.lean ====
section
/-! DEFINITION. Status.lean: the result bodies of the requests that read records (R1, R23, R45, R80, R101, R102, R121,
R138, R149, R153, R173, R178). The manual names what each carries; where it gives no order or size the choice is in
log 28. -/

namespace Sys2Proof.Machine

/-- Bytes as one-byte fields. -/
def rawFields (bs : List Byte) : List Fld := bs.map fun x => f1 x.toNat

/-- An optional time on the internal time base (log 28). -/
def tbField (t : Option Nat) : List Fld := fopt t [6] fun n => [f6 n]

/-- A requester: DISH, GROUP, STOW or INTERNAL, with the group's number or 0 (R1). -/
def Requester.fields : Requester → List Fld
  | .hold | .track => [f1 0, f1 0]
  | .group g => [f1 1, f1 (groupNum g)]
  | .stow => [f1 2, f1 0]
  | .internal => [f1 3, f1 0]

/-- The configuration of an axis (Table 1-2). -/
def axisCfgFields (c : AxisCfg) : List Fld :=
  [s4 c.v, s4 c.a, f4 c.pmax, f4 c.phold, f4 c.ptrack, s4 c.lo, s4 c.hi, s4 c.stowRate, f4 c.pstow, f2 c.parkDelay,
    f4 c.wear, s4 c.tol, s4 c.lagTol]

/-- A claim: its class and watts. -/
def Claim.fields (c : Claim) : List Fld := [f1 c.cls.ctorIdx, f4 c.watts]

/-- An axis record (Table 1-1): the need with the claim that serves it, and each reported row present by itself;
the lag episode is a flag, set while open (DESIGN CHOICE, log 28). -/
def Block.axisFields (b : Block) (d : DishId) (k : AxisKind) : List Fld :=
  let a := b.axis d k
  [f1 a.state.ctorIdx, f1 a.stage.ctorIdx]
    ++ fopt a.need [1, 1, 1, 1, 4] (fun n => n.who.fields ++ fopt (b.needClaim d k) [1, 4] Claim.fields)
    ++ [f1 a.intent.ctorIdx] ++ rawFields a.order.bytes
    ++ fopt a.reported [4, 4] (fun r => [s4 r.pos, s4 r.rate])
    ++ fopt a.reported [1, 1, 1, 1] (fun r => [fb r.released, fb r.driveOn, f1 r.code.ctorIdx, f1 r.test.ctorIdx])
    ++ [f1 (b.axisLocks d k), fb (b.cold d), f4 a.releases, fb a.verify]
    ++ tbField a.parkDue ++ tbField a.opDue ++ tbField a.holdDue ++ [fb a.lag.isSome, fb a.lagOpen]
    ++ fopt a.fault [1] (fun r => [f1 r.ctorIdx])
    ++ fopt (b.claim d k) [1, 4] Claim.fields ++ axisCfgFields a.cfg

/-- A position pair. -/
def AzEl.fields (p : AzEl) : List Fld := [s4 p.az, s4 p.el]

/-- The rates of a grant and then its claims, per axis, each present by itself (Table 3-2, R178). -/
def grantFields (g : Option (PerAxis Share)) : List Fld :=
  fopt g [4] (fun s => [s4 s.az.rate]) ++ fopt g [4] (fun s => [s4 s.el.rate])
    ++ fopt g [4] (fun s => [f4 s.az.claim]) ++ fopt g [4] (fun s => [f4 s.el.claim])

/-- An internal move record (R64): dish, target, n0, n*, the distances, rates and claims, phase, start time. -/
def InternalMove.fields (d : DishId) (m : InternalMove) : List Fld :=
  f1 (dishNum d) :: m.plan.target.fields ++ [f2 m.n0] ++ fopt m.nStar [2] (fun n => [f2 n])
    ++ [s4 m.plan.dist.az, s4 m.plan.dist.el] ++ grantFields m.grant ++ [f1 m.phase.ctorIdx]
    ++ fopt m.start [6] fun t => [f6 t]

/-- A dwell timer. -/
def Dwell.fields : Dwell → List Fld
  | .stopped => [f1 0, f1 0, f6 0]
  | .running t => [f1 1, f1 1, f6 t]
  | .complete => [f1 2, f1 0, f6 0]

/-- The DISH section (R23, R102, R173); the clamp episode is a flag, set while open (DESIGN CHOICE, log 28). -/
def Block.dishFields (b : Block) (d : DishId) : List Fld :=
  let x := b.dish d
  let q := b.queue d
  let key := b.lockout.keys[d]
  [f1 x.mode.ctorIdx] ++ fopt x.group [1] (fun g => [f1 (groupNum g)])
    ++ fopt x.pendingReq [1] (fun r => [f1 r.ctorIdx]) ++ [fb x.parkReq.az, fb x.parkReq.el]
    ++ fopt x.context [1, 1, 1, 4, 4, 6] (fun c =>
      [f1 c.origin.ctorIdx, f1 c.work.ctorIdx] ++ fopt c.pos [4, 4] AzEl.fields ++ [f6 c.time])
    ++ fopt x.blocks [1, 1, 1, 1] Blocks.fields ++ [fb x.clampOpen, f2 x.trims]
    ++ fopt x.intent [1, 4, 4] (fun i => f1 i.work.ctorIdx :: i.target.fields) ++ [fb x.deferred] ++ x.dwell.fields
    ++ [f1 q.length] ++ fopt q.head? [6] (fun p => [f6 p.time]) ++ fopt q.getLast? [6] (fun p => [f6 p.time])
    ++ fopt (b.move d) [1, 4, 4, 2, 1, 2, 4, 4, 1, 4, 1, 4, 1, 4, 1, 4, 1, 1, 6] (InternalMove.fields d)
    ++ [f1 (b.axisLocks d .az), f1 (b.axisLocks d .el), f1 (b.zoneLocks d .surf), f1 (b.zoneLocks d .drive)]
    ++ fopt key.pos [1] (fun p => [fb p]) ++ [f1 key.lockRun, f1 key.remoteRun]

/-- A zone record (Table 7-1). The fields of one kind of zone (the pre-warm request of DRIVE, the full-duty seconds and
the melt run time of SURF) are left out for the other kind, with no presence byte; the full-duty seconds take 1 byte
(DESIGN CHOICE, log 28). -/
def Block.zoneFields (b : Block) (d : DishId) (z : ZoneKind) : List Fld :=
  let x := b.zone d z
  [f2 (zoneNum d z), f1 x.mode.ctorIdx, f1 x.purpose.ctorIdx] ++ fopt x.rank [1] (fun r => [f1 r])
    ++ [f1 x.demand, f1 x.duty, f4 x.watts] ++ fopt x.temp [2] (fun t => [s2 t]) ++ [fb x.commanded]
    ++ fopt x.reported [1] (fun c => [fb c]) ++ tbField x.mismatch ++ [fb x.fault, f1 (b.zoneLocks d z)]
    ++ (match z with
      | .surf => [f1 x.fullSecs, f2 x.meltMin]
      | .drive => tbField x.prewarm)
    ++ [f4 x.cfg.rated, s2 x.cfg.setpoint, s2 x.cfg.step, fb x.cfg.autoMelt]

/-- The bytes of the last order of a node, or as many zero bytes: 71 for a cabinet, none for a poll (Tables 9-1 and
10-6). -/
def lastOrderFields (r : NodeRef) (o : Option OrderSent) : List Fld :=
  fopt o (match r with
    | .cab _ => List.replicate 71 1
    | .wx _ => []) fun x => rawFields x.body

/-- A node entry (Table 9-1). -/
def Block.nodeFields (b : Block) (r : NodeRef) : List Fld :=
  let x := b.node r
  [f1 (nodeNum r), f1 x.reach.ctorIdx, f1 x.missA, f1 x.missB, f1 x.seq] ++ lastOrderFields r x.lastOrder
    ++ fopt x.lastStatus [1] (fun n => [f1 n]) ++ [f2 x.taken, f2 x.dups, f2 x.bads]

/-- A line record (R154). -/
def LineRec.fields (x : LineRec) : List Fld :=
  [f1 x.state.ctorIdx, f1 x.echoRun] ++ tbField x.probeDue ++ tbField x.breakStart
    ++ [f2 x.echoTotal, f2 x.delay, fb x.inverted]

/-- The counts of LINK and KEY entries (R138, R149). -/
def Block.lockCountFields (b : Block) : List Fld :=
  [f1 (b.lockout.entries.filter fun e => !e.key).length, f1 (b.lockout.entries.filter fun e => e.key).length]

/-- The SITE section (Table 10-2). The beacon state is the BEACON output's flag, sent once among the outputs, and the time
of R182 after them (DESIGN CHOICE, log 28). -/
def Block.siteFields (b : Block) : List Fld :=
  let s := b.site
  [f1 s.startup.ctorIdx] ++ fopt s.clock [6] (fun c => [f6 c]) ++ [fb s.estop] ++ s.marks.fields
    ++ [fb s.beacon, fb s.stow, fb s.fault] ++ tbField s.beaconSince
    ++ [fb s.storeFault, f1 b.weather.level.ctorIdx, fb b.weather.force, fb b.heater.episode, fb b.heater.snowForce,
      f4 b.link.mask.toNat] ++ b.lockCountFields

/-- The LINK section (Table 10-2). -/
def Block.linkFields (b : Block) : List Fld :=
  let c := b.link.counters
  [f4 b.link.rate.bps, f2 c.gap, f2 c.framing, f2 c.length, f2 c.crc, f2 c.tag, f2 c.overrun, f1 b.pendingCount,
    f1 b.link.reports.length, fb b.link.lost]

/-- A section of GET_STATUS, numbered as Table 10-2 lists them; none where the section or the dish is none (R173). A
per-dish section without a dish is none too, and the others look at no dish; the two axes, the two zones, the 20 nodes and
the two lines are sent without a count byte (DESIGN CHOICE, log 28). -/
def Block.statusSection (b : Block) (sect : Nat) (dish : Option Nat) : Option (List Fld) :=
  match sect, dish.bind dishOf with
  | 0, _ => some b.siteFields
  | 1, some d => some (b.axisFields d .az ++ b.axisFields d .el)
  | 2, some d => some (b.dishFields d)
  | 3, some d => some (b.zoneFields d .surf ++ b.zoneFields d .drive ++ [fb (b.cold d)])
  | 4, _ => some (allNodes.flatMap b.nodeFields ++ b.field.lineA.fields ++ b.field.lineB.fields)
  | 5, _ => some b.linkFields
  | _, _ => none

/-- A requester in the wait queue: its kind, and its number in 2 bytes whatever the kind (R80; DESIGN CHOICE, log 28). -/
def Waiter.fields : Waiter → List Fld
  | .group g => [f1 0, f2 (groupNum g)]
  | .hold d => [f1 1, f2 (dishNum d)]
  | .track d => [f1 2, f2 (dishNum d)]
  | .internal d => [f1 3, f2 (dishNum d)]
  | .axis d k => [f1 4, f2 (axisNum d k)]

/-- The reply of GET_BUDGET (R80). The 24 claims and the 24 duties with their allotments, fixed in number, are sent without
a count byte (DESIGN CHOICE, log 28); the wait queue and the stow-pending list are lists (R178). -/
def Block.budgetReply (b : Block) : List Fld :=
  [f4 b.account.breq, f4 b.account.beff, f4 b.account.floor, f1 b.site.cfg.policy.ctorIdx, f4 b.site.cfg.hmin,
      f4 b.claimTotal, f4 b.stowTotal, f4 b.heatTotal, fb b.lagging]
    ++ (allAxes.flatMap fun p => fopt (b.claim p.1 p.2) [1, 4] Claim.fields)
    ++ (allZones.flatMap fun p => [f1 (b.zone p.1 p.2).duty, f4 (b.zone p.1 p.2).watts])
    ++ flist b.account.waitq (fun e =>
      e.who.fields ++ [f4 (total e.wants), f2 (min 65535 ((b.site.tb - e.time) / 1000))])
    ++ flist b.account.stowq fun d => [f1 (dishNum d), f4 (b.axis d .el).cfg.pstow]

/-- A member record (Table 3-2), each optional value present by itself. -/
def Member.fields (m : Member) : List Fld :=
  [f1 (dishNum m.dish), f1 m.state.ctorIdx]
    ++ fopt m.plan [4] (fun p => [s4 p.target.az]) ++ fopt m.plan [4] (fun p => [s4 p.target.el])
    ++ fopt m.plan [4] (fun p => [s4 p.dist.az]) ++ fopt m.plan [4] (fun p => [s4 p.dist.el])
    ++ grantFields m.grant
    ++ fopt m.drop [1] (fun r => [f1 r.ctorIdx]) ++ [fb m.late]

/-- A group record with its members (R45, Table 3-1). The finish order, to which the manual gives no value and no size, is
shown as the count of the groups finished before since reset, in 2 bytes (DESIGN CHOICE, log 44). -/
def Group.fields (g : GroupId) (x : Group) : List Fld :=
  [f1 (groupNum g), f1 x.state.ctorIdx, s4 x.az, s4 x.el, f1 x.pref.ctorIdx, fb x.thenTrack, fb x.waitWarm, f2 x.limit]
    ++ flist x.members Member.fields ++ fopt x.n0 [2] (fun n => [f2 n]) ++ fopt x.nStar [2] (fun n => [f2 n])
    ++ fopt x.start [6] (fun t => [f6 t]) ++ fopt x.total [4] (fun w => [f4 w])
    ++ fopt x.reason [1] (fun r => [f1 r.ctorIdx]) ++ fopt x.finishOrder [2] fun n => [f2 n]

/-- A weather entry, its expiry as seconds remaining (R101). -/
def Block.wxFields (b : Block) (n : WeatherId) : List Fld :=
  let e := b.wx n
  [f1 e.state.ctorIdx, f1 e.warm, f2 e.faults]
    ++ fopt e.reading [2, 2, 2, 1, 1] Reading.fields ++ fopt e.reading [2] fun r => [f2 (r.expiry - b.weather.sec)]

/-- The state of the release hold, numbered as Table 5-4 lists it: stopped, running, complete. -/
def RelHold.stateField (h : RelHold) : Fld := f1 h.ctorIdx

/-- The elapsed seconds of the release hold, while it runs. -/
def RelHold.elapsed : RelHold → Option Nat
  | .running n => some n
  | .stopped | .complete => none

/-- The elapsed seconds of a timer of the level record, present only while it runs (R101, R178). -/
def elapsedField (t : Option Nat) : List Fld := fopt t [2] fun n => [f2 n]

/-- The release hold: its state and its elapsed seconds (R101, Table 5-4). -/
def RelHold.fields (h : RelHold) : List Fld := h.stateField :: elapsedField h.elapsed

/-- A timer that is stopped or runs: its state, 0 or 1 as Table 5-4 lists them, and its elapsed seconds (R101). -/
def timerFields (t : Option Nat) : List Fld := f1 (if t.isSome then 1 else 0) :: elapsedField t

/-- The weather settings (Table 5-5). -/
def wxSettingFields (c : SiteCfg) : List Fld :=
  [f2 c.stowMean, f2 c.stowGust, f2 c.watchMean, f2 c.watchGust, f2 c.relMean, f2 c.relGust, f2 c.watchRelMean,
    f2 c.watchRelGust, f1 c.quorum, f1 c.warmTarget, f2 c.lifetime, f2 c.grace, f2 c.relHold, s4 c.watchMinEl]

/-- The reply of GET_WEATHER (R101): each timer of the level record by its state and its elapsed seconds; the eight
entries, fixed in number, are sent without a count byte (DESIGN CHOICE, log 28). -/
def Block.weatherReply (b : Block) : List Fld :=
  let w := b.weather
  allWeather.flatMap b.wxFields ++ b.figureFields ++ [f1 w.level.ctorIdx, fb w.force]
    ++ timerFields w.unknown ++ w.hold.fields ++ timerFields w.watchHold
    ++ [f1 w.cause.ctorIdx, f4 w.changedSec] ++ fopt w.changedTime [6] (fun t => [f6 t]) ++ wxSettingFields b.site.cfg

/-- The reply of STOW_NOW and STOW_RELEASE: the level, the host force and the release hold's state (R97). -/
def Block.levelReply (b : Block) : List Fld :=
  [f1 b.weather.level.ctorIdx, fb b.weather.force, b.weather.hold.stateField]

/-- The entries a LIST_LOCKS returns (R149). -/
def Block.lockPage (b : Block) (cursor : Nat) : List LockEntry :=
  (b.lockout.entries.filter fun e => decide (cursor ≤ e.num)).take 8

/-- The next cursor after a page (R149). -/
def Block.nextCursor (b : Block) (page : List LockEntry) : Nat :=
  match page.getLast? with
  | none => 0
  | some e => if b.lockout.entries.any fun x => decide (e.num < x.num) then e.num + 1 else 0

/-- The reply of LIST_LOCKS (R149); a site second takes the 6 bytes of a site time (log 28). -/
def Block.lockReply (b : Block) (cursor : Nat) : List Fld :=
  let page := b.lockPage cursor
  flist page (fun e => e.fields ++ [f6 e.placed] ++ e.storedField) ++ [f2 (b.nextCursor page)] ++ b.lockCountFields

/-- The reply of IDENTIFY (R173). -/
def Block.identity (b : Block) : List Fld :=
  let text := fun (t : Fin 16 → Byte) => (List.finRange 16).map fun i => f1 (t i).toNat
  text Config.vendorText ++ text Config.partText
    ++ [f2 Config.designRevision.toNat, f4 Config.unitNumber.toNat, f1 b.site.startup.ctorIdx, f4 b.link.rate.bps]

end Sys2Proof.Machine
end

