-- ==== Sys2Proof/Machine/CmdConfig.lean ====
section
/-! DEFINITION. CmdConfig.lean: the requests that set the part up: CONFIG_AXIS, CONFIG_ZONE, CONFIG_SITE, CONFIG_LINES,
SAVE_CONFIG, SET_TIME, SET_BUDGET and GET_BUDGET (R2, R68, R79, R80, R100, R120, R122, R126, R154, R167, R179, R182,
R184). -/

namespace Sys2Proof.Machine

/-- The axis states that take CONFIG_AXIS (R2). -/
def Axis.takesConfig (a : Axis) : Bool :=
  match a.state with
  | .offline | .locked | .faulted => true
  | .braked => a.stage == .none
  | _ => false

/-- What a new axis configuration does: the verify flag and the stow floor follow it (R2, R10, R67). -/
def Block.configureAxis (b : Block) (d : DishId) (k : AxisKind) (c : AxisCfg) : Block :=
  ((b.modAxis d k fun a => { a with cfg := c }).judgeWear d k).recomputeFloor

/-- The owner's answer to CONFIG_AXIS (R2; the order of its checks is in log 33). -/
def ownConfigAxis (subj : Nat) (p : AxisParams) (b : Block) : Answered :=
  match axisOf subj with
  | none => refuse b .badValue
  | some (d, k) =>
    if !(b.axis d k).takesConfig then refuse b .state
    else if !axisParamsOk p k then refuse b .badValue
    else done (b.configureAxis d k (axisParamsCfg p))

/-- CONFIG_AXIS (R2). -/
def execConfigAxis (tag : Tag) (subj : Nat) (p : AxisParams) (s : State) : Ran :=
  s.request (.configAxis tag subj p) fun _ b => ownConfigAxis subj p b

/-- The owner's answer to CONFIG_ZONE (R122; the order of its checks is in log 33). -/
def ownConfigZone (subj : Nat) (p : ZoneParams) (b : Block) : Answered :=
  match zoneOf subj with
  | none => refuse b .badValue
  | some (d, z) =>
    if !zoneParamsOk p z then refuse b .badValue
    else if !b.configured d then refuse b .noSuch
    else if 0 < (b.zone d z).duty then refuse b .state
    else done (b.modZone d z fun x => { x with cfg := zoneParamsCfg p })

/-- CONFIG_ZONE (R122). -/
def execConfigZone (tag : Tag) (subj : Nat) (p : ZoneParams) (s : State) : Ran :=
  s.request (.configZone tag subj p) fun _ b => ownConfigZone subj p b

/-- The settings put in force. -/
def Block.setSite (b : Block) (c : SiteCfg) : Block := { b with site := { b.site with cfg := c } }

/-- What new site settings do to the standing state (R79, R100, R113): the quorum's figures first, then entry by entry
the warm target's, then the level (DESIGN CHOICE, log 21); counts above a lowered warm target stand (log 39). -/
def Block.configureSite (b : Block) (c : SiteCfg) : Block :=
  let old := b.site.cfg
  let t := b.setSite c
  let t := if c.policy ≠ old.policy ∨ c.hmin ≠ old.hmin then t.callExamine else t
  let t := if old.autoShed && !c.autoShed then t.clearDeferrals else t
  let t := if c.quorum ≠ old.quorum then t.figuresChanged else t
  let t := if c.warmTarget < old.warmTarget then t.each allWeather fun n s => s.wxWarmed n else t
  if wxSettingFields c = wxSettingFields old then t else t.evaluate

/-- What follows the reply of CONFIG_SITE: a changed rate is taken up after its last byte (R167). -/
def rateAfter (old new : LinkRate) : After := if new = old then .nothing else .setRate new

/-- The owners' answer to CONFIG_SITE (R79, R100, R120, R126, R167, R182). -/
def ownConfigSite (p : SiteParams) (b : Block) : Answered :=
  if !siteParamsOk p then refuse b .badValue
  else (b.configureSite (siteParamsCfg p), some (⟨.ok, []⟩, rateAfter b.site.cfg.rate (siteParamsCfg p).rate))

/-- CONFIG_SITE (R79, R100, R120, R126, R167, R182). -/
def execConfigSite (tag : Tag) (p : SiteParams) (s : State) : Ran :=
  s.request (.configSite tag p) fun _ b => ownConfigSite p b

/-- One line's settings: the delay at once, a new polarity from the next cycle (R154). -/
def LineRec.configure (x : LineRec) (delay pol : Nat) : LineRec :=
  let inv := pol == 1
  { x with delay := delay, newPol := if inv = x.inverted then none else some inv }

/-- The settings of both lines. -/
def Block.configureLines (b : Block) (p : LinesParams) : Block :=
  (b.setLine .a (b.field.lineA.configure p.delayA p.polA)).setLine .b (b.field.lineB.configure p.delayB p.polB)

/-- The owner's answer to CONFIG_LINES (R154, R166). -/
def ownConfigLines (p : LinesParams) (b : Block) : Answered :=
  if !linesParamsOk p then refuse b .badValue
  else done ((b.configureLines p).setCabinets (linesParamsNames p))

/-- CONFIG_LINES (R154). -/
def execConfigLines (tag : Tag) (p : LinesParams) (s : State) : Ran :=
  s.request (.configLines tag p) fun _ b => ownConfigLines p b

/-- The owner's answer to SAVE_CONFIG: a FULL write is asked for, and the reply waits for it (R184). -/
def ownSaveConfig (id : Nat) (b : Block) : Answered := (b.askFull id, none)

/-- SAVE_CONFIG (R184). -/
def execSaveConfig (tag : Tag) (s : State) : Ran := s.request (.saveConfig tag) ownSaveConfig

/-- The clock set; the next tick and the next cycle follow its running (R84, R155, R179). A successor that waits for an
overrunning cycle goes on waiting and begins when the visits end (DESIGN CHOICE, log 22). -/
def Block.setClock (b : Block) (ms : Nat) : Block :=
  let t := { b with site := { b.site with clock := some ms } }
  { t with
    weather := { t.weather with tickDue := t.site.tb + t.untilMultiple 1000 }
    field := { t.field with cycleDue := t.site.tb + t.untilMultiple 100 } }

/-- The owner's answer to SET_TIME, with the previous value (R179). -/
def ownSetTime (ms : Nat) (b : Block) : Answered :=
  if clockMod ≤ ms then refuse b .badValue
  else reply (b.setClock ms) .ok (fopt b.site.clock [6] fun c => [f6 c])

/-- SET_TIME (R179). -/
def execSetTime (tag : Tag) (ms : Nat) (s : State) : Ran := s.request (.setTime tag ms) fun _ b => ownSetTime ms b

/-- B_req raised to or above B_eff (R68). -/
def Block.raiseBudget (b : Block) (w : Nat) : Block :=
  (({ b with account := { b.account with breq := w, beff := w } }).tellBudget).callExamine

/-- A B_req below B_eff: heat is cut first, then B_eff lags behind the claims (R68); a lower H, and a B_req that is
raised all the same, as it may be in a lag, call for an examination (R76). -/
def Block.lowerBudget (b : Block) (w : Nat) : Block :=
  let t := { b with account := { b.account with breq := w } }
  let t := t.curtail (t.claimTotal + t.heatTotal - w)
  let t := ({ t with account := { t.account with beff := max w t.claimTotal } }).tellBudget
  if t.heatTotal < b.heatTotal ∨ b.account.breq < w then t.callExamine else t

/-- A new requested budget in force (R68). -/
def Block.setBudget (b : Block) (w : Nat) : Block :=
  if b.account.beff ≤ w then b.raiseBudget w else b.lowerBudget w

/-- The budget's figures as SET_BUDGET answers them (R68). -/
def Block.budgetFigures (b : Block) : List Fld := [f4 b.account.breq, f4 b.account.beff, f4 b.account.floor]

/-- The owner's answer to SET_BUDGET, with the figures as they stand when the event has settled, the examination it calls
for included (R68, R76). -/
def ownSetBudget (watts : Nat) (b : Block) : Answered :=
  if 200000 < watts then refuse b .badValue
  else
    let t := b.setBudget (max watts b.account.floor)
    reply t (if watts < b.account.floor then .clamped else .ok) t.settle.budgetFigures

/-- SET_BUDGET (R68). -/
def execSetBudget (tag : Tag) (watts : Nat) (s : State) : Ran :=
  s.request (.setBudget tag watts) fun _ b => ownSetBudget watts b

/-- GET_BUDGET (R80). -/
def execGetBudget (tag : Tag) (s : State) : Ran := s.request (.getBudget tag) fun _ b => reply b .ok b.budgetReply

end Sys2Proof.Machine
end

