-- ==== Sys2Proof/Machine/CmdDish.lean ====
section
/-! DEFINITION. CmdDish.lean: the requests of chapter 2: ADD_POINTS, FLUSH_POINTS, TRACK_START, TRACK_STOP, HOLD_DISH and
PARK_DISH (R25, R28, R30, R31, R35, R40). -/

namespace Sys2Proof.Machine

/-- Every offered position lies in its range (R35). -/
def pointsInRange (pts : List PointParams) : Bool :=
  pts.all fun p => within 0 359999 p.az && within 0 90000 p.el

/-- The owner's answer to ADD_POINTS, with the number admitted (R35; the order of the first checks is in log 33). -/
def ownAddPoints (dish : Nat) (pts : List PointParams) (b : Block) : Answered :=
  match b.useDish dish with
  | .error c => refuse b c
  | .ok d =>
    match b.site.clock with
    | none => refuse b .noTime
    | some now =>
      if !pointsInRange pts then refuse b .badValue
      else
        let r := b.takePoints d now 0 false pts
        reply r.1 r.2.2 [f1 r.2.1]

/-- ADD_POINTS (R35). -/
def execAddPoints (tag : Tag) (dish : Nat) (pts : List PointParams) (s : State) : Ran :=
  s.request (.addPoints tag dish pts) fun _ b => ownAddPoints dish pts b

/-- What a flush does to a dish that follows or waits to follow its queue (R27, R29, R40). -/
def Block.flushDish (b : Block) (d : DishId) : Block :=
  let t := b.flush d
  match (t.dish d).mode with
  | .tracking => t.endTracking d .flush
  | .trackWait => t.losePending d .flush
  | _ => t

/-- The owner's answer to FLUSH_POINTS, taken for any dish 1 to 12, with the number removed (R23, R40). -/
def ownFlushPoints (dish : Nat) (b : Block) : Answered :=
  match dishOf dish with
  | none => refuse b .badValue
  | some d => reply (b.flushDish d) .ok [f1 (b.queue d).length]

/-- FLUSH_POINTS (R40). -/
def execFlushPoints (tag : Tag) (dish : Nat) (s : State) : Ran :=
  s.request (.flushPoints tag dish) fun _ b => ownFlushPoints dish b

/-- The park requests of a dish are cleared (R31). -/
def Block.clearPark (b : Block) (d : DishId) : Block := b.modDish d fun x => { x with parkReq := .both false }

/-- The code of a request for power. -/
def Asked.code : Asked → Code
  | .granted => .ok
  | .queued => .queued
  | .busy => .busy

/-- Checks 4 to 6 of Table 2-3, which HOLD_DISH shares (R25, R30). -/
def Block.driveRefused (b : Block) (d : DishId) : Option Code :=
  if b.site.estop then some .estop
  else if b.weather.level = .stow then some .wind
  else if b.dishLocked d then some .locked
  else none

/-- Checks 2 to 7 of Table 2-3 (R25). -/
def Block.trackRefused (b : Block) (d : DishId) : Option Code :=
  if (b.dish d).mode ≠ .idle then some .state
  else if b.site.clock = none then some .noTime
  else match b.driveRefused d with
  | some c => some c
  | none => if b.outOfService d || (b.queue d).isEmpty then some .state else none

/-- The owner's answer to TRACK_START (R25, R26). -/
def ownTrackStart (dish : Nat) (b : Block) : Answered :=
  match b.useDish dish with
  | .error c => refuse b c
  | .ok d =>
    match b.trackRefused d with
    | some c => refuse b c
    | none =>
      let r := (b.withdrawPending d).askTrack d .request
      match r.2 with
      | .busy => refuse r.1 .busy
      | a => reply (r.1.clearPark d) a.code []

/-- TRACK_START (R25). -/
def execTrackStart (tag : Tag) (dish : Nat) (s : State) : Ran :=
  s.request (.trackStart tag dish) fun _ b => ownTrackStart dish b

/-- The owner's answer to TRACK_STOP (R28). -/
def ownTrackStop (dish : Nat) (b : Block) : Answered :=
  match b.useDish dish with
  | .error c => refuse b c
  | .ok d =>
    match (b.dish d).mode with
    | .trackWait => done (b.losePending d .request)
    | .tracking => done (b.endTracking d .request)
    | _ => refuse b .state

/-- TRACK_STOP (R28). -/
def execTrackStop (tag : Tag) (dish : Nat) (s : State) : Ran :=
  s.request (.trackStop tag dish) fun _ b => ownTrackStop dish b

/-- Checks 2 to 7 of Table 2-3 as HOLD_DISH takes them (R30). -/
def Block.holdRefused (b : Block) (d : DishId) : Option Code :=
  if (b.dish d).mode ≠ .idle then some .state
  else match b.driveRefused d with
  | some c => some c
  | none => if b.outOfService d then some .state else none

/-- Both axes are HELD. -/
def Block.bothHeld (b : Block) (d : DishId) : Bool :=
  (b.axis d .az).state == .held && (b.axis d .el).state == .held

/-- A held dish's park timers start again under a satisfied hold of the dish (R30). -/
def Block.restartPark (b : Block) (d : DishId) : Block :=
  b.bothAxes fun k s => s.modAxis d k fun a => { a with need := some ⟨.hold, none⟩, parkDue := none }

/-- The power to hold a dish is asked for (R30): granted and delivered, pending, or BUSY with nothing changed. -/
def Block.askHold (b : Block) (d : DishId) : Block × Asked :=
  let ws := b.holdWants d
  let r := b.askPower (.hold d) ws
  match r.2 with
  | .granted => (r.1.takeHold d ws, .granted)
  | .queued => (r.1.modDish d fun x => { x with pendingReq := some .hold }, .queued)
  | .busy => (b, .busy)

/-- The owner's answer to HOLD_DISH (R30). -/
def ownHoldDish (dish : Nat) (b : Block) : Answered :=
  match b.useDish dish with
  | .error c => refuse b c
  | .ok d =>
    match b.holdRefused d with
    | some c => refuse b c
    | none =>
      if b.bothHeld d then done ((b.restartPark d).clearPark d)
      else if (b.dish d).pendingReq = some .hold then reply (b.clearPark d) .queued []
      else
        let r := b.askHold d
        match r.2 with
        | .busy => refuse b .busy
        | a => reply (r.1.clearPark d) a.code []

/-- HOLD_DISH (R30). -/
def execHoldDish (tag : Tag) (dish : Nat) (s : State) : Ran :=
  s.request (.holdDish tag dish) fun _ b => ownHoldDish dish b

/-- A mode that takes PARK_DISH (R31), and in which a member can be started with its group (Table 3-4). -/
def Mode.working : Mode → Bool
  | .idle | .trackWait | .tracking => true
  | _ => false

/-- A dish is parked: its request withdrawn, its tracking ended, its axes brought to their brakes (R31). -/
def Block.parkDish (b : Block) (d : DishId) : Block := ((b.withdrawPending d).setMode d .idle .request).brakeBoth d

/-- The owner's answer to PARK_DISH (R31). -/
def ownParkDish (dish : Nat) (b : Block) : Answered :=
  match b.useDish dish with
  | .error c => refuse b c
  | .ok d => if (b.dish d).mode.working then done (b.parkDish d) else refuse b .state

/-- PARK_DISH (R31). -/
def execParkDish (tag : Tag) (dish : Nat) (s : State) : Ran :=
  s.request (.parkDish tag dish) fun _ b => ownParkDish dish b

end Sys2Proof.Machine
end

