-- ==== Sys2Proof/Machine/CmdGroup.lean ====
section
/-! DEFINITION. CmdGroup.lean: the requests of chapter 3: FORM_GROUP, START_GROUP, ABORT_GROUP and GET_GROUP (R44 to R47,
R62). -/

namespace Sys2Proof.Machine

/-- Check 1 of FORM_GROUP (Table 3-3). -/
def formOk (dishes : List Nat) (az el : Int) (pref limit : Nat) : Bool :=
  decide (1 ≤ dishes.length) && decide (dishes.length ≤ 12) && dishes.all (withinN 1 12) && decide dishes.Nodup
  && within 0 359999 az && within 0 90000 el && (wrapOf pref).isSome && (limit == 0 || withinN 20 6000 limit)

/-- The member dishes of a list, in dish order (R44). -/
def memberDishes (dishes : List Nat) : List DishId := allDishes.filter fun d => dishes.contains (dishNum d)

/-- A group that is finished. -/
def Group.finished (x : Group) : Bool := !x.state.live

/-- The earlier finished of two slots. -/
def Block.earlier (b : Block) (x y : GroupId) : GroupId :=
  match (b.group x).bind (·.finishOrder), (b.group y).bind (·.finishOrder) with
  | some m, some n => if n < m then y else x
  | _, _ => x

/-- The slot FORM_GROUP takes: the lowest EMPTY one, else the finished group with the earliest finish order (R44). -/
def Block.formSlot (b : Block) : Option GroupId :=
  match allGroups.find? fun g => (b.group g).isNone with
  | some g => some g
  | none =>
    match allGroups.filter fun g => (b.group g).any Group.finished with
    | [] => none
    | g :: gs => some (gs.foldl b.earlier g)

/-- A member record as FORM_GROUP creates it (R42). -/
def Member.planned (d : DishId) : Member :=
  { dish := d, state := .planned, plan := none, grant := none, arrived := .both false, drop := none, late := false }

/-- The group record as FORM_GROUP creates it (R44). -/
def newGroup (ds : List DishId) (az el : Int) (pref : WrapPref) (thenTrack waitWarm : Bool) (limit : Nat) : Group :=
  { state := .formed, az := az, el := el, pref := pref, thenTrack := thenTrack, waitWarm := waitWarm
    limit := if limit = 0 then 6000 else limit, members := ds.map Member.planned, n0 := none, nStar := none
    start := none, total := none, reason := none, finishOrder := none }

/-- A group put in its slot, its number in each member dish's group field (R32, R44). -/
def Block.formIn (b : Block) (g : GroupId) (x : Group) : Block :=
  (b.setGroup g (some x)).each x.members fun m s => s.modDish m.dish fun y => { y with group := some g }

/-- The owner's answer to FORM_GROUP, with the group's number (R44). -/
def ownFormGroup (dishes : List Nat) (az el : Int) (pref thenTrack waitWarm limit : Nat) (b : Block) : Answered :=
  let ds := memberDishes dishes
  if !formOk dishes az el pref limit then refuse b .badValue
  else if ds.any fun d => !b.configured d then refuse b .noSuch
  else if ds.any fun d => (b.dish d).group.isSome then refuse b .duplicate
  else match b.formSlot with
  | none => refuse b .tableFull
  | some g =>
    let x := newGroup ds az el ((wrapOf pref).getD .nearest) (thenTrack == 1) (waitWarm == 1) limit
    reply (b.formIn g x) .ok [f1 (groupNum g)]

/-- FORM_GROUP (R44). -/
def execFormGroup (tag : Tag) (dishes : List Nat) (az el : Int) (pref thenTrack waitWarm limit : Nat) (s : State) :
    Ran :=
  s.request (.formGroup tag dishes az el pref thenTrack waitWarm limit) fun _ b =>
    ownFormGroup dishes az el pref thenTrack waitWarm limit b

/-- A group slot a request names: BAD_VALUE outside 1 to 8, NO_SUCH where it is EMPTY (R45, R46, R62). -/
def Block.useGroup (b : Block) (n : Nat) : Except Code (GroupId × Group) :=
  match groupOf n with
  | none => .error .badValue
  | some g =>
    match b.group g with
    | none => .error .noSuch
    | some x => .ok (g, x)

/-- Check 7 of START_GROUP (Table 3-4). -/
def Block.windForbids (b : Block) (x : Group) : Bool :=
  b.weather.level == .stow || (b.weather.level == .watch && decide (x.el < b.site.cfg.watchMinEl))

/-- Checks 2 to 9 of START_GROUP (Table 3-4). -/
def Block.startRefused (b : Block) (x : Group) : Option Code :=
  if x.state ≠ .formed then some .state
  else if x.members.any fun m => !b.configured m.dish then some .noSuch
  else if x.members.any fun m => !(b.dish m.dish).mode.working then some .state
  else if b.site.clock = none then some .noTime
  else if b.site.estop then some .estop
  else if b.windForbids x then some .wind
  else if x.members.any fun m => b.dishLocked m.dish then some .locked
  else if x.members.any fun m => b.outOfService m.dish || !b.positioned m.dish then some .state
  else none

/-- The first member whose limits the target does not fit (check 10). -/
def Block.misfit (b : Block) (x : Group) : Option DishId :=
  (x.members.map (·.dish)).find? fun d => (b.memberTarget d x.az x.el x.pref).isNone

/-- A recorded need becomes a need of the group, the claim kept (R47). -/
def Block.needGroup (b : Block) (g : GroupId) (d : DishId) (k : AxisKind) : Block :=
  b.modAxis d k fun a => { a with need := a.need.map fun _ => ⟨.group g, none⟩ }

/-- One axis handed to the Slew Planner (R47). -/
def Block.handAxis (b : Block) (g : GroupId) (d : DishId) (k : AxisKind) : Block := (b.needGroup g d k).orderHold d k

/-- One member dish handed to the Slew Planner (R33, R47). -/
def Block.handDish (b : Block) (g : GroupId) (d : DishId) : Block :=
  ((b.setMode d .slewWait .group).withdrawPending d).bothAxes fun k s => s.handAxis g d k

/-- Every member dish handed over. -/
def Block.handMembers (b : Block) (g : GroupId) (x : Group) : Block := b.each x.members fun m s => s.handDish g m.dish

/-- The reply of a START_GROUP taken: state, n0, and n* when granted (R47). -/
def Block.startReply (b : Block) (g : GroupId) (code : Code) : Answered :=
  match b.group g with
  | some x => reply b code ([f1 x.state.ctorIdx, f2 (x.n0.getD 0)] ++ fopt x.nStar [2] fun n => [f2 n])
  | none => reply b code []

/-- The group goes to WARMING under the plan of the checks (R47, R48). -/
def Block.startWarming (b : Block) (g : GroupId) (x : Group) (ms : List Mover) (n0 : Nat) : Block :=
  ((b.recordPlan g ms n0).setGroupState g .warming).handMembers g x

/-- The group asks for its power at once (R47, R53, R55). The reply gives the group's state as this leaves it: a group
left WAITING that the examination at the event's end then grants has answered QUEUED and WAITING (DEDUCED, log 8). -/
def Block.startAsking (b : Block) (g : GroupId) (x : Group) (ms : List Mover) (n0 : Nat) : Answered :=
  let r := b.askGroup g ms n0 x.limit
  match r.2 with
  | .busy => refuse b .busy
  | .queued => (r.1.handMembers g x).startReply g .queued
  | .granted => ((r.1.handMembers g x).deliverGroup g).startReply g .ok

/-- A START_GROUP whose checks 1 to 10 pass (R46, R47). -/
def Block.startPlanned (b : Block) (g : GroupId) (x : Group) (ms : List Mover) : Answered :=
  let n0 := b.minDuration ms
  if 6000 < n0 then refuse b .tooLong
  else if x.waitWarm && b.groupCold x then (b.startWarming g x ms n0).startReply g .ok
  else b.startAsking g x ms n0

/-- The owner's answer to START_GROUP (R46, R47). -/
def ownStartGroup (group : Nat) (b : Block) : Answered :=
  match b.useGroup group with
  | .error c => refuse b c
  | .ok (g, x) =>
    match b.startRefused x with
    | some c => refuse b c
    | none =>
      match b.planGroup x with
      | none => reply b .badValue ((b.misfit x).toList.map fun d => f1 (dishNum d))
      | some ms => b.startPlanned g x ms

/-- START_GROUP (R46). -/
def execStartGroup (tag : Tag) (group : Nat) (s : State) : Ran :=
  s.request (.startGroup tag group) fun _ b => ownStartGroup group b

/-- The owner's answer to ABORT_GROUP (R62). -/
def ownAbortGroup (group : Nat) (b : Block) : Answered :=
  match b.useGroup group with
  | .error c => refuse b c
  | .ok (g, x) => if x.state.live then done (b.abortGroup g .request none) else refuse b .state

/-- ABORT_GROUP (R62). -/
def execAbortGroup (tag : Tag) (group : Nat) (s : State) : Ran :=
  s.request (.abortGroup tag group) fun _ b => ownAbortGroup group b

/-- The owner's answer to GET_GROUP (R45). -/
def ownGetGroup (group : Nat) (b : Block) : Answered :=
  match b.useGroup group with
  | .error c => refuse b c
  | .ok (g, x) => reply b .ok (Group.fields g x)

/-- GET_GROUP (R45). -/
def execGetGroup (tag : Tag) (group : Nat) (s : State) : Ran :=
  s.request (.getGroup tag group) fun _ b => ownGetGroup group b

end Sys2Proof.Machine
end

