-- ==== Sys2Proof/Machine/CmdProtect.lean ====
section
/-! DEFINITION. CmdProtect.lean: the requests of chapters 6, 8 and 11 that protect: SHED, RESUME, CLEAR_CONTEXT,
PLACE_LOCK, REMOVE_LOCK, LIST_LOCKS and CLEAR_ESTOP (R110, R117, R118, R141, R145, R149, R181). -/

namespace Sys2Proof.Machine

/-- The code of a move that waits or not. -/
def waitCode (waits : Bool) : Code := if waits then .queued else .ok

/-- The owner's answer to SHED (R110). -/
def ownShed (dish : Nat) (b : Block) : Answered :=
  match b.useDish dish with
  | .error c => refuse b c
  | .ok d =>
    match b.shedDish d with
    | .error c => refuse b c
    | .ok (t, waits) => reply t (waitCode waits) []

/-- SHED (R110). -/
def execShed (tag : Tag) (dish : Nat) (s : State) : Ran := s.request (.shed tag dish) fun _ b => ownShed dish b

/-- Checks 2 to 7 of RESUME (Table 6-6). -/
def Block.resumeChecked (b : Block) (d : DishId) : Option Code :=
  let m := (b.dish d).mode
  if (m ≠ .stowed ∧ m ≠ .shedDwell) ∨ (b.dish d).context = none then some .state
  else if b.weather.level = .stow then some .wind
  else if b.site.estop then some .estop
  else if b.dishLocked d then some .locked
  else b.resumeRefused d

/-- The internal move of a dish waits for power. -/
def Block.moveWaits (b : Block) (d : DishId) : Bool := (b.move d).any fun m => m.phase == .waiting

/-- The owner's answer to RESUME (R117). -/
def ownResume (dish : Nat) (b : Block) : Answered :=
  match b.useDish dish with
  | .error c => refuse b c
  | .ok d =>
    match b.resumeChecked d with
    | some c => refuse b c
    | none =>
      let t := b.resumeDish d
      reply t (waitCode (t.moveWaits d)) []

/-- RESUME (R117). -/
def execResume (tag : Tag) (dish : Nat) (s : State) : Ran := s.request (.resume tag dish) fun _ b => ownResume dish b

/-- A context discarded by the host: off STOW, a dish that waits under it becomes IDLE (R118). -/
def Block.discardContext (b : Block) (d : DishId) : Block :=
  let t := b.clearContext d
  let m := (b.dish d).mode
  if b.weather.level ≠ .stow ∧ (m = .stowed ∨ m = .shedDwell) then t.setMode d .idle .request else t

/-- The owner's answer to CLEAR_CONTEXT (R118). -/
def ownClearContext (dish : Nat) (b : Block) : Answered :=
  match b.useDish dish with
  | .error c => refuse b c
  | .ok d =>
    if (b.dish d).context = none ∨ (b.dish d).mode = .shedding then refuse b .state else done (b.discardContext d)

/-- CLEAR_CONTEXT (R118). -/
def execClearContext (tag : Tag) (dish : Nat) (s : State) : Ran :=
  s.request (.clearContext tag dish) fun _ b => ownClearContext dish b

/-- The LINK entries (R139). -/
def Block.linkCount (b : Block) : Nat := (b.lockout.entries.filter fun e => !e.key).length

/-- Checks 2 to 4 of PLACE_LOCK (Table 8-2). -/
def Block.placeRefused (b : Block) (kind : LockKind) (d : DishId) (holder : Nat) : Option Code :=
  if !b.configured d then some .noSuch
  else if b.lockout.entries.any fun e => e.holder == holder && e.kind == kind && e.dish == d then some .duplicate
  else if 52 ≤ b.linkCount then some .tableFull
  else none

/-- The owner's answer to PLACE_LOCK; its reply waits for the lock write (R141, R143). Where that write cannot be queued,
LOCK_STATE PLACED joins the queue ahead of STORE_FAULT (DESIGN CHOICE, log 42). -/
def ownPlaceLock (kind dish holder id : Nat) (b : Block) : Answered :=
  match lockKindOf kind, dishOf dish with
  | some k, some d =>
    if holder = 0 then refuse b .badValue
    else match b.placeRefused k d holder with
    | some c => refuse b c
    | none =>
      let r := b.placeLock k d holder false
      (r.1.askLock ⟨id, r.2, true⟩, none)
  | _, _ => refuse b .badValue

/-- PLACE_LOCK (R141). -/
def execPlaceLock (tag : Tag) (kind dish holder : Nat) (s : State) : Ran :=
  s.request (.placeLock tag kind dish holder) (ownPlaceLock kind dish holder)

/-- The owner's answer to REMOVE_LOCK; its reply waits for the lock write (R143, R145). Where that write cannot be queued,
LOCK_STATE REMOVED joins the queue ahead of STORE_FAULT (DESIGN CHOICE, log 42). -/
def ownRemoveLock (num holder id : Nat) (b : Block) : Answered :=
  if num = 0 then refuse b .badValue
  else match b.lockEntry num with
  | none => refuse b .noSuch
  | some e =>
    if e.key || e.holder != holder then refuse b .notHolder
    else ((b.takeLock e).askLock ⟨id, num, false⟩, none)

/-- REMOVE_LOCK (R145). -/
def execRemoveLock (tag : Tag) (num holder : Nat) (s : State) : Ran :=
  s.request (.removeLock tag num holder) (ownRemoveLock num holder)

/-- LIST_LOCKS (R149). -/
def execListLocks (tag : Tag) (cursor : Nat) (s : State) : Ran :=
  s.request (.listLocks tag cursor) fun _ b => reply b .ok (b.lockReply cursor)

/-- The latch cleared, with its report (R181). -/
def Block.unlatch (b : Block) : Block :=
  let t := ({ b with site := { b.site with estop := false } }).tellEstop
  { t with site := { t.site with stopSource := none } }

/-- The owner's answer to CLEAR_ESTOP (R181). -/
def ownClearEstop (b : Block) : Answered :=
  if b.site.marks.any then refuse b .state else done (if b.site.estop then b.unlatch else b)

/-- CLEAR_ESTOP (R181). -/
def execClearEstop (tag : Tag) (s : State) : Ran := s.request (.clearEstop tag) fun _ b => ownClearEstop b

end Sys2Proof.Machine
end

