-- ==== Sys2Proof/Machine/CmdService.lean ====
section
/-! DEFINITION. CmdService.lean: IDENTIFY, GET_STATUS, RESET_FAULT, RESET_WEAR, SET_REPORT_MASK and SOFT_RESET (R11, R18,
R135, R172 to R174). -/

namespace Sys2Proof.Machine

/-- IDENTIFY (R173). -/
def execIdentify (tag : Tag) (s : State) : Ran := s.request (.identify tag) fun _ b => reply b .ok b.identity

/-- The owner's answer to GET_STATUS (R173). -/
def ownGetStatus (sect : Nat) (dish : Option Nat) (b : Block) : Answered :=
  match b.statusSection sect dish with
  | none => refuse b .badValue
  | some fs => reply b .ok fs

/-- GET_STATUS (R173). -/
def execGetStatus (tag : Tag) (sect : Nat) (dish : Option Nat) (s : State) : Ran :=
  s.request (.getStatus tag sect dish) fun _ b => ownGetStatus sect dish b

/-- The conditions under which a faulted axis is returned to service (R18). -/
def Block.axisMends (b : Block) (d : DishId) (k : AxisKind) : Bool :=
  let a := b.axis d k
  a.state == .faulted && b.heard d
  && match a.reported with
    | some r => (r.code == .none || r.code == .cleared) && !r.released
    | none => false

/-- A faulted axis returned to service (R18); one that enters LOCKED is lost anew to an internal move that waits for its
dish, and ends it (R65, R116). -/
def Block.mendAxis (b : Block) (d : DishId) (k : AxisKind) : Block :=
  Block.reactLost b ((b.modAxis d k fun a => { a with fault := none }).rest d k) d

/-- RESET_FAULT naming an axis (R18). -/
def ownResetAxis (num : Nat) (b : Block) : Answered :=
  match axisOf num with
  | none => refuse b .badValue
  | some (d, k) =>
    if !b.configured d then refuse b .noSuch
    else if b.axisMends d k then done (b.mendAxis d k)
    else refuse b .state

/-- The conditions under which a faulted zone is returned to service (R135). -/
def Block.zoneMends (b : Block) (d : DishId) (z : ZoneKind) : Bool :=
  (b.zone d z).fault && b.heard d && (b.zone d z).reported == some false

/-- A faulted zone returned to service (R135). -/
def Block.mendZone (b : Block) (d : DishId) (z : ZoneKind) : Block :=
  ((b.modZone d z fun x => { x with fault := false }).deriveZone d z).tellZone d z

/-- RESET_FAULT naming a zone (R135). -/
def ownResetZone (num : Nat) (b : Block) : Answered :=
  match zoneOf num with
  | none => refuse b .badValue
  | some (d, z) =>
    if !b.configured d then refuse b .noSuch
    else if b.zoneMends d z then done (b.mendZone d z)
    else refuse b .state

/-- The owner's answer to RESET_FAULT: form 0 names an axis, 1 a zone (R18, Table 10-8). -/
def ownResetFault (target : TargetParams) (b : Block) : Answered :=
  match target.form with
  | 0 => ownResetAxis target.num b
  | 1 => ownResetZone target.num b
  | _ => refuse b .badValue

/-- RESET_FAULT (R18, R135). -/
def execResetFault (tag : Tag) (target : TargetParams) (s : State) : Ran :=
  s.request (.resetFault tag target) fun _ b => ownResetFault target b

/-- A release count set to 0 (R11). The AXIS_STATE report names the present state as the previous one (DESIGN CHOICE,
log 38). -/
def Block.clearWear (b : Block) (d : DishId) (k : AxisKind) : Block :=
  let t := (b.modAxis d k fun a => { a with releases := 0, verify := false }).askCounts
  t.tellAxis d k (t.axis d k).state

/-- The owner's answer to RESET_WEAR (R11). -/
def ownResetWear (subj : Nat) (b : Block) : Answered :=
  match axisOf subj with
  | none => refuse b .badValue
  | some (d, k) =>
    match (b.axis d k).state with
    | .braked | .locked => done (b.clearWear d k)
    | _ => refuse b .state

/-- RESET_WEAR (R11). -/
def execResetWear (tag : Tag) (subj : Nat) (s : State) : Ran :=
  s.request (.resetWear tag subj) fun _ b => ownResetWear subj b

/-- The report mask replaced (R174). -/
def Block.setMask (b : Block) (m : BitVec 20) : Block := { b with link := { b.link with mask := m } }

/-- The owner's answer to SET_REPORT_MASK (R174). -/
def ownSetReportMask (mask : BitVec 32) (b : Block) : Answered :=
  if 1048576 ≤ mask.toNat then refuse b .badValue
  else reply (b.setMask (mask.truncate 20)) .ok [f4 mask.toNat]

/-- SET_REPORT_MASK (R174). -/
def execSetReportMask (tag : Tag) (mask : BitVec 32) (s : State) : Ran :=
  s.request (.setReportMask tag mask) fun _ b => ownSetReportMask mask b

/-- The port's answer to SOFT_RESET: the part resets after the reply's last byte (R172). -/
def ownSoftReset (b : Block) : Answered :=
  if 1 < b.pendingCount then refuse b .busy else (b, some (⟨.ok, []⟩, .softReset))

/-- SOFT_RESET (R172). -/
def execSoftReset (tag : Tag) (s : State) : Ran := s.request (.softReset tag) fun _ b => ownSoftReset b

end Sys2Proof.Machine
end

