-- ==== Sys2Proof/Machine/CmdWeather.lean ====
section
/-! DEFINITION. CmdWeather.lean: the requests of chapters 5 and 7 on weather and heat: WEATHER_ENABLE, WEATHER_DISABLE,
FORGET_WEATHER, GET_WEATHER, STOW_NOW, STOW_RELEASE, PREWARM and SNOW_FORCE (R85 to R87, R97, R101, R124, R127). -/

namespace Sys2Proof.Machine

/-- A DISABLED entry enabled: WARMING from nothing, its node in the cycle (R83, R85, R166). -/
def Block.enableWx (b : Block) (n : WeatherId) : Block :=
  let t := (b.setWx n (b.wx n).cleared).setNode (.wx n) (b.node (.wx n)).joined
  t.tellWx n .enable

/-- The owner's answer to WEATHER_ENABLE, with the entry's state (R85). -/
def ownWeatherEnable (addr : Nat) (b : Block) : Answered :=
  match wxOf addr with
  | none => refuse b .badValue
  | some n =>
    let t := if (b.wx n).state = .disabled then b.enableWx n else b
    reply t .ok [f1 (t.wx n).state.ctorIdx]

/-- WEATHER_ENABLE (R85). -/
def execWeatherEnable (tag : Tag) (addr : Nat) (s : State) : Ran :=
  s.request (.weatherEnable tag addr) fun _ b => ownWeatherEnable addr b

/-- An entry disabled, its node out of the cycle, the NODE_REACH report ahead of the WEATHER_NODE one (DESIGN CHOICE, log
22); the figures follow where it was ACTIVE (R86, R92, R166), so that the WEATHER_NODE report joins the queue ahead of
the STOW_LEVEL and SNOW reports of the recomputation (DESIGN CHOICE, log 21); and a successor that waits begins where no
node is left to visit (R155). -/
def Block.disableWx (b : Block) (n : WeatherId) : Block :=
  let e := b.wx n
  let t := b.setWx n { e.cleared with state := .disabled }
  let t := (t.leaveCycle (.wx n)).tellWx n .disable
  (if e.state = .active then t.figuresChanged else t).nextCycle

/-- The owner's answer to WEATHER_DISABLE (R86). -/
def ownWeatherDisable (addr : Nat) (b : Block) : Answered :=
  match wxOf addr with
  | none => refuse b .badValue
  | some n => done (if (b.wx n).state = .disabled then b else b.disableWx n)

/-- WEATHER_DISABLE (R86). -/
def execWeatherDisable (tag : Tag) (addr : Nat) (s : State) : Ran :=
  s.request (.weatherDisable tag addr) fun _ b => ownWeatherDisable addr b

/-- One named entry forgets; a report where its state changes (R87, R91). -/
def Block.forgetWx (b : Block) (n : WeatherId) : Block :=
  let e := b.wx n
  match e.state with
  | .disabled => b
  | .warming => b.setWx n e.cleared
  | .active => (b.setWx n e.cleared).tellWx n .forget

/-- The named entries forget, and the figures are recomputed once (R87); the WEATHER_NODE reports join the queue ahead of
the STOW_LEVEL and SNOW reports of the recomputation (DESIGN CHOICE, log 21). -/
def Block.forgetAll (b : Block) (mask : BitVec 8) : Block :=
  if mask = 0 then b
  else (b.each (allWeather.filter fun n => mask.getLsbD n.val) fun n s => s.forgetWx n).figuresChanged

/-- The owner's answer to FORGET_WEATHER, with the eight states (R87), sent without a count byte: a fixed number of items
is taken to be no list of R178 (DESIGN CHOICE, log 28). -/
def ownForgetWeather (mask : BitVec 8) (b : Block) : Answered :=
  let t := b.forgetAll mask
  reply t .ok (allWeather.map fun n => f1 (t.wx n).state.ctorIdx)

/-- FORGET_WEATHER (R87). -/
def execForgetWeather (tag : Tag) (mask : BitVec 8) (s : State) : Ran :=
  s.request (.forgetWeather tag mask) fun _ b => ownForgetWeather mask b

/-- GET_WEATHER (R101). -/
def execGetWeather (tag : Tag) (s : State) : Ran := s.request (.getWeather tag) fun _ b => reply b .ok b.weatherReply

/-- The host force set or cleared, and the level evaluated (R97). -/
def Block.setForce (b : Block) (v : Bool) : Block := ({ b with weather := { b.weather with force := v } }).evaluate

/-- The owner's answer to STOW_NOW and STOW_RELEASE (R97). -/
def ownForce (v : Bool) (b : Block) : Answered :=
  let t := b.setForce v
  reply t .ok t.levelReply

/-- STOW_NOW (R97). -/
def execStowNow (tag : Tag) (s : State) : Ran := s.request (.stowNow tag) fun _ b => ownForce true b

/-- STOW_RELEASE (R97). -/
def execStowRelease (tag : Tag) (s : State) : Ran := s.request (.stowRelease tag) fun _ b => ownForce false b

/-- Thirty minutes on the internal time base, in ms (R127). -/
def prewarmTime : Nat := 1800000

/-- START places a request where the dish is cold; CANCEL removes it (R127). -/
def Block.setPrewarm (b : Block) (d : DishId) (start : Bool) : Block :=
  if start then
    if b.cold d then b.modZone d .drive fun x => { x with prewarm := some (b.site.tb + prewarmTime) } else b
  else b.modZone d .drive fun x => { x with prewarm := none }

/-- The reply of PREWARM: in force or not, the whole seconds remaining, the cold flag and the zone's mode (R127, log
28). -/
def Block.prewarmReply (b : Block) (d : DishId) : List Fld :=
  let x := b.zone d .drive
  [fb x.prewarm.isSome, f2 (x.prewarm.elim 0 fun t => (t - b.site.tb) / 1000), fb (b.cold d), f1 x.mode.ctorIdx]

/-- The owner's answer to PREWARM (R127). -/
def ownPrewarm (dish act : Nat) (b : Block) : Answered :=
  match b.useDish dish with
  | .error c => refuse b c
  | .ok d =>
    if 1 < act then refuse b .badValue
    else
      let t := b.setPrewarm d (act == 0)
      reply t .ok (t.prewarmReply d)

/-- PREWARM (R127). -/
def execPrewarm (tag : Tag) (dish act : Nat) (s : State) : Ran :=
  s.request (.prewarm tag dish act) fun _ b => ownPrewarm dish act b

/-- The host snow force set or cleared, and the condition judged (R124, R125). -/
def Block.setSnowForce (b : Block) (v : Bool) : Block := ({ b with heater := { b.heater with snowForce := v } }).judgeSnow

/-- The owner's answer to SNOW_FORCE: force, condition, episode state (R124). -/
def ownSnowForce (act : Nat) (b : Block) : Answered :=
  if 1 < act then refuse b .badValue
  else
    let t := b.setSnowForce (act == 0)
    reply t .ok [fb t.heater.snowForce, fb t.snowCond, fb t.heater.episode]

/-- SNOW_FORCE (R124). -/
def execSnowForce (tag : Tag) (act : Nat) (s : State) : Ran :=
  s.request (.snowForce tag act) fun _ b => ownSnowForce act b

end Sys2Proof.Machine
end

