-- ==== Sys2Proof/Machine/EvField.lean ====
section
/-! DEFINITION. EvField.lean: the events of the field lines and of the SITE_ESTOP input (R58, R155 to R165, R180). -/

namespace Sys2Proof.Machine

/-- A cycle is due: it begins, or waits for the visits of the one before it (R155); DISCOVERING may end at it (R185).
Several cycles that fall due while one is visiting are one successor (DESIGN CHOICE, log 22). -/
def Block.cycleComes (b : Block) : Block :=
  let t := b.carryTo b.field.cycleDue
  let t := { t with field := { t.field with cycleDue := t.nextDue b.field.cycleDue 100 } }
  if t.field.visit.isSome || !t.field.todo.isEmpty then { t with field := { t.field with successor := true } }
  else t.beginCycle.judgeStartup

/-- FIELD_CYCLE (R155). -/
def execFieldCycle (s : State) : Ran := s.event Block.cycleComes

/-- The clock carried to the first cycle boundary at or after a site time, where it lies before it (R58). -/
def Block.clockTo (b : Block) (t : Nat) : Block :=
  match b.site.clock with
  | some c => b.passTime (ceilDiv t 100 * 100 - c)
  | none => b

/-- The late deadline of a group is judged (R58). -/
def Block.deadlineComes (b : Block) (g : GroupId) : Block :=
  match (b.group g).bind Group.deadline with
  | some t => (b.clockTo t).markLate g
  | none => b

/-- LATE_DEADLINE (R58). -/
def execLateDeadline (g : GroupId) (s : State) : Ran := s.event fun b => b.deadlineComes g

/-- The next node of the cycle is visited; nodes that have left the cycle are passed over (R155, R156). -/
def Block.visitNext (b : Block) : Block :=
  if b.field.visit.isSome then b
  else match b.field.todo.dropWhile fun r => !b.inCycle r with
  | r :: rest => b.visitNode r rest
  | [] => ({ b with field := { b.field with todo := [] } }).nextCycle

/-- NODE_VISIT (R156). -/
def execNodeVisit (s : State) : Ran := s.event Block.visitNext

/-- ECHO_MISMATCH (R157, R158). -/
def execEchoMismatch (line : Line) (s : State) : Ran := s.event fun b => b.echoFails line

/-- ORDER_FRAME_SENT (R157, R158). -/
def execOrderFrameSent (line : Line) (s : State) : Ran := s.event fun b => b.frameSent line

/-- ANSWER_RECEIVED (R159, R177). -/
def execAnswerReceived (line : Line) (bytes : List Byte) (s : State) : Ran := s.event fun b => b.answerEnds line bytes

/-- VISIT_END (R161, R163); DISCOVERING may end at it (R185). -/
def execVisitEnd (s : State) : Ran := s.event fun b => b.endVisit.judgeStartup

/-- LINE_BREAK (R164); watched from reset (R154). -/
def execLineBreak (line : Line) (s : State) : Ran := s.run fun b => b.lineBreaks line

/-- BREAK_HELD (R165). -/
def execBreakHeld (line : Line) (s : State) : Ran := s.run fun b => b.breakGoesOn line

/-- BREAK_END (R165). -/
def execBreakEnd (line : Line) (s : State) : Ran := s.run fun b => b.breakEnds line

/-- ESTOP_INPUT_ACTIVE (R180). -/
def execEstopInputActive (s : State) : Ran := s.event fun b => b.setMark .input true

/-- ESTOP_INPUT_INACTIVE (R180). -/
def execEstopInputInactive (s : State) : Ran := s.event fun b => b.setMark .input false

end Sys2Proof.Machine
end

