-- ==== Sys2Proof/Machine/EvLink.lean ====
section
/-! DEFINITION. EvLink.lean: the events of the control link, of reset, of start-up and of the configuration store (R167
to R170, R172, R176, R183, R185). -/

namespace Sys2Proof.Machine

/-- LINK_FRAME_RECEIVED (R168, R169): bytes arrive one after another; a frame that ends is checked. -/
def execLinkFrameReceived (bytes : List Byte) (s : State) : Ran := s.run fun b => b.rxBytesIn bytes

/-- LINK_START_BYTE (R168): in HUNT, a frame begins; within a frame the byte is the frame's next (log 2). -/
def execLinkStartByte (s : State) : Ran := s.run fun b => b.rxByte 0xA5#8

/-- LINK_GAP_TIMEOUT (R168). -/
def execLinkGapTimeout (s : State) : Ran := s.run fun b => b.abandon countGap

/-- The counter of a byte error. -/
def errCounter : ByteErr → LinkCounters → LinkCounters
  | .framing => countFraming
  | .length => countLength

/-- LINK_BYTE_ERROR (R168). -/
def execLinkByteError (why : ByteErr) (s : State) : Ran := s.run fun b => b.abandon (errCounter why)

/-- What follows the last byte of a reply: nothing, the new rate with a partial frame abandoned as for a gap, or the
reset (R167, R172). -/
def Block.applyAfter (b : Block) : After → Block
  | .nothing => b
  | .setRate r => ({ b with link := { b.link with rate := r } }).abandon countGap
  | .softReset => b.reset

/-- The frame being sent ends; a reply's entry leaves the outgoing list, freeing its place (R170, R176). -/
def Block.frameGone (b : Block) : Block :=
  match b.link.tx with
  | none => b
  | some (.report _ _) => { b with link := { b.link with tx := none } }
  | some (.reply id) =>
    let after := ((b.link.out.find? fun e => e.id == id).map (·.after)).getD .nothing
    let left := b.link.out.filter fun e => e.id != id
    ({ b with link := { b.link with tx := none, out := left } }).applyAfter after

/-- LINK_FRAME_SENT (R176). -/
def execLinkFrameSent (s : State) : Ran := s.run Block.frameGone

/-- RESET (R185): power-on or the RESET line. -/
def execReset (s : State) : Ran := s.run Block.reset

/-- The load's end, in STARTING. -/
def Block.loadEnds (b : Block) : Block :=
  match b.site.startup with
  | .starting => b.load
  | _ => b

/-- STORE_LOAD_DONE (R185). -/
def execStoreLoadDone (s : State) : Ran := s.run Block.loadEnds

/-- The 5 s of DISCOVERING, in ms (R185). -/
def discoveryTime : Nat := 5000

/-- DISCOVERING ends by its limit. -/
def Block.discoveryEnds (b : Block) : Block :=
  match b.site.startup, b.site.discovering with
  | .discovering, some t => (b.carryTo (t + discoveryTime)).becomeReady
  | _, _ => b

/-- DISCOVERY_TIMEOUT (R185). -/
def execDiscoveryTimeout (s : State) : Ran := s.event Block.discoveryEnds

/-- STORE_WRITE_DONE (R183). -/
def execStoreWriteDone (ok : Bool) (s : State) : Ran := s.event fun b => b.writeDone ok

end Sys2Proof.Machine
end

