-- ==== Sys2Proof/Machine/EvTime.lean ====
section
/-! DEFINITION. EvTime.lean: the events of the part's timers (R7 to R9, R15, R16, R21, R22, R84, R90, R94 to R96, R112,
R125, R127, R130, R134). Each carries the time base to the moment it is due and does nothing where its timer does not
run (log 2). -/

namespace Sys2Proof.Machine

/-- An axis waits on the beacon (R7). -/
def Axis.awaitsBeacon (a : Axis) : Bool :=
  (a.state == .braked && a.stage == .beacon) || (a.state == .testing && a.opDue.isNone)

/-- The interval's end: the axes that wait go on as the event settles (R7). -/
def Block.beaconComes (b : Block) : Block :=
  match b.site.beacon, b.site.beaconSince, allAxes.any fun p => (b.axis p.1 p.2).awaitsBeacon with
  | true, some t, true => b.carryTo (t + 1000 * b.site.cfg.warn)
  | _, _, _ => b

/-- BEACON_INTERVAL_MET (R7). -/
def execBeaconIntervalMet (s : State) : Ran := s.event Block.beaconComes

/-- The operation timer of an axis in a state expires: FAULTED with a reason, and its requesters told (R17). -/
def Block.opExpires (b : Block) (d : DishId) (k : AxisKind) (st : AxisState) (why : FaultReason) : Block :=
  match (b.axis d k).opDue with
  | none => b
  | some t =>
    if (b.axis d k).state = st then
      let c := b.carryTo t
      Block.reactLost c (c.faultAxis d k why) d
    else b

/-- BRAKE_TEST_TIMEOUT (R8). -/
def execBrakeTestTimeout (d : DishId) (k : AxisKind) (s : State) : Ran :=
  s.event fun b => b.opExpires d k .testing .brakeSuspect

/-- RELEASE_TIMEOUT (R9). -/
def execReleaseTimeout (d : DishId) (k : AxisKind) (s : State) : Ran :=
  s.event fun b => b.opExpires d k .releasing .releaseTimeout

/-- ENGAGE_TIMEOUT (R16). -/
def execEngageTimeout (d : DishId) (k : AxisKind) (s : State) : Ran :=
  s.event fun b => b.opExpires d k .engaging .engageTimeout

/-- The park timer expires (R15). -/
def Block.parkExpires (b : Block) (d : DishId) (k : AxisKind) : Block :=
  match (b.axis d k).parkDue with
  | none => b
  | some t => (b.carryTo t).orderBrake d k

/-- PARK_EXPIRY (R15). -/
def execParkExpiry (d : DishId) (k : AxisKind) (s : State) : Ran := s.event fun b => b.parkExpires d k

/-- The offline claim hold expires (R21). -/
def Block.offlineExpires (b : Block) (d : DishId) (k : AxisKind) : Block :=
  match (b.axis d k).holdDue with
  | none => b
  | some t => ((b.carryTo t).modAxis d k fun a => { a with holdDue := none }).releaseClaim d k

/-- OFFLINE_HOLD_EXPIRY (R21). -/
def execOfflineHoldExpiry (d : DishId) (k : AxisKind) (s : State) : Ran := s.event fun b => b.offlineExpires d k

/-- The lag timer has run for 2 s: the episode opens, once, with its report (R22). -/
def Block.lagComes (b : Block) (d : DishId) (k : AxisKind) : Block :=
  match (b.axis d k).lag with
  | none => b
  | some l =>
    let t := b.carryTo (l.since + 2000)
    if (b.axis d k).lagOpen then t
    else
      (t.modAxis d k fun a => { a with lagOpen := true }).tell .trackLag (axisNum d k) [s4 l.expected, s4 (b.pos d k)]

/-- TRACK_LAG (R22). -/
def execTrackLag (d : DishId) (k : AxisKind) (s : State) : Ran := s.event fun b => b.lagComes d k

/-- The weather second advances by one, however late the tick is taken (R84, log 45). -/
def Block.nextSecond (b : Block) : Block :=
  let t := b.carryTo b.weather.tickDue
  { t with weather :=
    { t.weather with sec := t.weather.sec + 1, tickDue := t.nextDue b.weather.tickDue 1000 } }

/-- A tick: the heater second, the sweep, the level's timers and evaluation, the snow timer, the report (R84, R93, R101,
R125, R130; log 21). -/
def Block.tick (b : Block) : Block :=
  let t := b.nextSecond.heaterSecond.sweep
  let t := (Block.advanceTimers b t).evaluate
  (Block.advanceClear b t).tellSiteWeather

/-- WEATHER_TICK (R84, R130). -/
def execWeatherTick (s : State) : Ran := s.event Block.tick

/-- A reading reaches its expiry and is swept (R90, log 31). -/
def Block.readingExpires (b : Block) (n : WeatherId) : Block :=
  match (b.wx n).reading with
  | none => b
  | some r =>
    let t := b.setWx n { b.wx n with reading := some { r with expiry := min r.expiry b.weather.sec } }
    let t := t.expireWx n
    if (b.wx n).state = .active then t.figuresChanged else t

/-- READING_EXPIRY (R90). -/
def execReadingExpiry (n : WeatherId) (s : State) : Ran := s.event fun b => b.readingExpires n

/-- The unknown timer has run for the grace (R94, log 31). -/
def Block.graceComes (b : Block) : Block :=
  match b.weather.unknown with
  | none => b
  | some n => ({ b with weather := { b.weather with unknown := some (max n b.site.cfg.grace) } }).evaluate

/-- UNKNOWN_GRACE_EXPIRY (R94). -/
def execUnknownGraceExpiry (s : State) : Ran := s.event Block.graceComes

/-- The release hold has run its time (R96, log 31). -/
def Block.holdComes (b : Block) : Block :=
  match b.weather.hold with
  | .running n => ({ b with weather := { b.weather with hold := .running (max n b.site.cfg.relHold) } }).evaluate
  | _ => b

/-- RELEASE_HOLD_COMPLETE (R96). -/
def execReleaseHoldComplete (s : State) : Ran := s.event Block.holdComes

/-- The watch release hold has run its 300 s (R95, log 31). -/
def Block.watchComes (b : Block) : Block :=
  match b.weather.watchHold with
  | none => b
  | some n => ({ b with weather := { b.weather with watchHold := some (max n watchHoldSeconds) } }).evaluate

/-- WATCH_RELEASE_EXPIRY (R95). -/
def execWatchReleaseExpiry (s : State) : Ran := s.event Block.watchComes

/-- The clear timer has run its 600 s (R125, log 31). -/
def Block.clearComes (b : Block) : Block :=
  match b.heater.clear with
  | none => b
  | some _ => b.clearAt clearSeconds

/-- SNOW_EPISODE_END (R125). -/
def execSnowEpisodeEnd (s : State) : Ran := s.event Block.clearComes

/-- A pre-warm request expires (R127). -/
def Block.prewarmExpires (b : Block) (d : DishId) : Block :=
  match (b.zone d .drive).prewarm with
  | none => b
  | some t => (b.carryTo t).modZone d .drive fun x => { x with prewarm := none }

/-- PREWARM_EXPIRY (R127). -/
def execPrewarmExpiry (d : DishId) (s : State) : Ran := s.event fun b => b.prewarmExpires d

/-- A dwell is complete; under AUTO its dish is resumed (R112), also an unconfigured one that R104 left in SHED_DWELL
when the level entered STOW, which then enters RETURNING under STOW (DEDUCED, log 36). -/
def Block.dwellEnds (b : Block) (d : DishId) : Block :=
  match (b.dish d).dwell with
  | .running t =>
    let c := (b.carryTo t).modDish d fun x => { x with dwell := .complete }
    match c.site.cfg.resume with
    | .auto => c.resumeDish d
    | .manual => c
  | _ => b

/-- DWELL_EXPIRY (R112). -/
def execDwellExpiry (d : DishId) (s : State) : Ran := s.event fun b => b.dwellEnds d

/-- The mismatch timer has run for 3 s (R134). -/
def Block.mismatchComes (b : Block) (d : DishId) (z : ZoneKind) : Block :=
  match (b.zone d z).mismatch with
  | none => b
  | some t => (b.carryTo (t + 3000)).faultZone d z

/-- ZONE_CONTACTOR_FAULT (R134). -/
def execZoneContactorFault (d : DishId) (z : ZoneKind) (s : State) : Ran := s.event fun b => b.mismatchComes d z

end Sys2Proof.Machine
end

