-- ==== Sys2Proof/Machine/Dispatch.lean ====
section
/-! DEFINITION. Dispatch.lean: one arm per command. -/

namespace Sys2Proof.Machine

def exec (i : Instr) (s : State) : Host.Outcome State Fault Refusal :=
  match i with
  | .identify tag => Sys2Proof.Machine.execIdentify tag s
  | .getStatus tag sect dish => Sys2Proof.Machine.execGetStatus tag sect dish s
  | .setTime tag ms => Sys2Proof.Machine.execSetTime tag ms s
  | .configAxis tag subj p => Sys2Proof.Machine.execConfigAxis tag subj p s
  | .configZone tag subj p => Sys2Proof.Machine.execConfigZone tag subj p s
  | .configSite tag p => Sys2Proof.Machine.execConfigSite tag p s
  | .configLines tag p => Sys2Proof.Machine.execConfigLines tag p s
  | .saveConfig tag => Sys2Proof.Machine.execSaveConfig tag s
  | .setBudget tag watts => Sys2Proof.Machine.execSetBudget tag watts s
  | .getBudget tag => Sys2Proof.Machine.execGetBudget tag s
  | .addPoints tag dish pts => Sys2Proof.Machine.execAddPoints tag dish pts s
  | .flushPoints tag dish => Sys2Proof.Machine.execFlushPoints tag dish s
  | .trackStart tag dish => Sys2Proof.Machine.execTrackStart tag dish s
  | .trackStop tag dish => Sys2Proof.Machine.execTrackStop tag dish s
  | .holdDish tag dish => Sys2Proof.Machine.execHoldDish tag dish s
  | .parkDish tag dish => Sys2Proof.Machine.execParkDish tag dish s
  | .formGroup tag dishes az el pref thenTrack waitWarm limit => Sys2Proof.Machine.execFormGroup tag dishes az el pref thenTrack waitWarm limit s
  | .startGroup tag group => Sys2Proof.Machine.execStartGroup tag group s
  | .abortGroup tag group => Sys2Proof.Machine.execAbortGroup tag group s
  | .getGroup tag group => Sys2Proof.Machine.execGetGroup tag group s
  | .prewarm tag dish act => Sys2Proof.Machine.execPrewarm tag dish act s
  | .snowForce tag act => Sys2Proof.Machine.execSnowForce tag act s
  | .weatherEnable tag addr => Sys2Proof.Machine.execWeatherEnable tag addr s
  | .weatherDisable tag addr => Sys2Proof.Machine.execWeatherDisable tag addr s
  | .forgetWeather tag mask => Sys2Proof.Machine.execForgetWeather tag mask s
  | .getWeather tag => Sys2Proof.Machine.execGetWeather tag s
  | .stowNow tag => Sys2Proof.Machine.execStowNow tag s
  | .stowRelease tag => Sys2Proof.Machine.execStowRelease tag s
  | .shed tag dish => Sys2Proof.Machine.execShed tag dish s
  | .resume tag dish => Sys2Proof.Machine.execResume tag dish s
  | .clearContext tag dish => Sys2Proof.Machine.execClearContext tag dish s
  | .placeLock tag kind dish holder => Sys2Proof.Machine.execPlaceLock tag kind dish holder s
  | .removeLock tag num holder => Sys2Proof.Machine.execRemoveLock tag num holder s
  | .listLocks tag cursor => Sys2Proof.Machine.execListLocks tag cursor s
  | .resetFault tag target => Sys2Proof.Machine.execResetFault tag target s
  | .resetWear tag subj => Sys2Proof.Machine.execResetWear tag subj s
  | .clearEstop tag => Sys2Proof.Machine.execClearEstop tag s
  | .setReportMask tag mask => Sys2Proof.Machine.execSetReportMask tag mask s
  | .softReset tag => Sys2Proof.Machine.execSoftReset tag s
  | .linkFrameReceived bytes => Sys2Proof.Machine.execLinkFrameReceived bytes s
  | .linkGapTimeout => Sys2Proof.Machine.execLinkGapTimeout s
  | .linkByteError why => Sys2Proof.Machine.execLinkByteError why s
  | .linkFrameSent => Sys2Proof.Machine.execLinkFrameSent s
  | .linkStartByte => Sys2Proof.Machine.execLinkStartByte s
  | .reset => Sys2Proof.Machine.execReset s
  | .storeLoadDone => Sys2Proof.Machine.execStoreLoadDone s
  | .discoveryTimeout => Sys2Proof.Machine.execDiscoveryTimeout s
  | .fieldCycle => Sys2Proof.Machine.execFieldCycle s
  | .lateDeadline g => Sys2Proof.Machine.execLateDeadline g s
  | .nodeVisit => Sys2Proof.Machine.execNodeVisit s
  | .echoMismatch line => Sys2Proof.Machine.execEchoMismatch line s
  | .orderFrameSent line => Sys2Proof.Machine.execOrderFrameSent line s
  | .answerReceived line bytes => Sys2Proof.Machine.execAnswerReceived line bytes s
  | .visitEnd => Sys2Proof.Machine.execVisitEnd s
  | .estopInputActive => Sys2Proof.Machine.execEstopInputActive s
  | .estopInputInactive => Sys2Proof.Machine.execEstopInputInactive s
  | .lineBreak line => Sys2Proof.Machine.execLineBreak line s
  | .breakHeld line => Sys2Proof.Machine.execBreakHeld line s
  | .breakEnd line => Sys2Proof.Machine.execBreakEnd line s
  | .beaconIntervalMet => Sys2Proof.Machine.execBeaconIntervalMet s
  | .brakeTestTimeout d k => Sys2Proof.Machine.execBrakeTestTimeout d k s
  | .releaseTimeout d k => Sys2Proof.Machine.execReleaseTimeout d k s
  | .engageTimeout d k => Sys2Proof.Machine.execEngageTimeout d k s
  | .parkExpiry d k => Sys2Proof.Machine.execParkExpiry d k s
  | .offlineHoldExpiry d k => Sys2Proof.Machine.execOfflineHoldExpiry d k s
  | .trackLag d k => Sys2Proof.Machine.execTrackLag d k s
  | .weatherTick => Sys2Proof.Machine.execWeatherTick s
  | .readingExpiry n => Sys2Proof.Machine.execReadingExpiry n s
  | .unknownGraceExpiry => Sys2Proof.Machine.execUnknownGraceExpiry s
  | .releaseHoldComplete => Sys2Proof.Machine.execReleaseHoldComplete s
  | .watchReleaseExpiry => Sys2Proof.Machine.execWatchReleaseExpiry s
  | .snowEpisodeEnd => Sys2Proof.Machine.execSnowEpisodeEnd s
  | .prewarmExpiry d => Sys2Proof.Machine.execPrewarmExpiry d s
  | .dwellExpiry d => Sys2Proof.Machine.execDwellExpiry d s
  | .zoneContactorFault d z => Sys2Proof.Machine.execZoneContactorFault d z s
  | .storeWriteDone ok => Sys2Proof.Machine.execStoreWriteDone ok s

end Sys2Proof.Machine
end

