-- ==== Sys2Proof/Safety.lean ====
section
/-! DEFINITION. Safety.lean: the vocabulary of the statements: how a step ends, when a request is taken and what its
owner finds, when an event acts, and the laws the manual gives the records (R34, R70, R139, R140, R170, R175, R182,
R183). A fault is no outcome of this part (Fault has no constructor); a refusal is a command the model gives no
meaning. -/

namespace Sys2Proof.Machine

/-! ### Steps -/

/-- A step that goes on. -/
def StepsOn (s : State) : Prop := ∃ t, step s = .next t

/-- A command that goes on from a state. -/
def RunsOn (c : Instr) (s : State) : Prop := ∃ t, exec c s = .next t

/-- A machine whose blocks stand as b before they settle: the queue as in s, the blocks settled (log 21). -/
def State.ends (s : State) (b : Block) : State := { s with block := b.finish }

/-! ### Laws of the records -/

/-- The point pool (R34): 480 records, at most 120 in a queue, in strictly increasing time order. -/
def Block.PointsLaw (b : Block) : Prop :=
  b.points.free + (allDishes.map fun d => (b.queue d).length).sum = 480
  ∧ ∀ d, (b.queue d).length ≤ 120 ∧ (b.queue d).Pairwise fun p q => p.time < q.time

/-- The axes a request names. -/
def wantAxes (ws : List Want) : List (DishId × AxisKind) := ws.map fun w => (w.d, w.k)

/-- The account (R66, R67, R69, R70, R75): the claims and the heat within B_eff, B_eff the greater of B_req and the
claims, the floor within B_req, at most 20 entries in the wait queue. -/
def Block.AccountLaw (b : Block) : Prop :=
  b.claimTotal + b.heatTotal ≤ b.account.beff
  ∧ b.account.beff = max b.account.breq b.claimTotal
  ∧ b.account.floor = b.floorOf ∧ b.account.floor ≤ b.account.breq
  ∧ b.account.waitq.length ≤ 20

/-- What keeps the account's law: no request or group names an axis twice, heat stands only in zones of the serving
order, and before the store is loaded there is no claim and no heat, and no request but those always answered. -/
def Block.AccountSupport (b : Block) : Prop :=
  (∀ e ∈ b.account.waitq, (wantAxes e.wants).Nodup)
  ∧ (∀ g x, b.group g = some x → (x.members.map (·.dish)).Nodup)
  ∧ (∀ d z, 0 < (b.zone d z).duty → (⟨d, z⟩ : ZoneRef) ∈ b.heater.serving)
  ∧ (b.site.startup = .starting →
      (∀ d k, b.claim d k = none) ∧ (∀ d z, (b.zone d z).duty = 0)
      ∧ ∀ e ∈ b.link.out, ∀ i, e.req = some i → e.handed = true ∨ alwaysAnswered i = true)

/-- The LINK entries as a lock write carries them: at most 52, numbered from 1 in rising order, with a holder, no two of
the same holder, kind and dish (R138, R139, R143). -/
def LocksLawful (ls : List StoredLock) : Prop :=
  ls.length ≤ 52 ∧ (ls.Pairwise fun x y => x.num < y.num)
  ∧ (ls.Pairwise fun x y => ¬(x.holder = y.holder ∧ x.kind = y.kind ∧ x.dish = y.dish))
  ∧ ∀ x ∈ ls, 1 ≤ x.num ∧ x.num ≤ 65535 ∧ x.holder ≠ 0

/-- The lockout table (R138 to R140): at most 52 LINK entries and one KEY entry per dish, no two of the same holder,
kind and dish, KEY entries of kind DISH and holder 0, LINK entries with a holder, numbers rising; and what the store
holds or is being given is lawful. -/
def Block.LockLaw (b : Block) : Prop :=
  (b.lockout.entries.filter fun e => !e.key).length ≤ 52
  ∧ (∀ d, (b.lockout.entries.filter fun e => e.key && e.dish == d).length ≤ 1)
  ∧ (b.lockout.entries.Pairwise fun x y => ¬(x.holder = y.holder ∧ x.kind = y.kind ∧ x.dish = y.dish))
  ∧ (∀ e ∈ b.lockout.entries,
      1 ≤ e.num ∧ e.num ≤ 65535 ∧ if e.key then e.kind = .dish ∧ e.holder = 0 else e.holder ≠ 0)
  ∧ (b.lockout.entries.Pairwise fun x y => x.num < y.num)
  ∧ 1 ≤ b.lockout.next ∧ b.lockout.next ≤ 65535
  ∧ LocksLawful b.site.store.locks
  ∧ ∀ w ls, b.site.running = some w → w.locks = some ls → LocksLawful ls

/-- The queues of the link (R170, R175): at most four requests pending and four answers of the port, the places told
apart, at most 64 reports and one for each kind and subject. -/
def Block.LinkLaw (b : Block) : Prop :=
  b.pendingCount ≤ 4 ∧ b.answerCount ≤ 4
  ∧ (∀ e ∈ b.link.out, e.id < b.link.nextId) ∧ (b.link.out.Pairwise fun x y => x.id ≠ y.id)
  ∧ b.link.reports.length ≤ 64 ∧ b.link.reports.Pairwise fun x y => x.same y = false

/-- The write queue (R183): at most four, the one in progress among them; nothing waits while none is in progress; at most
one LOCK and one COUNTS write wait. -/
def Block.WriteLaw (b : Block) : Prop :=
  b.site.waiting.length + (if b.site.running.isSome then 1 else 0) ≤ 4
  ∧ (b.site.running = none → b.site.waiting = [])
  ∧ (b.site.waiting.filter fun w => w.kind == .lock).length ≤ 1
  ∧ (b.site.waiting.filter fun w => w.kind == .counts).length ≤ 1

/-- The three outputs (R182): released before the store is loaded, and afterwards asserted while their conditions
hold. -/
def Block.OutputsLaw (b : Block) : Prop :=
  if b.site.startup = .starting then b.site.beacon = false ∧ b.site.stow = false ∧ b.site.fault = false
  else b.site.beacon = b.beaconCond ∧ b.site.stow = b.stowCond ∧ b.site.fault = b.faultCond

/-- Safe marks and lock states (R144): from the load on, each mark stands as its target, and an entry is ENGAGED only
while every target it names is marked safe. -/
def Block.EngagedLaw (b : Block) : Prop :=
  b.site.startup ≠ .starting →
    (∀ d k, (b.lockout.axisSafe[d]).get k = b.axisSafeNow d k)
    ∧ (∀ d z, (b.lockout.zoneSafe[d]).get z = b.zoneSafeNow d z)
    ∧ ∀ e ∈ b.lockout.entries, e.engaged = b.entrySafe e

/-! ### Reset -/

/-- An axis record at the values of Table 1-1. -/
def Axis.AtReset (a : Axis) : Prop :=
  a.state = .offline ∧ a.stage = .none ∧ a.need = none ∧ a.intent = .hold ∧ a.order = .brake ∧ a.reported = none
  ∧ a.verify = decide (a.cfg.wear < a.releases) ∧ a.parkDue = none ∧ a.opDue = none ∧ a.holdDue = none ∧ a.lag = none
  ∧ a.lagOpen = false ∧ a.fault = none

/-- A dish record at the values of Tables 2-1 and 6-1. -/
def Dish.AtReset (x : Dish) : Prop :=
  x.mode = .idle ∧ x.group = none ∧ x.pendingReq = none ∧ x.parkReq = ⟨false, false⟩ ∧ x.clampOpen = false ∧ x.trims = 0
  ∧ x.context = none ∧ x.blocks = none ∧ x.intent = none ∧ x.deferred = false ∧ x.dwell = .stopped

/-- A zone record at the values of Table 7-1. -/
def Zone.AtReset (x : Zone) : Prop :=
  x.mode = .off ∧ x.purpose = .none ∧ x.rank = none ∧ x.demand = 0 ∧ x.duty = 0 ∧ x.temp = none ∧ x.commanded = false
  ∧ x.reported = none ∧ x.mismatch = none ∧ x.fault = false ∧ x.prewarm = none ∧ x.fullSecs = 0 ∧ x.meltMin = 0

/-- The level record at the values of Table 5-4, its weather second at R84's. -/
def Weather.AtReset (w : Weather) : Prop :=
  w.sec = 0 ∧ w.level = .watch ∧ w.force = false ∧ w.unknown = some 0 ∧ w.hold = .stopped ∧ w.watchHold = none
  ∧ w.cause = .reset ∧ w.changedSec = 0 ∧ w.changedTime = none

/-- A node entry at the values of Table 9-1. -/
def Node.AtReset (x : Node) : Prop :=
  x.reach = .unknown ∧ x.missA = 0 ∧ x.missB = 0 ∧ x.seq = 0 ∧ x.lastOrder = none ∧ x.lastStatus = none
  ∧ x.taken = 0 ∧ x.dups = 0 ∧ x.bads = 0

/-- A line record at the values of R154. -/
def LineRec.AtReset (x : LineRec) : Prop :=
  x.state = .up ∧ x.echoRun = 0 ∧ x.probeDue = none ∧ x.breakStart = none ∧ x.echoTotal = 0

/-- The values after reset that the manual states for the part still STARTING, with nothing yet loaded (Tables 1-1, 2-1, 3-1, 4-1, 5-1, 5-4, 6-1, 7-1, 8-1, 9-1; R34, R41,
R64, R66, R83, R84, R93, R102, R125, R138, R147, R150, R154, R168, R170, R174, R175, R179, R180, R182, R183, R185). -/
def Block.AtReset (b : Block) : Prop :=
  (∀ d k, (b.axis d k).AtReset ∧ b.claim d k = none ∧ b.axisLocks d k = 0)
  ∧ (∀ d, (b.dish d).AtReset ∧ b.queue d = [] ∧ b.move d = none ∧ b.cold d = false)
  ∧ b.points.free = 480
  ∧ (∀ g, b.group g = none)
  ∧ b.account.beff = b.account.breq ∧ b.account.waitq = [] ∧ b.account.stowq = []
  ∧ (∀ n, (b.wx n).warm = 0 ∧ (b.wx n).reading = none ∧ (b.wx n).faults = 0)
  ∧ b.weather.AtReset
  ∧ (∀ d z, (b.zone d z).AtReset ∧ b.zoneLocks d z = 0)
  ∧ b.heater.episode = false ∧ b.heater.clear = none ∧ b.heater.snowForce = false
  ∧ b.lockout.entries = []
  ∧ (∀ d : DishId, b.lockout.keys[d] = ⟨none, 0, 0⟩)
  ∧ (∀ (d : DishId) (k : AxisKind), (b.lockout.axisSafe[d]).get k = false)
  ∧ (∀ (d : DishId) (z : ZoneKind), (b.lockout.zoneSafe[d]).get z = false)
  ∧ (∀ r, (b.node r).AtReset)
  ∧ (∀ l, (b.line l).AtReset)
  ∧ b.link.rx = .hunt ∧ b.link.out = [] ∧ b.link.reports = [] ∧ b.link.lost = false ∧ b.link.tx = none
  ∧ b.link.counters = ⟨0, 0, 0, 0, 0, 0⟩ ∧ b.link.mask = 0xFFFFF
  ∧ b.site.clock = none ∧ b.site.estop = false ∧ b.site.marks.any = false
  ∧ b.site.beacon = false ∧ b.site.stow = false ∧ b.site.fault = false ∧ b.site.beaconSince = none
  ∧ b.site.startup = .starting ∧ b.site.running = none ∧ b.site.waiting = []

/-! ### Requests -/

/-- A request the link takes at once: READY, or one of the two requests answered in every start-up state; none waiting for
its owner, a free place, a tag (R169, R170, R172). -/
def State.takes (s : State) (c : Instr) : Prop :=
  s.block.LinkLaw ∧ (s.block.site.startup = .ready ∨ alwaysAnswered c = true) ∧ s.block.nextRequest = none ∧ s.block.pendingCount < 4
  ∧ ∃ t, c.tag? = some t ∧ t ≠ 0

/-- The blocks as the owner of a request just taken finds them: the request stands in the outgoing list (R170). -/
def State.found (s : State) (c : Instr) : Block :=
  let e : OutEntry :=
    { id := s.block.link.nextId, tag := c.tag?.getD 0, kind := BitVec.ofNat 8 ((kindOf c).getD 0), req := some c
      handed := true, reply := none, after := .nothing }
  { s.block with link := { s.block.link with out := s.block.link.out ++ [e], nextId := s.block.link.nextId + 1 } }

/-- The machine after the owner of a request just taken left the blocks as b and answered it (R170, R171). -/
def State.replies (s : State) (b : Block) (code : Code) (body : List Fld) (after : After := .nothing) : State :=
  s.ends (b.answer s.block.link.nextId code body after)

/-- The machine after a request just taken was refused: only its reply is made ready (R171). -/
def State.refuses (s : State) (c : Instr) (code : Code) : State := s.replies (s.found c) code []

/-- An outgoing reply stands ready under an entry's number (R170). -/
def State.hasReply (t : State) (id : Nat) (code : Code) (body : List Fld) : Prop :=
  ∃ e ∈ t.block.link.out, e.id = id ∧ e.reply = some ⟨code, body⟩

/-! ### Events -/

/-- The store has been read: the blocks' events act (R185). -/
def State.started (s : State) : Prop := s.block.site.startup ≠ .starting

end Sys2Proof.Machine
end

