-- ==== Sys2Proof/Certificates/Slice0/Obligations.lean ====
section
/-! DEFINITION. Obligations.lean: the statements for the provers, by the chapters of the manual. -/

open Sys2Proof Sys2Proof.Machine

/-! ### The machine -/

/-- A step takes the command at the front of the queue and is its meaning on the machine with the queue's rest; with no
command waiting one millisecond passes and nothing else changes (the latter is the model's choice, log 1). -/
def Obligations.FrontCommandRuns : Prop :=
  (∀ (s : State) (c : Instr) (rest : List Instr), s.pending = c :: rest →
    step s = exec c { s with pending := rest })
  ∧ ∀ s : State, s.pending = [] →
    let site := s.block.site
    step s = .next { s with block := { s.block with site := { site with
      tb := site.tb + 1, clock := site.clock.map fun c => (c + 1) % clockMod } } }

/-- The machine after power-on stands at the values the manual states for reset, with no command waiting, and every
law of the records holds of it. That B_req is 40,000 W and the floor 18,000 W before the store is loaded, on which the
law of the power account rests at this moment, is the model's choice (log 26). -/
def Obligations.ResetState : Prop :=
  State.reset.block.AtReset ∧ State.reset.pending = []
  ∧ State.reset.block.PointsLaw ∧ State.reset.block.AccountLaw ∧ State.reset.block.AccountSupport
  ∧ State.reset.block.LockLaw ∧ State.reset.block.LinkLaw ∧ State.reset.block.WriteLaw
  ∧ State.reset.block.OutputsLaw ∧ State.reset.block.EngagedLaw

/-- RESET brings every record, in any state, to the value after reset that its chapter states, keeps the configuration
store and the queue, and abandons a write. What the store gives is at its default until the load (log 26). -/
def Obligations.ResetCommand : Prop :=
  ∀ s : State, ∃ t, exec .reset s = .next t ∧ t.block.AtReset ∧ t.block.site.store = s.block.site.store
    ∧ t.pending = s.pending

/-- What the end of an event settles leaves the points, the weather, the field records, the budget asked for and its
floor, the cold flags, the snow record, the serving order, the keys, the receiver, the outgoing list, the site settings,
the clock, the latch and its marks, the store and its writes, and in each axis, dish and zone the fields named. -/
def Obligations.SettlingFrame : Prop :=
  ∀ b : Block,
    b.finish.points = b.points ∧ b.finish.weather = b.weather ∧ b.finish.field = b.field
    ∧ b.finish.account.breq = b.account.breq ∧ b.finish.account.floor = b.account.floor
    ∧ b.finish.heater.cold = b.heater.cold ∧ b.finish.heater.snowForce = b.heater.snowForce
    ∧ b.finish.heater.episode = b.heater.episode ∧ b.finish.heater.clear = b.heater.clear
    ∧ b.finish.heater.serving = b.heater.serving ∧ b.finish.heater.slot = b.heater.slot
    ∧ b.finish.lockout.next = b.lockout.next ∧ b.finish.lockout.keys = b.lockout.keys
    ∧ b.finish.link.rx = b.link.rx ∧ b.finish.link.rxBytes = b.link.rxBytes
    ∧ b.finish.link.counters = b.link.counters ∧ b.finish.link.rate = b.link.rate ∧ b.finish.link.out = b.link.out
    ∧ b.finish.link.nextId = b.link.nextId ∧ b.finish.link.mask = b.link.mask
    ∧ b.finish.site.cfg = b.site.cfg ∧ b.finish.site.clock = b.site.clock ∧ b.finish.site.tb = b.site.tb
    ∧ b.finish.site.estop = b.site.estop ∧ b.finish.site.marks = b.site.marks
    ∧ b.finish.site.startup = b.site.startup ∧ b.finish.site.store = b.site.store
    ∧ b.finish.site.running = b.site.running ∧ b.finish.site.waiting = b.site.waiting
    ∧ b.finish.site.storeFault = b.site.storeFault
    ∧ (∀ d k, (b.finish.axis d k).cfg = (b.axis d k).cfg ∧ (b.finish.axis d k).reported = (b.axis d k).reported
        ∧ (b.finish.axis d k).releases = (b.axis d k).releases ∧ (b.finish.axis d k).verify = (b.axis d k).verify
        ∧ (b.finish.axis d k).fault = (b.axis d k).fault ∧ (b.finish.axis d k).holdDue = (b.axis d k).holdDue)
    ∧ (∀ d, (b.finish.dish d).trims = (b.dish d).trims ∧ (b.finish.dish d).clampOpen = (b.dish d).clampOpen
        ∧ (b.finish.dish d).deferred = (b.dish d).deferred)
    ∧ ∀ d z, { b.finish.zone d z with
        duty := (b.zone d z).duty, commanded := (b.zone d z).commanded, mode := (b.zone d z).mode } = b.zone d z

/-! ### Laws every step keeps -/

/-- The point pool keeps its law through every step (R34). -/
def Obligations.StepsKeepPoints : Prop :=
  ∀ s t : State, s.block.PointsLaw → step s = .next t → t.block.PointsLaw

/-- The account keeps its law through every step, with what supports it (R70). -/
def Obligations.StepsKeepAccount : Prop :=
  ∀ s t : State, s.block.AccountLaw → s.block.AccountSupport → step s = .next t →
    t.block.AccountLaw ∧ t.block.AccountSupport

/-- The lockout table keeps its law through every step (R138 to R140, R143). -/
def Obligations.StepsKeepLocks : Prop :=
  ∀ s t : State, s.block.LockLaw → step s = .next t → t.block.LockLaw

/-- The queues of the link keep their law through every step (R170, R175). -/
def Obligations.StepsKeepLink : Prop :=
  ∀ s t : State, s.block.LinkLaw → step s = .next t → t.block.LinkLaw

/-- The write queue keeps its law through every step (R183). -/
def Obligations.StepsKeepWrites : Prop :=
  ∀ s t : State, s.block.WriteLaw → step s = .next t → t.block.WriteLaw

/-- After every command the outputs stand as their conditions, and a step of idle time keeps them so (R182). -/
def Obligations.StepsKeepOutputs : Prop :=
  ∀ s t : State, s.block.OutputsLaw → step s = .next t → t.block.OutputsLaw

/-- After every step the safe marks and the lock states stand as R144 gives. -/
def Obligations.StepsKeepEngaged : Prop :=
  ∀ s t : State, s.block.LockLaw → s.block.EngagedLaw → step s = .next t → t.block.EngagedLaw

/-! ### The control link (chapter 10) -/

/-- The frame of a well-formed request, received from HUNT, brings exactly that request to the port. -/
def Obligations.RequestFrameIsRead : Prop :=
  ∀ (s : State) (c : Instr) (frame : List Byte),
    c.wf = true → requestFrame c = some frame → s.block.link.rx = .hunt →
    exec (.linkFrameReceived frame) s = .next (s.ends ((s.block.setRx .hunt []).accept c))

/-- A frame received to its end is checked in the order of R169: a bad CRC and a tag of 0 are counted and discarded, an
unknown kind is answered UNKNOWN_REQUEST under kind 0xFF with an empty body, a wrong length BAD_LENGTH, and any other
frame is a request for the queue (R169; that a FORM_GROUP list of 0 or more than 12 items passes the length check, for
Table 3-3 to refuse, and an ADD_POINTS list outside 1 to 16 does not, is log 36's). -/
def Obligations.FrameChecks : Prop :=
  (∀ (b : Block) (bytes : List Byte),
    let tag : Tag := BitVec.ofNat 16 (beNat (slice bytes 3 2))
    let kind := byteAt bytes 2
    let body := slice bytes 5 (bytes.length - 7)
    (crcGood bytes = false → b.judgeFrame bytes = b.count fun c => { c with crc := bump16 c.crc })
    ∧ (crcGood bytes = true → tag = 0 → b.judgeFrame bytes = b.count fun c => { c with tag := bump16 c.tag })
    ∧ (crcGood bytes = true → tag ≠ 0 → kind ∉ requestKinds →
        b.judgeFrame bytes = b.portAnswer tag (BitVec.ofNat 8 kind) .unknownRequest)
    ∧ (crcGood bytes = true → tag ≠ 0 → kind ∈ requestKinds → lengthOk kind body = false →
        b.judgeFrame bytes = b.portAnswer tag (BitVec.ofNat 8 kind) .badLength)
    ∧ (crcGood bytes = true → tag ≠ 0 → kind ∈ requestKinds → lengthOk kind body = true →
        ∃ c, readRequest kind tag body = some c ∧ b.judgeFrame bytes = b.accept c))
  ∧ ∀ e : OutEntry, e.reply = some ⟨.unknownRequest, []⟩ → e.frame = 0xA5#8 :: linkFrame 0xFF#8 e.tag [0x10#8]

/-- The receiver by its states: the start byte, a gap, a byte error, a long length (R168). -/
def Obligations.ReceiverStates : Prop :=
  ∀ s : State,
    (s.block.link.rx = .hunt →
      exec .linkStartByte s = .next (s.ends (s.block.setRx .header []))
      ∧ exec .linkGapTimeout s = .next (s.ends s.block)
      ∧ ∀ why, exec (.linkByteError why) s = .next (s.ends s.block))
    ∧ (s.block.link.rx ≠ .hunt →
      exec .linkGapTimeout s
        = .next (s.ends ((s.block.count fun c => { c with gap := bump16 c.gap }).setRx .hunt []))
      ∧ exec (.linkByteError .framing) s
        = .next (s.ends ((s.block.count fun c => { c with framing := bump16 c.framing }).setRx .hunt []))
      ∧ exec (.linkByteError .length) s
        = .next (s.ends ((s.block.count fun c => { c with length := bump16 c.length }).setRx .hunt [])))
    ∧ ∀ n x : Byte, s.block.link.rx = .header → s.block.link.rxBytes = [n] → 1024 < beNat [n, x] →
      exec (.linkFrameReceived [x]) s
        = .next (s.ends ((s.block.count fun c => { c with length := bump16 c.length }).setRx .hunt []))

/-- The transmitter, when free, begins the oldest reply made ready, else the report at the head, which takes the lost
mark with it; the last byte of a frame frees it, and a reply's place with it, and what follows that reply is then
done: nothing, the new rate with a partial frame abandoned as for a gap, or the reset (R167, R170, R172, R175, R176).
That the event is without effect where no frame is being sent is the model's choice (log 2), and so is the one
outgoing list (log 10). -/
def Obligations.TransmitterSends : Prop :=
  (∀ b : Block,
    (b.link.tx ≠ none → b.kick = b)
    ∧ (∀ e, b.link.tx = none → (b.link.out.find? fun x => x.reply.isSome) = some e →
        b.kick = { b with link := { b.link with tx := some (.reply e.id) } })
    ∧ (∀ r rs, b.link.tx = none → (b.link.out.all fun x => x.reply.isNone) = true → b.link.reports = r :: rs →
        b.kick = { b with link := { b.link with tx := some (.report r b.link.lost), reports := rs, lost := false } })
    ∧ (b.link.tx = none → (b.link.out.all fun x => x.reply.isNone) = true → b.link.reports = [] → b.kick = b))
  ∧ ∀ s : State,
    (s.block.link.tx = none → exec .linkFrameSent s = .next (s.ends s.block))
    ∧ (∀ r lost, s.block.link.tx = some (.report r lost) →
      exec .linkFrameSent s = .next (s.ends { s.block with link := { s.block.link with tx := none } }))
    ∧ ∀ id e, s.block.link.tx = some (.reply id) → (s.block.link.out.find? fun x => x.id == id) = some e →
      let left := s.block.link.out.filter fun x => x.id != id
      let freed := { s.block with link := { s.block.link with tx := none, out := left } }
      (e.after = .nothing → exec .linkFrameSent s = .next (s.ends freed))
      ∧ (∀ r, e.after = .setRate r →
          exec .linkFrameSent s
            = .next (s.ends (({ freed with link := { freed.link with rate := r } }).abandon countGap)))
      ∧ (e.after = .softReset → exec .linkFrameSent s = .next (s.ends (Block.afterReset s.block.site.store)))

/-- A report sent under an enabled kind replaces a queued one of its kind and subject in place, keeping the previous
state that one names, or joins at the tail, or drops the oldest and sets the lost mark; a disabled kind leaves no trace
(R174, R175). -/
def Obligations.ReportJoinsTheQueue : Prop :=
  ∀ (b : Block) (kind : RepKind) (n : Nat) (pre post : List Fld) (prev : Option Fld),
    let r : Report := { kind := kind, subject := n, time := b.site.clock.getD 0, pre := pre, prev := prev, post := post }
    let put := fun (q : List Report) (lost : Bool) => { b with link := { b.link with reports := q, lost := lost } }
    (b.link.mask.getLsbD kind.bit = false → b.report kind n pre prev post = b)
    ∧ (b.link.mask.getLsbD kind.bit = true →
        ((∃ x ∈ b.link.reports, x.kind = kind ∧ x.subject = n) →
          b.report kind n pre prev post
            = put (b.link.reports.map fun x =>
                if x.kind = kind ∧ x.subject = n then { r with prev := x.prev } else x) b.link.lost)
        ∧ ((∀ x ∈ b.link.reports, ¬(x.kind = kind ∧ x.subject = n)) →
          (b.link.reports.length < 64 → b.report kind n pre prev post = put (b.link.reports ++ [r]) b.link.lost)
          ∧ (64 ≤ b.link.reports.length → b.report kind n pre prev post = put (b.link.reports.tail ++ [r]) true)))

/-- A request that arrives before READY is answered NOT_READY by the port, but for IDENTIFY and GET_STATUS; while four
are pending it is answered BUSY; either way nothing else changes (R170, R172). Any other joins the queue, not yet
handed. Each request has one owner: taken with none waiting it is handed to it at once; while another waits first, a
request joins behind it (one with tag 0 is no request, R169), and the command of the one that waits first hands that
one to its owner, who answers it then or later (R170; that commands hand so is log 3's). -/
def Obligations.PortAnswersForOwners : Prop :=
  ∀ (b : Block) (c : Instr),
    let tag := c.tag?.getD 0
    let kind := BitVec.ofNat 8 ((kindOf c).getD 0)
    (4 ≤ b.pendingCount → b.accept c = b.portAnswer tag kind .busy)
    ∧ (b.pendingCount < 4 → b.site.startup ≠ .ready → alwaysAnswered c = false →
        b.accept c = b.joinOut tag kind (some c) (some ⟨.notReady, []⟩))
    ∧ (b.pendingCount < 4 → b.site.startup = .ready ∨ alwaysAnswered c = true →
        let e : OutEntry := { id := b.link.nextId, tag := tag, kind := kind, req := some c, handed := false
                              reply := none, after := .nothing }
        b.accept c = { b with link := { b.link with out := b.link.out ++ [e], nextId := b.link.nextId + 1 } })
    ∧ (kindOf c ≠ none → ∃ own : Nat → Block → Answered, ∀ s : State,
        let answered := fun (r : Answered) (id : Nat) => match r.2 with
          | some (a, after) => s.ends (r.1.answer id a.code a.body after)
          | none => s.ends r.1
        (s.takes c → exec c s = .next (answered (own s.block.link.nextId (s.found c)) s.block.link.nextId))
        ∧ ∀ e, s.block.nextRequest = some e →
          (e.req ≠ some c → tag ≠ 0 → exec c s = .next (s.ends (s.block.accept c)))
          ∧ (e.req = some c →
            let out := s.block.link.out.map fun x => if x.id = e.id then { x with handed := true } else x
            exec c s = .next (answered (own e.id { s.block with link := { s.block.link with out := out } }) e.id)))
    ∧ (b.answerCount < 4 → ∀ code, b.portAnswer tag kind code = b.joinOut tag kind none (some ⟨code, []⟩))
    ∧ (4 ≤ b.answerCount → ∀ code,
        b.portAnswer tag kind code = b.count fun x => { x with overrun := bump16 x.overrun })

/-- IDENTIFY, GET_STATUS, GET_BUDGET, GET_WEATHER, LIST_LOCKS and GET_GROUP are answered OK with what stands, and
change nothing but their reply; the first two in every start-up state, STARTING and DISCOVERING among them, the others
in READY (R172; which requests s.takes takes). GET_STATUS has a section for every number 0 to 5, those of a dish for
every dish 1 to 12, and is refused with BAD_VALUE for any other (that a per-dish section naming no dish is, and the
other sections look at none, is log 28's; R45, R80, R101, R149, R173). -/
def Obligations.QueriesAnswer : Prop :=
  (∀ (s : State) (tag : Tag), s.block.LinkLaw → s.block.nextRequest = none → s.block.pendingCount < 4 → tag ≠ 0 →
    s.takes (.identify tag) ∧ ∀ (sect : Nat) (dish : Option Nat), s.takes (.getStatus tag sect dish))
  ∧ ∀ (s : State) (tag : Tag),
    (s.takes (.identify tag) →
      exec (.identify tag) s = .next (s.replies (s.found (.identify tag)) .ok s.block.identity))
    ∧ (∀ (sect : Nat) (dish : Option Nat), s.takes (.getStatus tag sect dish) →
        let f := s.found (.getStatus tag sect dish)
        let valid := sect = 0 ∨ sect = 4 ∨ sect = 5 ∨ (1 ≤ sect ∧ sect ≤ 3 ∧ ∃ n, dish = some n ∧ 1 ≤ n ∧ n ≤ 12)
        (valid → ∃ fs, f.statusSection sect dish = some fs
          ∧ exec (.getStatus tag sect dish) s = .next (s.replies f .ok fs))
        ∧ (¬valid → exec (.getStatus tag sect dish) s = .next (s.refuses (.getStatus tag sect dish) .badValue)))
    ∧ (s.takes (.getBudget tag) →
        exec (.getBudget tag) s = .next (s.replies (s.found (.getBudget tag)) .ok s.block.budgetReply))
    ∧ (s.takes (.getWeather tag) →
        exec (.getWeather tag) s = .next (s.replies (s.found (.getWeather tag)) .ok s.block.weatherReply))
    ∧ (∀ cursor, s.takes (.listLocks tag cursor) →
        exec (.listLocks tag cursor) s
          = .next (s.replies (s.found (.listLocks tag cursor)) .ok (s.block.lockReply cursor)))
    ∧ ∀ n, s.takes (.getGroup tag n) →
        (groupOf n = none → exec (.getGroup tag n) s = .next (s.refuses (.getGroup tag n) .badValue))
        ∧ ∀ g, groupOf n = some g →
          (s.block.group g = none → exec (.getGroup tag n) s = .next (s.refuses (.getGroup tag n) .noSuch))
          ∧ ∀ x, s.block.group g = some x →
            exec (.getGroup tag n) s = .next (s.replies (s.found (.getGroup tag n)) .ok (Group.fields g x))

/-- A page of LIST_LOCKS holds at most eight entries at or above the cursor in ascending order, none between them left
out, and its next cursor is the last number plus one where entries above it remain, 0 otherwise (R149). -/
def Obligations.LockPages : Prop :=
  ∀ (b : Block) (cursor : Nat), b.LockLaw →
    let page := b.lockPage cursor
    page.length ≤ 8
    ∧ (∀ e ∈ page, e ∈ b.lockout.entries ∧ cursor ≤ e.num)
    ∧ (page.Pairwise fun x y => x.num < y.num)
    ∧ (∀ e ∈ b.lockout.entries, cursor ≤ e.num → (page.length < 8 ∨ ∃ x ∈ page, e.num ≤ x.num) → e ∈ page)
    ∧ (page = [] → b.nextCursor page = 0)
    ∧ ∀ e, page.getLast? = some e →
        ((∃ x ∈ b.lockout.entries, e.num < x.num) → b.nextCursor page = e.num + 1)
        ∧ ((∀ x ∈ b.lockout.entries, x.num ≤ e.num) → b.nextCursor page = 0)

/-- SET_REPORT_MASK puts its twenty enables in force, which is all it changes, and answers them; a bit beyond the
twentieth is refused with BAD_VALUE (R174). SOFT_RESET is answered OK, with the reset to follow its reply, when no other
request is pending, and BUSY otherwise (R172). -/
def Obligations.PortRequests : Prop :=
  (∀ (s : State) (tag : Tag) (mask : BitVec 32), s.takes (.setReportMask tag mask) →
    let f := s.found (.setReportMask tag mask)
    (mask.toNat < 2 ^ 20 → ∃ m : BitVec 20,
      (∀ n, n < 20 → m.getLsbD n = mask.getLsbD n)
      ∧ exec (.setReportMask tag mask) s
        = .next (s.replies { f with link := { f.link with mask := m } } .ok [f4 mask.toNat]))
    ∧ (2 ^ 20 ≤ mask.toNat →
        exec (.setReportMask tag mask) s = .next (s.refuses (.setReportMask tag mask) .badValue)))
  ∧ ∀ (s : State) (tag : Tag), s.takes (.softReset tag) →
    (s.block.pendingCount = 0 →
      exec (.softReset tag) s = .next (s.replies (s.found (.softReset tag)) .ok [] .softReset))
    ∧ (0 < s.block.pendingCount → exec (.softReset tag) s = .next (s.refuses (.softReset tag) .busy))

/-! ### Settings, the clock and the store (chapters 1, 4, 7, 9 and 11) -/

/-- The parameters of CONFIG_AXIS are taken exactly within the ranges of Table 1-2 and under the conditions of R2, and the
settings of CONFIG_SITE exactly within the ranges of Tables 5-5 and 6-8 and of R79, R126, R167 and R182, each release
threshold below its entry threshold and each watch threshold at or below its stow threshold (R100). -/
def Obligations.ParameterRanges : Prop :=
  (∀ (p : AxisParams) (k : AxisKind), axisParamsOk p k = true ↔
    (1 ≤ p.v ∧ p.v ≤ 20000) ∧ (1 ≤ p.a ∧ p.a ≤ 20000) ∧ p.pmax ≤ 30000 ∧ p.phold ≤ 5000 ∧ p.ptrack ≤ 10000
    ∧ p.pstow ≤ 30000 ∧ (1 ≤ p.parkDelay ∧ p.parkDelay ≤ 600) ∧ (1000 ≤ p.wear ∧ p.wear ≤ 1000000)
    ∧ (1 ≤ p.tol ∧ p.tol ≤ 1000) ∧ (1 ≤ p.lagTol ∧ p.lagTol ≤ 10000) ∧ p.lo < p.hi ∧ p.phold ≤ p.ptrack
    ∧ (k = .az → -270000 ≤ p.lo ∧ p.hi ≤ 270000 ∧ p.stowRate = 0 ∧ p.pstow = 0)
    ∧ (k = .el → 0 ≤ p.lo ∧ p.hi ≤ 90000 ∧ (14 ≤ p.stowRate ∧ p.stowRate ≤ 20000) ∧ p.lo ≤ 15000 ∧ 89000 ≤ p.hi))
  ∧ ∀ p : SiteParams, siteParamsOk p = true ↔
    p.policy ≤ 1 ∧ p.hmin ≤ 200000
    ∧ (1 ≤ p.stowMean ∧ p.stowMean ≤ 750) ∧ (1 ≤ p.stowGust ∧ p.stowGust ≤ 750)
    ∧ (1 ≤ p.watchMean ∧ p.watchMean ≤ 750) ∧ (1 ≤ p.watchGust ∧ p.watchGust ≤ 750)
    ∧ p.relMean ≤ 749 ∧ p.relGust ≤ 749 ∧ p.watchRelMean ≤ 749 ∧ p.watchRelGust ≤ 749
    ∧ p.relMean < p.stowMean ∧ p.relGust < p.stowGust ∧ p.watchRelMean < p.watchMean ∧ p.watchRelGust < p.watchGust
    ∧ p.watchMean ≤ p.stowMean ∧ p.watchGust ≤ p.stowGust
    ∧ (1 ≤ p.quorum ∧ p.quorum ≤ 8) ∧ (1 ≤ p.warmTarget ∧ p.warmTarget ≤ 50)
    ∧ (1 ≤ p.lifetime ∧ p.lifetime ≤ 127) ∧ (10 ≤ p.grace ∧ p.grace ≤ 600)
    ∧ (60 ≤ p.relHold ∧ p.relHold ≤ 7200) ∧ (0 ≤ p.watchMinEl ∧ p.watchMinEl ≤ 89000)
    ∧ p.resume ≤ 1 ∧ p.autoShed ≤ 1 ∧ (1 ≤ p.shedThreshold ∧ p.shedThreshold ≤ 600)
    ∧ (10 ≤ p.shedDwell ∧ p.shedDwell ≤ 3600) ∧ p.autoPrewarm ≤ 1
    ∧ (p.rate = 57600 ∨ p.rate = 115200 ∨ p.rate = 230400 ∨ p.rate = 460800)
    ∧ p.polBeacon ≤ 1 ∧ p.polStow ≤ 1 ∧ p.polFault ≤ 1 ∧ p.drvBeacon ≤ 1 ∧ p.drvStow ≤ 1 ∧ p.drvFault ≤ 1
    ∧ p.polEstop ≤ 1 ∧ (p.deglitch = 0 ∨ p.deglitch = 1 ∨ p.deglitch = 2 ∨ p.deglitch = 4) ∧ p.warn ≤ 30

/-- CONFIG_AXIS taken puts every parameter in force for that axis, judges its verify flag with a WEAR report when it
becomes set, recomputes the floor and raises B_req to it, and is answered OK; otherwise it is refused and nothing changes
(R2, R10, R67; where more than one refusal holds the order is log 33's). -/
def Obligations.ConfigAxisTakesEffect : Prop :=
  ∀ (s : State) (tag : Tag) (subj : Nat) (p : AxisParams), s.takes (.configAxis tag subj p) →
    let c : Instr := .configAxis tag subj p
    let f := s.found c
    (axisOf subj = none → exec c s = .next (s.refuses c .badValue))
    ∧ ∀ d k, axisOf subj = some (d, k) →
      let a := s.block.axis d k
      let free := a.state = .offline ∨ a.state = .locked ∨ a.state = .faulted ∨ (a.state = .braked ∧ a.stage = .none)
      (¬free → exec c s = .next (s.refuses c .state))
      ∧ (free → axisParamsOk p k = false → exec c s = .next (s.refuses c .badValue))
      ∧ (free → axisParamsOk p k = true →
          let worn := decide (p.wear < a.releases)
          let put := f.setAxis d k { a with cfg := axisParamsCfg p, verify := worn }
          let told := if worn = true ∧ a.verify = false then put.tell .wear (axisNum d k) [f4 a.releases] else put
          exec c s = .next (s.replies told.recomputeFloor .ok []))

/-- CONFIG_ZONE taken puts its parameters in force for that zone alone, touches no allotment by itself, and is answered
OK; a value out of range, an unconfigured dish and a zone with duty are refused and nothing changes (R122; where more
than one refusal holds the order is log 33's). -/
def Obligations.ConfigZoneTakesEffect : Prop :=
  ∀ (s : State) (tag : Tag) (subj : Nat) (p : ZoneParams), s.takes (.configZone tag subj p) →
    let c : Instr := .configZone tag subj p
    (zoneOf subj = none → exec c s = .next (s.refuses c .badValue))
    ∧ ∀ d z, zoneOf subj = some (d, z) →
      let inRange := p.rated ≤ 20000 ∧ (-400 ≤ p.setpoint ∧ p.setpoint ≤ 300) ∧ (1 ≤ p.step ∧ p.step ≤ 100)
        ∧ p.autoMelt ≤ 1 ∧ (z = .drive → p.autoMelt = 0)
      let cfg : ZoneCfg :=
        { rated := p.rated, setpoint := p.setpoint, step := p.step.toNat, autoMelt := p.autoMelt == 1 }
      (¬inRange → exec c s = .next (s.refuses c .badValue))
      ∧ (inRange → s.block.configured d = false → exec c s = .next (s.refuses c .noSuch))
      ∧ (inRange → s.block.configured d = true → 0 < (s.block.zone d z).duty →
          exec c s = .next (s.refuses c .state))
      ∧ (inRange → s.block.configured d = true → (s.block.zone d z).duty = 0 →
          exec c s = .next (s.replies ((s.found c).setZone d z { s.block.zone d z with cfg := cfg }) .ok []))

/-- CONFIG_SITE within its ranges puts every setting in force in its event and is answered OK, a changed link rate
following the reply's last byte; otherwise it is refused with BAD_VALUE and nothing changes (R167, R182). New settings
that leave the policy, H_min, the shed setting, the quorum, the warm target and the weather settings as they were
change nothing else. A changed policy or H_min calls for an examination and does nothing else by itself (R79). The shed
setting turned off clears every shed deferral (R113). A changed quorum has the site figures recomputed; a lowered warm
target makes each WARMING entry ACTIVE that holds a reading and has the count, with its report and the figures
recomputed, a count above the new target standing (log 39); and last, where a weather setting changed, the level is
evaluated (R100), which keeps and stops the timers as OtherTimers says; in this order (log 21). -/
def Obligations.ConfigSiteTakesEffect : Prop :=
  ∀ (s : State) (tag : Tag) (p : SiteParams), s.takes (.configSite tag p) →
    let c : Instr := .configSite tag p
    let f := s.found c
    let old := s.block.site.cfg
    let new := siteParamsCfg p
    let after : After := if new.rate = old.rate then .nothing else .setRate new.rate
    (siteParamsOk p = false → exec c s = .next (s.refuses c .badValue))
    ∧ (siteParamsOk p = true →
        exec c s = .next (s.replies (f.configureSite new) .ok [] after)
        ∧ (f.configureSite new).site.cfg = new
        ∧ (f.configureSite new).link.rate = s.block.link.rate
        ∧ (new.policy = old.policy → new.hmin = old.hmin → new.autoShed = old.autoShed →
            wxSettingFields new = wxSettingFields old → new.quorum = old.quorum → new.warmTarget = old.warmTarget →
            f.configureSite new = { f with site := { f.site with cfg := new } })
        ∧ (let u := f.configureSite new
           let put := { f with site := { f.site with cfg := new } }
           let called := { put with account := { put.account with examineDue := true } }
           let asked := if new.policy ≠ old.policy ∨ new.hmin ≠ old.hmin then called else put
           let off := old.autoShed = true ∧ new.autoShed = false
           let cleared := if off then
             allDishes.foldl (fun t d => t.setDish d { t.dish d with deferred := false }) asked else asked
           let counted := if new.quorum ≠ old.quorum then cleared.figuresChanged else cleared
           let ripe := fun (e : WxEntry) => e.state = .warming ∧ e.reading ≠ none ∧ new.warmTarget ≤ e.warm
           let warmed := fun (t : Block) (n : WeatherId) =>
             if ripe (t.wx n) then ((t.setWx n { t.wx n with state := .active }).tellWx n .warmed).figuresChanged else t
           let ready := if new.warmTarget < old.warmTarget then allWeather.foldl warmed counted else counted
           (wxSettingFields new = wxSettingFields old → u = ready)
           ∧ (wxSettingFields new ≠ wxSettingFields old → u = ready.evaluate)
           ∧ (wxSettingFields new = wxSettingFields old → new.quorum = old.quorum → new.warmTarget = old.warmTarget →
             new.policy ≠ old.policy ∨ new.hmin ≠ old.hmin → ¬off → u = called)
           ∧ (off → ∀ d, (u.dish d).deferred = false)
           ∧ ∀ n, u.wx n = if new.warmTarget < old.warmTarget ∧ ripe (s.block.wx n) then
             { s.block.wx n with state := .active } else s.block.wx n))

/-- CONFIG_LINES within its ranges puts the echo delays in force at once and the polarities for the next cycle, makes
the configured set the one carried, recomputes the floor, and is answered OK; where the set stays as it is nothing else
changes. A successor that waits begins where no visit of its cycle is left (R155). Otherwise it is refused with
BAD_VALUE and nothing changes (R154, R166; the flag bytes are log 18's). Each cabinet whose membership changes is
treated in ascending order (log 21). One added has its node as R166 gives, and under STOW its dish, whose axes are
OFFLINE, is STOW_BLOCKED (also from STOWED: log 36), otherwise its dish and axes stand. One removed is first
UNREACHABLE where it was heard, then its node is UNKNOWN and out of the cycle, its stop mark clear, its pre-warm
request gone, and its lock entries stand (R166, R180); a node that leaves the cycle has the change of its reach to
UNKNOWN reported (R161), with its counts at 0, and is not visited in what is left of the cycle (log 22). The zones of a
dish not configured are OFF (R121; a faulted one too, log 36). -/
def Obligations.ConfigLinesTakesEffect : Prop :=
  (∀ (s : State) (tag : Tag) (p : LinesParams), s.takes (.configLines tag p) →
    let c : Instr := .configLines tag p
    let f := s.found c
    let inRange := (1 ≤ p.delayA ∧ p.delayA ≤ 63) ∧ (1 ≤ p.delayB ∧ p.delayB ≤ 63) ∧ p.polA ≤ 1 ∧ p.polB ≤ 1
    let named := fun (d : DishId) => p.cabinets[d.val]? == some 1
    let turn := fun (x : LineRec) (pol : Nat) => if (pol == 1) = x.inverted then Option.none else some (pol == 1)
    let lineA := { s.block.line .a with delay := p.delayA, newPol := turn (s.block.line .a) p.polA }
    let lineB := { s.block.line .b with delay := p.delayB, newPol := turn (s.block.line .b) p.polB }
    let put := (f.setLine .a lineA).setLine .b lineB
    let u := put.swapCabinets named
    (¬inRange → exec c s = .next (s.refuses c .badValue))
    ∧ (inRange → exec c s = .next (s.replies u.nextCycle .ok [])
        ∧ u.line .a = lineA ∧ u.line .b = lineB
        ∧ (∀ d, u.configured d = named d)
        ∧ (s.block.account.floor = s.block.floorOf → u.account.floor = u.floorOf)
        ∧ ((∀ d, s.block.configured d = named d) → u = put)))
  ∧ (∀ (b : Block) (want : DishId → Bool), b.swapCabinets want = allDishes.foldl (fun t d =>
      if want d = t.configured d then t else if want d = true then t.addCabinet d else t.removeCabinet d) b)
  ∧ (∀ (b : Block) (r : NodeRef),
    let x := b.node r
    let new := { x with reach := .unknown, missA := 0, missB := 0, lastStatus := none }
    let t := if x.reach = .unknown then b.setNode r new
      else (b.setNode r new).report .nodeReach (nodeNum r) [f1 Reach.unknown.ctorIdx] (some (f1 x.reach.ctorIdx))
        [f1 0, f1 0]
    b.leaveCycle r = { t with field := { t.field with todo := t.field.todo.filter fun q => q != r } })
  ∧ ∀ (b : Block) (d : DishId),
    let x := b.node (.cab d)
    (let u := b.addCabinet d
     let offline := ∃ k, (b.axis d k).state = .offline
     u.configured d = true ∧ (∀ e, e ≠ d → u.configured e = b.configured e) ∧ u.account.floor = u.floorOf
     ∧ u.node (.cab d) = { x with
         reach := .unknown, missA := 0, missB := 0, seq := 0, lastOrder := none, lastStatus := none }
     ∧ (∀ r, r ≠ .cab d → u.node r = b.node r)
     ∧ (b.weather.level = .stow → offline → (u.dish d).mode = .stowBlocked ∧ (u.dish d).blocks = some (b.blockReasons d)
       ∧ (b.blockReasons d).offline = true ∧ (b.move d = none → u.axes = b.axes))
     ∧ (b.weather.level ≠ .stow → u.dishes = b.dishes ∧ u.axes = b.axes)
     ∧ ∀ z, (u.zone d z).mode = (if (b.zone d z).fault = true then .fault else .off))
    ∧ (let u := b.removeCabinet d
       let lost := b.setReach (.cab d) .unreachable
       let heard := x.reach = .reachable ∨ x.reach = .degraded
       let after := if x.reach = .reachable ∨ x.reach = .degraded then lost else b
       let gone := ((after.leaveCycle (.cab d)).setConfigured d false).rederiveBoth d
       u = ((gone.setZone d .drive { gone.zone d .drive with prewarm := none }).setMark (.cabinet d) false).recomputeFloor
       ∧ u.configured d = false ∧ (∀ e, e ≠ d → u.configured e = b.configured e) ∧ u.account.floor = u.floorOf
       ∧ u.node (.cab d) = { x with reach := .unknown, missA := 0, missB := 0, lastStatus := none }
       ∧ (∀ r, r ≠ .cab d → u.node r = b.node r) ∧ .cab d ∉ u.field.todo
       ∧ u.lockout.entries = b.lockout.entries ∧ u.site.marks.get (.cabinet d) = false
       ∧ u.axes = after.axes ∧ u.dishes = after.dishes
       ∧ (heard → ∀ k, (u.axis d k).state = .offline ∧ (u.axis d k).need = none)
       ∧ (∀ z, (u.zone d z).mode = .off) ∧ (u.zone d .drive).prewarm = none)

/-- SAVE_CONFIG asks for a FULL write of all that stands, which begins at once when none is in progress and none waits; it
is met by a FULL write already waiting, or waits last; its reply waits for the write; with no room it is answered
STORE_FAULT (R183, R184) and the store fault is set, which is the model's reading (log 17, from STORE_WRITE_FAILURE of
95_what_each_step_holds.md: a write 'unable to be queued' sets it). -/
def Obligations.SaveConfigAsksForAWrite : Prop :=
  ∀ (s : State) (tag : Tag), s.takes (.saveConfig tag) →
    let f := s.found (.saveConfig tag)
    let id := s.block.link.nextId
    let ask : WriteReq := ⟨.full, [], [id]⟩
    let run : WriteRun :=
      { req := ask, image := some s.block.imageNow, locks := some s.block.linkLocks, counts := some s.block.countsNow }
    let joined := s.block.site.waiting.map fun w => if w.kind = .full then { w with saves := w.saves ++ [id] } else w
    let failed := { f with site := { f.site with storeFault := true } }
    (s.block.site.running = none → s.block.site.waiting = [] →
      exec (.saveConfig tag) s = .next (s.ends { f with site := { f.site with running := some run } }))
    ∧ (s.block.waitsWrite .full = true →
      exec (.saveConfig tag) s = .next (s.ends { f with site := { f.site with waiting := joined } }))
    ∧ (s.block.waitsWrite .full = false → s.block.writeRoom = true → s.block.site.running ≠ none →
      exec (.saveConfig tag) s
        = .next (s.ends { f with site := { f.site with waiting := s.block.site.waiting ++ [ask] } }))
    ∧ (s.block.waitsWrite .full = false → s.block.writeRoom = false →
      exec (.saveConfig tag) s = .next (s.replies (failed.tellStoreFault (some .full) []) .storeFault []))

/-- A write that ends good replaces the parts of the store it carries and the checksum, which is then good (what the
parts that no write has replaced hold is log 16's); one that fails its read-back leaves the content and its checksum
and sets the store fault; the fault is cleared by a good FULL write alone; the next write begins; the axes, dishes,
points, planner, account, weather, heaters and field lines are not touched (R183, R184). A good write that carries the
LINK entries sets the stored flag of each it carried, and a failed one leaves the entries as they are (R143). Either
brings the replies that wait on it: PLACE_LOCK's OK with the number, the state and the stored flag of its entry,
REMOVE_LOCK's OK with one flag, set where the removal is stored (both forms in the corners of log 42), SAVE_CONFIG's
OK or STORE_FAULT (R143, R184). A reply that does not wait on it stands. With no write in progress the event is
without effect (the model's choice, log 2). -/
def Obligations.StoreWriteEnds : Prop :=
  ∀ (s : State) (ok : Bool), s.started →
    (s.block.site.running = none → exec (.storeWriteDone ok) s = .next (s.ends s.block))
    ∧ ∀ w, s.block.site.running = some w →
      let u := s.block.writeDone ok
      let out := s.block.link.out
      let entries := s.block.lockout.entries
      exec (.storeWriteDone ok) s = .next (s.ends u)
      ∧ (ok = true →
        u.site.store.image = w.image.getD s.block.site.store.image
        ∧ u.site.store.locks = w.locks.getD s.block.site.store.locks
        ∧ u.site.store.counts = w.counts.getD s.block.site.store.counts
        ∧ u.site.store.good = true
        ∧ u.site.storeFault = (s.block.site.storeFault && w.req.kind != .full))
      ∧ (ok = false → u.site.store = s.block.site.store ∧ u.site.storeFault = true)
      ∧ (s.block.site.waiting = [] → u.site.running = none)
      ∧ (∀ r rest, s.block.site.waiting = r :: rest → ∃ v, u.site.running = some v ∧ v.req.kind = r.kind)
      ∧ u.axes = s.block.axes ∧ u.dishes = s.block.dishes ∧ u.points = s.block.points
      ∧ u.planner = s.block.planner ∧ u.account = s.block.account ∧ u.weather = s.block.weather
      ∧ u.heater = s.block.heater ∧ u.field = s.block.field
      ∧ (∀ ls, ok = true → w.locks = some ls → u.lockout.entries = entries.map fun e =>
          if e.key = false ∧ e.num ∈ ls.map (·.num) then { e with stored := true } else e)
      ∧ (ok = false ∨ w.locks = none → u.lockout.entries = entries)
      ∧ u.link.out.map (·.id) = out.map (·.id)
      ∧ (∀ o ∈ out, o.id ∉ w.req.locks.map (·.id) → o.id ∉ w.req.saves → o ∈ u.link.out)
      ∧ ((w.req.locks.map (·.id) ++ w.req.saves).Nodup → ∀ o ∈ out,
        let answered := fun (code : Code) (body : List Fld) => { o with reply := some ⟨code, body⟩, after := .nothing } ∈ u.link.out
        (∀ a ∈ w.req.locks, a.id = o.id →
          (a.place = true →
            (∀ e, u.lockEntry a.num = some e → answered .ok [f2 a.num, fb e.engaged, fb e.stored])
            ∧ (u.lockEntry a.num = none → answered .ok [f2 a.num, fb false, fb false]))
          ∧ (a.place = false → answered .ok [fb ok]))
        ∧ (o.id ∈ w.req.saves → answered (if ok = true then .ok else .storeFault) []))

/-- SET_TIME within 48 bits sets the clock and realigns the next tick and the next cycle to it, changes nothing else
(that a successor waiting for an overrunning cycle goes on waiting is the model's choice, log 22), and answers the
previous value or its absence; a value above 48 bits is refused (R84, R155, R179). -/
def Obligations.SetTimeSetsTheClock : Prop :=
  ∀ (s : State) (tag : Tag) (ms : Nat), s.takes (.setTime tag ms) →
    let f := s.found (.setTime tag ms)
    let tick := s.block.site.tb + min (1000 - ms % 1000) (2 ^ 48 - ms)
    let cycle := s.block.site.tb + min (100 - ms % 100) (2 ^ 48 - ms)
    let set := { f with
      site := { f.site with clock := some ms }
      weather := { f.weather with tickDue := tick }
      field := { f.field with cycleDue := cycle } }
    (ms < 2 ^ 48 →
      exec (.setTime tag ms) s = .next (s.replies set .ok
        (match s.block.site.clock with
          | some c => [f1 1, f6 c]
          | none => [f1 0, f6 0])))
    ∧ (2 ^ 48 ≤ ms → exec (.setTime tag ms) s = .next (s.refuses (.setTime tag ms) .badValue))

/-- The end of the store's reading in STARTING puts its content in force, or the defaults and the store fault under a
bad checksum, and DISCOVERING begins: the settings of the site, the axes, the zones and the two lines (R154), the
cabinet set, the enabled weather nodes, WARMING with the others DISABLED (R83), the release counts, 0 under a bad
checksum, with the verify flags they give (R10), and B_req raised to the floor. The lock table then holds the stored
entries and no other, PENDING and stored, and the next lock number is one above the highest, or 1 (R140, R150). Under a
bad checksum a STORE_FAULT report joins the queue (R184; its bytes are log 30's), alone there where nothing was queued
and no line stands in BREAK. DISCOVERING ends READY at its limit, the nodes of the cycle still UNKNOWN then being
UNREACHABLE with both lines lost (nodes of the cycle only, and their counts at 3: log 22; R66, R67, R150, R161, R185).
It also ends READY as soon as the key record of every configured cabinet shows a run of 3, with no cabinet configured
at once; a node of the cycle that is known, and every node outside it, stands as it was (R185). In any other start-up
state either event is without effect (log 2). -/
def Obligations.StartUp : Prop :=
  ∀ s : State,
    (s.block.site.startup ≠ .starting → exec .storeLoadDone s = .next (s.ends s.block))
    ∧ (s.block.site.startup = .starting →
      let u := s.block.load
      let st := s.block.site.store
      let m := if st.good = true then st.image else Image.default
      exec .storeLoadDone s = .next (s.ends u)
      ∧ u.site.startup = .discovering ∧ u.site.discovering = some s.block.site.tb
      ∧ u.site.cfg = m.site ∧ u.link.rate = m.site.rate ∧ u.field.configured = m.cabinets
      ∧ (∀ d k, (u.axis d k).cfg = (m.axes[d]).get k) ∧ (∀ d z, (u.zone d z).cfg = (m.zones[d]).get z)
      ∧ u.account.floor = u.floorOf ∧ u.account.breq = max m.breq u.floorOf ∧ u.account.beff = u.account.breq
      ∧ (∀ n, u.wx n = { s.block.wx n with state := if m.enabled[n] = true then .warming else .disabled })
      ∧ (u.line .a).delay = m.lineA.delay ∧ (u.line .a).inverted = m.lineA.inverted
      ∧ (u.line .b).delay = m.lineB.delay ∧ (u.line .b).inverted = m.lineB.inverted
      ∧ (∀ d k, (u.axis d k).verify = decide ((u.axis d k).cfg.wear < (u.axis d k).releases))
      ∧ (st.good = false → u.site.storeFault = true ∧ u.lockout.entries = [] ∧ u.lockout.next = 1
        ∧ (∀ d k, (u.axis d k).releases = 0)
        ∧ (s.block.link.reports = [] → s.block.link.mask.getLsbD 19 = true → (∀ l, (s.block.line l).state ≠ .brk) →
          u.link.reports = [{ kind := .storeFault, subject := 0, time := s.block.site.clock.getD 0
                              pre := [f1 1, f1 0, f1 0, f1 0], prev := none, post := [] }]))
      ∧ (st.good = true →
        let loaded := fun (x : StoredLock) (e : LockEntry) => e.num = x.num ∧ e.kind = x.kind ∧ e.dish = x.dish
          ∧ e.holder = x.holder ∧ e.placed = x.placed ∧ e.key = false ∧ e.engaged = false ∧ e.stored = true
        (∀ d k, (u.axis d k).releases = (st.counts[d]).get k)
        ∧ (∀ x ∈ st.locks, ∃ e ∈ u.lockout.entries, loaded x e)
        ∧ (∀ e ∈ u.lockout.entries, ∃ x ∈ st.locks, loaded x e)
        ∧ u.lockout.entries.length = st.locks.length
        ∧ (st.locks = [] → u.lockout.next = 1)
        ∧ ∀ x ∈ st.locks, (∀ y ∈ st.locks, y.num ≤ x.num) →
          u.lockout.next = if x.num = 65535 then 1 else x.num + 1))
    ∧ (s.block.site.startup ≠ .discovering → exec .discoveryTimeout s = .next (s.ends s.block))
    ∧ (let b := s.block
       let found := ∀ d, b.configured d = true → b.lockout.keys[d].lockRun = 3 ∨ b.lockout.keys[d].remoteRun = 3
       (b.site.startup = .discovering → found → b.judgeStartup = b.becomeReady)
       ∧ (b.site.startup ≠ .discovering ∨ ¬found → b.judgeStartup = b))
    ∧ (let b := s.block
       let u := b.becomeReady
       let lost := fun r => b.inCycle r = true ∧ (b.node r).reach = .unknown
       u.site.startup = .ready ∧ u.site.discovering = none
       ∧ (∀ r, ¬lost r → u.node r = b.node r)
       ∧ (∀ r, lost r → (u.node r).reach = .unreachable ∧ (u.node r).missA = 3 ∧ (u.node r).missB = 3
         ∧ (u.node r).lastStatus = none)
       ∧ ∀ d k, lost (.cab d) → (u.axis d k).state = .offline ∧ (u.axis d k).need = none)
    ∧ ∀ t0, s.block.site.startup = .discovering → s.block.site.discovering = some t0 →
      let u := (s.block.carryTo (t0 + 5000)).becomeReady
      exec .discoveryTimeout s = .next (s.ends u)
      ∧ u.site.startup = .ready ∧ u.site.tb = max s.block.site.tb (t0 + 5000)
      ∧ (∀ r, (u.node r).reach = if s.block.inCycle r = true ∧ (s.block.node r).reach = .unknown then .unreachable
          else (s.block.node r).reach)
      ∧ ∀ r, s.block.inCycle r = true → (s.block.node r).reach = .unknown →
          (u.node r).missA = 3 ∧ (u.node r).missB = 3

/-! ### Power and heat (chapters 4 and 7) -/

/-- SET_BUDGET above 200,000 W is refused; otherwise B_req becomes the watts, raised to the floor with code CLAMPED;
where it is not below B_eff, B_eff follows it and the queues are examined; where it is below, heat is cut by the excess
and B_eff becomes the greater of it and the claims (R68), the queues being examined where H fell or B_req was raised
(R76). The reply carries the figures as they stand when the event has settled (R68; log 8). -/
def Obligations.SetBudgetTakesEffect : Prop :=
  ∀ (s : State) (tag : Tag) (watts : Nat), s.takes (.setBudget tag watts) →
    let c : Instr := .setBudget tag watts
    let f := s.found c
    let w := max watts s.block.account.floor
    let code : Code := if watts < s.block.account.floor then .clamped else .ok
    (200000 < watts → exec c s = .next (s.refuses c .badValue))
    ∧ (watts ≤ 200000 → s.block.account.beff ≤ w →
        let t := ({ f with account := { f.account with breq := w, beff := w } }).tellBudget.callExamine
        exec c s = .next (s.replies t code [f4 w, f4 t.settle.account.beff, f4 s.block.account.floor]))
    ∧ (watts ≤ 200000 → w < s.block.account.beff →
        let low := { f with account := { f.account with breq := w } }
        let cut := low.curtail (s.block.claimTotal + s.block.heatTotal - w)
        let done := ({ cut with account := { cut.account with beff := max w s.block.claimTotal } }).tellBudget
        let t := if cut.heatTotal < s.block.heatTotal ∨ s.block.account.breq < w then done.callExamine else done
        exec c s = .next (s.replies t code [f4 w, f4 t.settle.account.beff, f4 s.block.account.floor]))

/-- The motion fit test of R73 under both policies, against B_req; and a request of fixed amounts, no examination being
due: BUSY at 20 entries with nothing changed; queued behind any waiting or stow entry, or when it does not fit; granted
otherwise (R72). An examination tries, under STOW, each stow-pending entry in dish order by its own fit test and grants
those that pass (R77, R78); a stow share that the axis refuses takes its whole claim away (the model's choice, log 40);
with an entry left it ends there; otherwise it grants the head of the wait queue while it fits and ends at one that
does not, or with the queue empty (R76). Under STOW a stow request joins the list in dish order and has it tried at
once, and one that has its entry leaves it; off STOW it is refused and nothing is entered (R77; the wait queue is then
examined at the event's end, log 8). A head granted leaves the queue, and its requester takes its shares: an axis its
hold claim (R6), a HOLD and a TRACK the needs of both axes (R26, R30), an internal move and a group the duration found
at the grant and their shares of it (R54, R55, R64; where none is found, the limit with the amounts queued, log 27). -/
def Obligations.AskingForPower : Prop :=
  (∀ (b : Block) (ws : List Want),
    (b.site.cfg.policy = .motionOverMelt →
      (b.motionFits ws = true
        ↔ (total ws : Int) ≤ b.account.breq - b.otherTotal ws - min b.heatTotal b.site.cfg.hmin))
    ∧ (b.site.cfg.policy = .meltFirst →
      (b.motionFits ws = true ↔ (total ws : Int) ≤ b.account.breq - b.otherTotal ws - b.heatTotal)))
  ∧ (∀ (b : Block) (who : Waiter) (ws : List Want), b.account.examineDue = false →
    (20 ≤ b.account.waitq.length → b.askPower who ws = (b, .busy))
    ∧ (b.account.waitq.length < 20 →
        (b.account.waitq ≠ [] ∨ b.account.stowq ≠ [] ∨ b.motionFits ws = false →
          b.askPower who ws = (b.enqueue who ws, .queued))
        ∧ (b.account.waitq = [] → b.account.stowq = [] → b.motionFits ws = true →
          b.askPower who ws = (b.grant ws .motion, .granted))))
  ∧ ∀ b : Block,
    let taken := { b with account := { b.account with examineDue := false } }
    let stows := taken.examineStow
    let after := stows.examineQueue stows.account.waitq.length
    (b.account.examineDue = false → b.examine = b)
    ∧ (b.account.examineDue = true → ∃ n, b.examine = b.examineOnce.examineAll n)
    ∧ b.examine.account.examineDue = false
    ∧ (b.weather.level ≠ .stow → stows = taken)
    ∧ (b.weather.level = .stow → stows = allDishes.foldl
        (fun s d => if d ∈ s.account.stowq ∧ s.stowFits d = true then s.grantStow d else s) taken)
    ∧ (stows.account.stowq ≠ [] → b.examineOnce = stows)
    ∧ (stows.account.stowq = [] → b.examineOnce = after
        ∧ ∀ e rest, after.account.waitq = e :: rest → after.motionFits e.wants = false)
    ∧ (∀ d,
      let w := (b.axis d .el).cfg.pstow
      let free := b.axisLocks d .el = 0 ∧ b.site.estop = false ∧ (b.axis d .el).state ≠ .offline
        ∧ (b.axis d .el).state ≠ .faulted ∧ (b.axis d .el).state ≠ .locked
      let u := b.grantStow d
      (b.stowFits d = true ↔ w + (b.claimTotal - b.claimWatts d .el) ≤ b.account.breq)
      ∧ u.account.stowq = b.account.stowq.filter (· != d)
      ∧ (free → u.claim d .el = some ⟨.stow, w⟩ ∧ (u.axis d .el).need = some ⟨.stow, some w⟩)
      ∧ (¬free → u.claim d .el = none ∧ (u.axis d .el).need = (b.axis d .el).need))
    ∧ (∀ d,
      let entered := { b with account := { b.account with
        stowq := allDishes.filter fun x => x == d || b.account.stowq.contains x, examineDue := true } }
      (b.weather.level ≠ .stow → b.askStow d = b)
      ∧ (b.weather.level = .stow →
        (d ∈ b.account.stowq → b.askStow d = b) ∧ (d ∉ b.account.stowq → b.askStow d = entered.examineStow)))
    ∧ (∀ (dsh : Mover) n ws, (b.sharesUnder dsh n ws).az.rate = (b.sharesAt dsh n).az.rate
      ∧ (b.sharesUnder dsh n ws).el.rate = (b.sharesAt dsh n).el.rate
      ∧ (∀ wa we, ws = [⟨dsh.1, .az, wa⟩, ⟨dsh.1, .el, we⟩] →
        (b.sharesUnder dsh n ws).az.claim = wa ∧ (b.sharesUnder dsh n ws).el.claim = we))
    ∧ (∀ n, b.account.waitq = [] → b.examineQueue n = b)
    ∧ ∀ e rest n, b.account.waitq = e :: rest →
      (b.motionFits e.wants = false → b.examineQueue n = b)
      ∧ (b.motionFits e.wants = true → b.examineQueue (n + 1) = (b.grantHead e).examineQueue n)
      ∧ (b.grantHead e).account.waitq.length ≤ rest.length
      ∧ (∀ d k w, e.who = .axis d k → e.wants = [⟨d, k, w⟩] →
          (b.grantHead e).claim d k = some ⟨.motion, w⟩ ∧ ((b.grantHead e).axis d k).stage = .beacon)
      ∧ (let left := { b with account := { b.account with waitq := rest } }
         let g := left.grant e.wants .motion
         let plan := fun (ms : List Mover) (n0 limit : Nat) => match left.stretch ms n0 limit with
           | some n => (n, left.wantsAt ms n)
           | none => (limit, e.wants)
         (∀ d wa we, e.who = .hold d ∨ e.who = .track d → e.wants = [⟨d, .az, wa⟩, ⟨d, .el, we⟩] →
           let ready := b.site.estop = false ∧ ∀ k, b.axisLocks d k = 0 ∧ (b.axis d k).state ≠ .offline
             ∧ (b.axis d k).state ≠ .faulted ∧ (b.axis d k).state ≠ .locked
           let u := b.grantHead e
           let served := fun (who : Requester) => ∀ k,
             let w := if k = .az then wa else we
             u.claim d k = some ⟨.motion, w⟩ ∧ (u.axis d k).need = some ⟨who, some w⟩
             ∧ ((b.axis d k).state = .braked → (u.axis d k).stage = .beacon)
           (u.dish d).pendingReq = none
           ∧ (e.who = .hold d → (u.dish d).mode = (b.dish d).mode ∧ (ready → served .hold))
           ∧ (e.who = .track d → (ready → (u.dish d).mode = .tracking ∧ served .track)
             ∧ ((∃ k, 0 < b.axisLocks d k) → (u.dish d).mode = .idle)))
         ∧ (∀ d k, e.who = .axis d k → b.grantHead e = g.setAxis d k { g.axis d k with stage := .beacon })
         ∧ (∀ d, e.who = .internal d → b.move d = none → b.grantHead e = left)
         ∧ (∀ d m, e.who = .internal d → b.move d = some m →
           let p := plan [(d, m.plan)] m.n0 6000
           let v := left.grant p.2 .motion
           let sh := v.sharesUnder (d, m.plan) p.1 p.2
           let u := v.setMove d (some { m with phase := .starting, nStar := some p.1, grant := some sh })
           let az := u.deliverNeed d .az ⟨.internal, some sh.az.claim⟩
           let el := az.1.deliverNeed d .el ⟨.internal, some sh.el.claim⟩
           (az.2 = none → el.2 = none → b.grantHead e = el.1)
           ∧ (az.2 ≠ none ∨ el.2 ≠ none → b.grantHead e = el.1.loseMove d))
         ∧ (∀ i, e.who = .group i → b.group i = none → b.grantHead e = left)
         ∧ ∀ i x, e.who = .group i → b.group i = some x →
           let p := plan x.movers (x.n0.getD 20) x.limit
           let v := left.grant p.2 .motion
           b.grantHead e = (v.recordGrant i p.1 p.2).deliverGroup i
           ∧ (v.recordGrant i p.1 p.2).group i = some { x with
               state := .starting, nStar := some p.1, total := some (p.2.map (·.watts)).sum
               members := x.members.map fun m => match m.plan with
                 | some q => { m with grant := some (v.sharesUnder (m.dish, q) p.1 p.2) }
                 | none => m })

/-- A grant gives each own axis its share and class, leaves every other claim, and keeps claims and heat within B_req,
where the claims alone fit it and heat stands only in zones of the serving order (R74). -/
def Obligations.GrantKeepsTheBudget : Prop :=
  ∀ (b : Block) (ws : List Want) (cls : ClaimClass),
    (wantAxes ws).Nodup → total ws + b.otherTotal ws ≤ b.account.breq →
    (∀ d z, 0 < (b.zone d z).duty → (⟨d, z⟩ : ZoneRef) ∈ b.heater.serving) →
    (∀ w ∈ ws, (b.grant ws cls).claim w.d w.k = some ⟨cls, w.watts⟩)
    ∧ (∀ d k, (d, k) ∉ wantAxes ws → (b.grant ws cls).claim d k = b.claim d k)
    ∧ (b.grant ws cls).claimTotal = total ws + b.otherTotal ws
    ∧ (b.grant ws cls).claimTotal + (b.grant ws cls).heatTotal ≤ b.account.breq
    ∧ (b.grant ws cls).account.breq = b.account.breq

/-- A curtailment cuts at least what is asked where that much heat stands, or else all of it; it raises no duty, and cuts
no zone while one later in the serving order still has duty (R131). A release under a lagging budget brings B_eff down to
the greater of B_req and the claims left, and calls for an examination; without a lag B_eff stands (R69, R71). -/
def Obligations.HeatAndClaimsFall : Prop :=
  (∀ (b : Block) (x : Nat),
    (∀ d z, 0 < (b.zone d z).duty → (⟨d, z⟩ : ZoneRef) ∈ b.heater.serving) → b.heater.serving.Nodup →
    (b.curtail x).heatTotal + min x b.heatTotal ≤ b.heatTotal
    ∧ (∀ d z, ((b.curtail x).zone d z).duty ≤ (b.zone d z).duty)
    ∧ ∀ pre r mid q post, b.heater.serving = pre ++ r :: mid ++ q :: post →
        ((b.curtail x).zone r.d r.z).duty < (b.zone r.d r.z).duty → ((b.curtail x).zone q.d q.z).duty = 0)
  ∧
  ∀ (b : Block) (d : DishId) (k : AxisKind) (c : Claim), b.claim d k = some c → 0 < c.watts →
    let t := b.releaseClaim d k
    t.claim d k = none ∧ t.claimTotal + c.watts = b.claimTotal ∧ t.account.examineDue = true
    ∧ t.account.breq = b.account.breq
    ∧ (b.account.breq < b.account.beff → t.account.beff = max b.account.breq t.claimTotal)
    ∧ (b.account.beff ≤ b.account.breq → t.account.beff = b.account.beff)

/-- The demand duty of a zone (R128): 0 without a temperature or without a deficit, else the deficit over the duty
step rounded up, held to 16. The slots of a duty: as many of the sixteen as the duty counts (R132). The cold flag
(R129): set below -10.0 °C, cleared at or above -8.0 °C, and kept between. The heater second counts a second at full
duty of a SURF zone in an episode, the sixtieth as a minute of melt run time (R137), and judges each zone's purpose,
rank and demand (R126, R128; that a zone whose dish is not configured has purpose NONE and no rank is the model's
choice, log 46). It serves the zones with a purpose that are not FAULT, OFF or LOCKED in rank order and within a rank
by dish, each with the largest duty not above its demand whose watts do not exceed what B_eff less the claims leaves
after those before it, and every other zone with none (R70, R130); each contactor is ordered by its duty in the slot
of the second (R132). -/
def Obligations.HeatRules : Prop :=
  (∀ c : ZoneCfg, demandOf c none = 0)
  ∧ (∀ (c : ZoneCfg) (t : Int), 0 < c.step →
    (c.setpoint ≤ t → demandOf c (some t) = 0)
    ∧ (t < c.setpoint →
      let n := demandOf c (some t)
      n ≤ 16 ∧ (n < 16 → c.setpoint - t ≤ n * c.step ∧ (n - 1) * c.step < c.setpoint - t)
      ∧ (n = 16 → 15 * c.step < c.setpoint - t)))
  ∧ (∀ duty, duty ≤ 16 → ((List.range 16).filter fun i => slotOn duty i).length = duty)
  ∧ (∀ (cold : Bool) (t : Int),
    (t < -100 → coldAfter cold t = true) ∧ (-80 ≤ t → coldAfter cold t = false)
    ∧ (-100 ≤ t → t < -80 → coldAfter cold t = cold))
  ∧
  ∀ b : Block,
    let u := b.heaterSecond
    let second := match b.site.clock with
      | some c => c / 1000
      | none => b.weather.sec
    let shut := fun (d : DishId) (z : ZoneKind) =>
      (b.zone d z).fault = true ∨ b.configured d = false ∨ b.heard d = false ∨ 0 < b.zoneLocks d z
    let key := fun (r : ZoneRef) => 100 * ((u.zone r.d r.z).rank).getD 0 + r.d.val
    let watts := fun (r : ZoneRef) => dutyWatts (u.zone r.d r.z).cfg.rated (u.zone r.d r.z).duty
    (∀ r : ZoneRef, r ∈ u.heater.serving ↔ (u.zone r.d r.z).purpose ≠ .none ∧ ¬shut r.d r.z)
    ∧ (u.heater.serving.Pairwise fun p q => key p < key q)
    ∧ (∀ pre r post, u.heater.serving = pre ++ r :: post →
      let x := u.zone r.d r.z
      let left := b.account.beff - b.claimTotal - (pre.map watts).sum
      watts r ≤ left ∧ ∀ n, x.duty < n → n ≤ x.demand → left < dutyWatts x.cfg.rated n)
    ∧ (∀ d z, (⟨d, z⟩ : ZoneRef) ∉ u.heater.serving → (u.zone d z).duty = 0)
    ∧ (∀ d z,
      let x := u.zone d z
      x.commanded = slotOn x.duty ((second + d.val + 1) % 16)
      ∧ x.demand = (if x.purpose = .none ∨ shut d z then 0 else demandOf x.cfg x.temp))
    ∧ (∀ d,
      let x := b.zone d .drive
      let warming := ∃ g y, (b.dish d).group = some g ∧ b.group g = some y ∧ y.state = .warming
      let asked := x.prewarm ≠ none ∨ (b.site.cfg.autoPrewarm = true ∧ b.cold d = true)
      let judged := fun (p : Purpose) (r : Option Nat) => (u.zone d .drive).purpose = p ∧ (u.zone d .drive).rank = r
      (b.configured d = true → warming → judged .prewarm (some 1))
      ∧ (b.configured d = true → ¬warming → asked → judged .prewarm (some 2))
      ∧ (b.configured d = false ∨ (¬warming ∧ ¬asked) → judged .none none))
    ∧ (∀ d,
      let x := b.zone d .surf
      let y := u.zone d .surf
      let melts := b.configured d = true ∧ b.heater.episode = true ∧ x.cfg.autoMelt = true
      (melts → y.purpose = .melt ∧ y.rank = some 3) ∧ (¬melts → y.purpose = .none ∧ y.rank = none)
      ∧ (b.heater.episode = false ∨ x.duty ≠ 16 → y.fullSecs = x.fullSecs ∧ y.meltMin = x.meltMin)
      ∧ (b.heater.episode = true → x.duty = 16 → x.fullSecs ≠ 59 → y.fullSecs = x.fullSecs + 1 ∧ y.meltMin = x.meltMin)
      ∧ (b.heater.episode = true → x.duty = 16 → x.fullSecs = 59 →
        y.fullSecs = 0 ∧ y.meltMin = min 65535 (x.meltMin + 1)))
    ∧ b.heaterSecond.heatTotal ≤ b.account.beff - b.claimTotal
    ∧ (∀ d z, (b.heaterSecond.zone d z).duty ≤ (b.heaterSecond.zone d z).demand)
    ∧ (∀ d z, (b.heaterSecond.zone d z).demand ≤ 16)
    ∧ (∀ d z, (b.zone d z).fault = true ∨ b.heard d = false ∨ 0 < b.zoneLocks d z →
        (b.heaterSecond.zone d z).duty = 0)
    ∧ ∀ d k, b.heaterSecond.claim d k = b.claim d k

/-- PREWARM START gives a cold dish thirty minutes of pre-warming and leaves a warm one, CANCEL removes the request,
and each answers how it stands (R127, log 28); SNOW_FORCE sets or clears the host snow force and has the condition
judged (R124, R125): while the condition holds the clear timer of an episode is stopped, and an episode that does not
yet run starts, with a SNOW report of its cause, FROZEN before LIQUID before FORCE, and of the site figures, and clears
every shed deferral (R113); the timer starts when the condition ends. -/
def Obligations.PrewarmAndSnow : Prop :=
  (∀ (s : State) (tag : Tag) (n act : Nat) (d : DishId), s.takes (.prewarm tag n act) → dishOf n = some d →
    s.block.configured d = true →
    let c : Instr := .prewarm tag n act
    let f := s.found c
    let put := fun (x : Option Nat) => f.setZone d .drive { s.block.zone d .drive with prewarm := x }
    let due := s.block.site.tb + 1800000
    let mode := f1 (s.block.zone d .drive).mode.ctorIdx
    let request := (s.block.zone d .drive).prewarm
    (1 < act → exec c s = .next (s.refuses c .badValue))
    ∧ (act = 0 → s.block.cold d = true →
        exec c s = .next (s.replies (put (some due)) .ok [f1 1, f2 1800, f1 1, mode]))
    ∧ (act = 0 → s.block.cold d = false →
        (request = none → exec c s = .next (s.replies f .ok [f1 0, f2 0, f1 0, mode]))
        ∧ ∀ t, request = some t → exec c s = .next (s.replies f .ok [f1 1, f2 ((t - s.block.site.tb) / 1000), f1 0, mode]))
    ∧ (act = 1 → exec c s = .next (s.replies (put none) .ok [f1 0, f2 0, fb (s.block.cold d), mode])))
  ∧ (∀ (s : State) (tag : Tag) (act : Nat), s.takes (.snowForce tag act) →
    let c : Instr := .snowForce tag act
    let f := s.found c
    let u := ({ f with heater := { f.heater with snowForce := act == 0 } }).judgeSnow
    (1 < act → exec c s = .next (s.refuses c .badValue))
    ∧ (act ≤ 1 → exec c s
        = .next (s.replies u .ok [fb u.heater.snowForce, fb u.snowCond, fb u.heater.episode])
        ∧ u.heater.snowForce = (act == 0)))
  ∧ ∀ b : Block,
    let runs := { b with heater := { b.heater with episode := true, clear := none } }
    let cause := if b.sitePrecip = .frozen then 0
      else if b.sitePrecip = .liquid ∧ ∃ t, b.siteAmbient = some t ∧ t ≤ 20 then 1 else 2
    let figures := [fb b.windKnown] ++ (if b.windKnown = true then [f1 1, f2 b.siteMean, f1 1, f2 b.siteGust]
        else [f1 0, f2 0, f1 0, f2 0])
      ++ (match b.siteAmbient with
        | some t => [f1 1, s2 t]
        | none => [f1 0, f2 0])
      ++ [f1 b.sitePrecip.ctorIdx, f1 b.contribCount]
    (b.snowCond = true → b.judgeSnow.heater.episode = true ∧ b.judgeSnow.heater.clear = none)
    ∧ (b.snowCond = true → b.heater.episode = true → b.judgeSnow = runs)
    ∧ (b.snowCond = true → b.heater.episode = false →
        b.judgeSnow = allDishes.foldl (fun t d => t.setDish d { t.dish d with deferred := false })
          (runs.tell .snow 0 ([f1 1, f1 1, f1 cause] ++ figures))
        ∧ ∀ d, b.judgeSnow.dish d = { b.dish d with deferred := false })
    ∧ (b.snowCond = false → b.heater.episode = true → b.heater.clear = none →
        b.judgeSnow = { b with heater := { b.heater with clear := some 0 } })
    ∧ (b.snowCond = false → b.heater.episode = false ∨ b.heater.clear ≠ none → b.judgeSnow = b)

/-! ### Points and dishes (chapter 2) -/

/-- A request that names a dish is refused with BAD_VALUE outside 1 to 12 and with NO_SUCH where the dish is not
configured, and then nothing but its reply changes (R23). That PREWARM of an unconfigured dish is refused so whatever its
action code, the dish being judged first, is the model's order (log 33). -/
def Obligations.DishRequestsName : Prop :=
  ∀ (s : State) (tag : Tag) (n act : Nat) (c : Instr),
    c ∈ [Instr.trackStart tag n, .trackStop tag n, .holdDish tag n, .parkDish tag n, .prewarm tag n act, .shed tag n,
      .resume tag n, .clearContext tag n] →
    s.takes c →
    (dishOf n = none → exec c s = .next (s.refuses c .badValue))
    ∧ ∀ d, dishOf n = some d → s.block.configured d = false → exec c s = .next (s.refuses c .noSuch)

/-- ADD_POINTS for a configured dish under a set clock, every position in range, admits the points in order and
answers how many, with the code of R35; the refusals change nothing (the order of NO_TIME and BAD_VALUE is log 33's).
The points are offered one after another: the first that is refused ends the admission with its code, the points
before it staying admitted; past the last the code is CLAMPED where one was clamped, OK otherwise (R35). A point
admitted joins the end of its queue as it is resolved, after any early trim; one that is clamped opens the clamp
episode of its dish with one CLAMPED report, and none while the episode is open; one that is not closes it (R38). -/
def Obligations.AddPointsAdmits : Prop :=
  (∀ (s : State) (tag : Tag) (dish : Nat) (pts : List PointParams), s.takes (.addPoints tag dish pts) →
    let c : Instr := .addPoints tag dish pts
    (dishOf dish = none → exec c s = .next (s.refuses c .badValue))
    ∧ ∀ d, dishOf dish = some d →
      (s.block.configured d = false → exec c s = .next (s.refuses c .noSuch))
      ∧ (s.block.configured d = true → s.block.site.clock = none → exec c s = .next (s.refuses c .noTime))
      ∧ ∀ now, s.block.configured d = true → s.block.site.clock = some now →
        let inRange := ∀ p ∈ pts, 0 ≤ p.az ∧ p.az ≤ 359999 ∧ 0 ≤ p.el ∧ p.el ≤ 90000
        (¬inRange → exec c s = .next (s.refuses c .badValue))
        ∧ (inRange →
            let r := (s.found c).takePoints d now 0 false pts
            exec c s = .next (s.replies r.1 r.2.2 [f1 r.2.1])))
  ∧ (∀ (b : Block) (d : DishId) (now n : Nat) (clamped : Bool),
    b.takePoints d now n clamped [] = (b, n, if clamped = true then .clamped else .ok)
    ∧ ∀ (p : PointParams) (ps : List PointParams),
      (∀ code, b.offer d p now = .error code → b.takePoints d now n clamped (p :: ps) = (b, n, code))
      ∧ ∀ t one, b.offer d p now = .ok (t, one) →
        b.takePoints d now n clamped (p :: ps) = t.takePoints d now (n + 1) (clamped || one) ps)
  ∧ ∀ (b : Block) (d : DishId) (p : PointParams) (now : Nat) (t : Block) (clamped : Bool),
    b.offer d p now = .ok (t, clamped) →
    let room := if b.points.free ≤ 32 then b.trim b.victim else b
    let x := room.makePoint d p
    let joined := (room.setQueue d (room.queue d ++ [x])).setDish d { room.dish d with clampOpen := clamped }
    clamped = x.clamped
    ∧ (clamped = true → (b.dish d).clampOpen = false →
        t = joined.tell .clamped (dishNum d) [f6 p.time, s4 p.az, s4 p.el, s4 x.az, s4 x.el])
    ∧ (clamped = false ∨ (b.dish d).clampOpen = true → t = joined)

/-- One point offered (R35, R36): out of order, too far, past the cap, or trimmed against its own dish, in that order,
and then nothing changes; otherwise it joins at the end, after the latest point of the dish with the most points, the
highest-numbered of those that share the count, was trimmed where 32 or fewer are free. A trim removes that latest
point, raises the trim count by one and sends POINTS_TRIMMED with the count, the new length and the new latest time
(R36). -/
def Obligations.OfferedPoint : Prop :=
  (∀ (b : Block) (d : DishId),
    (b.queue d).length ≤ (b.queue b.victim).length
    ∧ (b.victim < d → (b.queue d).length < (b.queue b.victim).length))
  ∧ (∀ (b : Block) (v : DishId) (rest : List Point) (last x : Point), b.queue v = rest ++ [last, x] →
    let n := ((b.dish v).trims + 1) % 65536
    b.trim v = ((b.setQueue v (rest ++ [last])).setDish v { b.dish v with trims := n }).tell .pointsTrimmed (dishNum v)
      [f2 n, f1 (rest.length + 1), f6 last.time])
  ∧
  ∀ (b : Block) (d : DishId) (p : PointParams) (now : Nat), b.PointsLaw →
    let early := ∃ x, (b.queue d).getLast? = some x ∧ p.time ≤ x.time
    let far := now + 600000 < p.time
    let full := 120 ≤ (b.queue d).length
    (early → b.offer d p now = .error .outOfOrder)
    ∧ (¬early → far → b.offer d p now = .error .tooFar)
    ∧ (¬early → ¬far → full → b.offer d p now = .error .queueFull)
    ∧ (¬early → ¬far → ¬full → b.points.free ≤ 32 → b.victim = d → b.offer d p now = .error .trimmed)
    ∧ (¬early → ¬far → ¬full → b.points.free ≤ 32 → b.victim ≠ d →
        ∃ t clamped x, b.offer d p now = .ok (t, clamped) ∧ x.time = p.time ∧ t.queue d = b.queue d ++ [x]
          ∧ t.queue b.victim = (b.queue b.victim).dropLast ∧ t.points.free = b.points.free
          ∧ (t.dish b.victim).trims = ((b.dish b.victim).trims + 1) % 65536
          ∧ ∀ e, e ≠ d → e ≠ b.victim → t.queue e = b.queue e)
    ∧ (¬early → ¬far → ¬full → 32 < b.points.free →
        ∃ t clamped x, b.offer d p now = .ok (t, clamped) ∧ x.time = p.time ∧ x.sky = p.az
          ∧ x.clamped = clamped ∧ t.queue d = b.queue d ++ [x] ∧ t.points.free + 1 = b.points.free
          ∧ ∀ e, e ≠ d → t.queue e = b.queue e)

/-- A point's elevation held to the soft limits, raised first to the watch minimum while the level is WATCH, and its
azimuth resolved to the candidate within the limits nearest the reference, the more positive of two equally near; where
no candidate fits, to the nearer limit, the upper of two equally near. The reference is the azimuth of the dish's latest
queued point, or the reported position of its AZ axis, 0 where none is held. The clamped flag says that no candidate fits
or that the elevation was changed (R37). -/
def Obligations.PointResolution : Prop :=
  ∀ (b : Block) (d : DishId) (p : PointParams),
    let c := (b.axis d .el).cfg
    let raised := if b.weather.level = .watch then max p.el b.site.cfg.watchMinEl else p.el
    let lo := (b.axis d .az).cfg.lo
    let hi := (b.axis d .az).cfg.hi
    let ref := b.azRef d
    let x := b.makePoint d p
    let fits := fun (a : Int) => a ∈ [p.az - 360000, p.az, p.az + 360000] ∧ lo ≤ a ∧ a ≤ hi
    (∀ q, (b.queue d).getLast? = some q → ref = q.az)
    ∧ (b.queue d = [] → (∀ r, (b.axis d .az).reported = some r → ref = r.pos)
        ∧ ((b.axis d .az).reported = none → ref = 0))
    ∧ x.el = min c.hi (max c.lo raised) ∧ x.time = p.time ∧ x.sky = p.az
    ∧ (x.clamped = true ↔ (∀ a, ¬fits a) ∨ x.el ≠ p.el)
    ∧ (∀ a, fits a → fits x.az ∧ (absDiff x.az ref < absDiff a ref ∨ (absDiff x.az ref = absDiff a ref ∧ a ≤ x.az)))
    ∧ ((∀ a, ¬fits a) → (absDiff lo ref < absDiff hi ref → x.az = lo) ∧ (absDiff hi ref ≤ absDiff lo ref → x.az = hi))

/-- FLUSH_POINTS, for any dish 1 to 12, returns every point to the pool, closes the clamp episode and answers how many;
a TRACKING dish ends its tracking, a TRACK_WAIT dish loses its request, any other mode stands (R40). -/
def Obligations.FlushPointsEmpties : Prop :=
  ∀ (s : State) (tag : Tag) (dish : Nat), s.takes (.flushPoints tag dish) →
    let c : Instr := .flushPoints tag dish
    (dishOf dish = none → exec c s = .next (s.refuses c .badValue))
    ∧ ∀ d, dishOf dish = some d →
      let n := (s.block.queue d).length
      let flushed := ((s.found c).setQueue d []).modDish d fun x => { x with clampOpen := false }
      (∃ t, exec c s = .next t ∧ t.block.queue d = [] ∧ t.block.points.free = s.block.points.free + n
        ∧ (∀ e, e ≠ d → t.block.queue e = s.block.queue e)
        ∧ (t.block.dish d).clampOpen = false ∧ t.hasReply s.block.link.nextId .ok [f1 n])
      ∧ ((s.block.dish d).mode = .tracking →
          exec c s = .next (s.replies ((flushed.setMode d .idle .flush).holdBoth d) .ok [f1 n]))
      ∧ ((s.block.dish d).mode = .trackWait → (s.block.dish d).pendingReq = some .track →
          exec c s = .next (s.replies (((flushed.withdraw (.track d)).modDish d
            fun x => { x with pendingReq := none }).setMode d .idle .flush) .ok [f1 n]))
      ∧ ((s.block.dish d).mode ≠ .tracking → (s.block.dish d).mode ≠ .trackWait →
          exec c s = .next (s.replies flushed .ok [f1 n]))

/-- TRACK_START is checked in the order of Table 2-3 and refused with the first code whose condition holds (R25); a dish
that passes has a pending request withdrawn and asks for its track power: BUSY with 20 entries waiting; TRACKING, its
claims at P_track, and OK within the headroom when no entry and no stow waits; else TRACK_WAIT, its request the last of
the queue, and QUEUED. -/
def Obligations.TrackStart : Prop :=
  ∀ (s : State) (tag : Tag) (n : Nat) (d : DishId), s.takes (.trackStart tag n) → dishOf n = some d →
    s.block.configured d = true →
    let c : Instr := .trackStart tag n
    let b := s.block
    let f := s.found c
    let ws : List Want := [⟨d, .az, (b.axis d .az).cfg.ptrack⟩, ⟨d, .el, (b.axis d .el).cfg.ptrack⟩]
    ((b.dish d).mode ≠ .idle → exec c s = .next (s.refuses c .state))
    ∧ ((b.dish d).mode = .idle → b.site.clock = none → exec c s = .next (s.refuses c .noTime))
    ∧ ((b.dish d).mode = .idle → b.site.clock ≠ none →
      (b.site.estop = true → exec c s = .next (s.refuses c .estop))
      ∧ (b.site.estop = false → b.weather.level = .stow → exec c s = .next (s.refuses c .wind))
      ∧ (b.site.estop = false → b.weather.level ≠ .stow →
        (0 < b.axisLocks d .az ∨ 0 < b.axisLocks d .el → exec c s = .next (s.refuses c .locked))
        ∧ (b.axisLocks d .az = 0 → b.axisLocks d .el = 0 →
          let out := (∃ k, (b.axis d k).state = .offline ∨ (b.axis d k).state = .faulted) ∨ b.queue d = []
          (out → exec c s = .next (s.refuses c .state))
          ∧ (¬out →
            (∀ u r, (f.withdrawPending d).askTrack d .request = (u, r) →
              (r = .busy → exec c s = .next (s.replies u .busy []))
              ∧ (r ≠ .busy →
                exec c s = .next (s.replies (u.clearPark d) (if r = .granted then .ok else .queued) [])))
            ∧ (b.account.examineDue = false → (b.dish d).pendingReq = none →
              (20 ≤ b.account.waitq.length → exec c s = .next (s.replies (f.setMode d .idle .request) .busy []))
              ∧ (b.account.waitq = [] → b.account.stowq = [] → b.motionFits ws = true →
                exec c s = .next (s.replies (((f.grant ws .motion).takeTrack d ws .request).clearPark d) .ok []))
              ∧ (b.account.waitq.length < 20 →
                b.account.waitq ≠ [] ∨ b.account.stowq ≠ [] ∨ b.motionFits ws = false →
                exec c s = .next (s.replies ((((f.enqueue (.track d) ws).modDish d
                  fun x => { x with pendingReq := some .track }).setMode d .trackWait .request).clearPark d)
                  .queued [])))))))

/-- TRACK_STOP withdraws a waiting track or ends a running one, and is refused with STATE in any other mode (R28).
PARK_DISH in IDLE, TRACK_WAIT or TRACKING withdraws a pending request, makes the dish IDLE and brings each axis to its
brake where it stands, and is refused with STATE in any other mode (R31). Neither touches a point. -/
def Obligations.TrackStopAndPark : Prop :=
  (∀ (s : State) (tag : Tag) (n : Nat) (d : DishId), s.takes (.trackStop tag n) → dishOf n = some d →
    s.block.configured d = true →
    let c : Instr := .trackStop tag n
    let f := s.found c
    ((s.block.dish d).mode = .trackWait → (s.block.dish d).pendingReq = some .track →
      exec c s = .next (s.replies (((f.withdraw (.track d)).modDish d
        fun x => { x with pendingReq := none }).setMode d .idle .request) .ok []))
    ∧ ((s.block.dish d).mode = .tracking →
      exec c s = .next (s.replies ((f.setMode d .idle .request).holdBoth d) .ok []))
    ∧ ((s.block.dish d).mode ≠ .trackWait → (s.block.dish d).mode ≠ .tracking →
      exec c s = .next (s.refuses c .state))
    ∧ ∀ t, exec c s = .next t → t.block.points = s.block.points)
  ∧ ∀ (s : State) (tag : Tag) (n : Nat) (d : DishId), s.takes (.parkDish tag n) → dishOf n = some d →
    s.block.configured d = true →
    let c : Instr := .parkDish tag n
    let f := s.found c
    let m := (s.block.dish d).mode
    (m = .idle ∨ m = .trackWait ∨ m = .tracking →
      exec c s = .next (s.replies ((((f.withdrawPending d).setMode d .idle .request).brakeInPlace d .az
        ).brakeInPlace d .el) .ok []))
    ∧ (¬(m = .idle ∨ m = .trackWait ∨ m = .tracking) → exec c s = .next (s.refuses c .state))
    ∧ ∀ t, exec c s = .next t → t.block.points = s.block.points

/-- R29's table, what each state of an axis becomes when a dish's tracking ends: a MOVING axis stops to hold, a HELD
one and one on the release path fall to P_hold, their claim to the lesser of itself and P_hold in its own class,
STOPPING and ENGAGING keep their way, each under a hold of the dish; a lost axis and a braked one without a release are
left (log 29). R31's table, what each becomes when the dish is parked (logs 12, 13): a braked one without a release
stands as it was where it has neither a need nor a claim, as it has unless a stow left it one (log 13). And what an
accepted answer, its reported fields taken first (R4), makes of an axis: an OFFLINE one is heard again (R21), a FAULTED
one stays (R17), a fault code or an unbidden brake faults it (R17; before its operation, log 19), and otherwise a test
ends (R8), a release (R9, R10), a move (R13; by the clock of the visit's end, log 37), a stop (R14) or an engagement
(R16); a REFUSED answer faults it (R17). A need that reaches an axis is refused for a lock, the latch, OFFLINE or
FAULTED, the whole claim of a need that carries a grant given back (that ENGAGING, STOPPING and OFFLINE give it back
too is log 40's); otherwise it is recorded, a BRAKED axis going to the claim stage, or with a grant to the beacon, a
STOPPING one to stop to hold (R5). -/
def Obligations.AxisTables : Prop :=
  (∀ (b : Block) (d : DishId) (k : AxisKind), b.axisLocks d k = 0 → b.site.estop = false →
    let a := b.axis d k
    let t := b.holdAfterEnd d k
    let held : Option Need := some ⟨.hold, none⟩
    let lowered := (b.claim d k).map fun c => { c with watts := min c.watts a.cfg.phold }
    (a.state = .moving → (t.axis d k).state = .stopping ∧ (t.axis d k).intent = .hold
      ∧ (t.axis d k).order = .stop ∧ (t.axis d k).need = held ∧ t.claim d k = b.claim d k)
    ∧ (a.state = .held ∨ a.state = .testing ∨ a.state = .releasing ∨ (a.state = .braked ∧ a.stage ≠ .none) →
        t.axis d k = { a with need := held } ∧ t.claim d k = lowered)
    ∧ (a.state = .stopping → t.axis d k = { a with need := held, intent := .hold } ∧ t.claim d k = b.claim d k)
    ∧ (a.state = .engaging → (t.axis d k).state = .engaging ∧ (t.axis d k).need = held ∧ t.claim d k = b.claim d k)
    ∧ (a.state = .faulted ∨ a.state = .offline ∨ a.state = .locked ∨ (a.state = .braked ∧ a.stage = .none) → t = b))
  ∧ (∀ (b : Block) (d : DishId) (k : AxisKind),
    let a := b.axis d k
    let t := b.brakeInPlace d k
    (a.state = .held → (t.axis d k).state = .engaging ∧ (t.axis d k).need = none ∧ (t.axis d k).order = .brake
      ∧ (t.axis d k).opDue = some (b.site.tb + 3000))
    ∧ (a.state = .moving → (t.axis d k).state = .stopping ∧ (t.axis d k).intent = .brake
      ∧ (t.axis d k).need = none ∧ (t.axis d k).order = .stop)
    ∧ (a.state = .stopping → (t.axis d k).state = .stopping ∧ (t.axis d k).intent = .brake
      ∧ (t.axis d k).need = none)
    ∧ (a.state = .braked → a.stage ≠ .none → (t.axis d k).state = .braked ∧ (t.axis d k).stage = .none
      ∧ (t.axis d k).need = none ∧ t.claim d k = none)
    ∧ (a.state = .braked → a.stage = .none → t.axis d k = { a with need := none } ∧ t.claim d k = none
      ∧ (a.need = none → b.claim d k = none → t = b))
    ∧ (a.state = .testing ∨ a.state = .releasing → (t.axis d k).state = a.state ∧ (t.axis d k).need = none
      ∧ ((t.dish d).parkReq.get k) = true)
    ∧ (a.state = .engaging → (t.axis d k).state = .engaging ∧ (t.axis d k).need = none)
    ∧ (a.state = .locked ∨ a.state = .faulted ∨ a.state = .offline → t = b))
  ∧ (∀ (b : Block) (d : DishId) (k : AxisKind) (r : AxisReport),
    let a := b.axis d k
    let heard := b.modAxis d k fun x => { x with reported := some r }
    let t := b.axisAnswer d k r
    let u := t.axis d k
    let code : Option FaultReason :=
      if r.code = .drive then some .drive else if r.code = .limit then some .limit else none
    let unasked := (r.released = false ∧ (a.state = .held ∨ a.state = .moving ∨ a.state = .stopping))
      ∨ (r.released = true ∧ (a.state = .braked ∨ a.state = .locked ∨ a.state = .testing))
    let quiet := code = none ∧ ¬unasked
    let fails := fun (why : FaultReason) => u.state = .faulted ∧ u.fault = some why ∧ u.order = .brake ∧ u.need = none
      ∧ u.opDue = none ∧ u.stage = .none ∧ t.claim d k = none
    let lowered := (b.claim d k).map fun c => { c with watts := min c.watts a.cfg.phold }
    let rests := u.state = (if 0 < b.axisLocks d k then .locked else .braked) ∧ u.order = .none ∧ t.claim d k = none
    u.reported = some r ∧ u.cfg = a.cfg
    ∧ (a.state = .offline →
      (∀ why, code = some why → fails why)
      ∧ (code = none → r.released = false → rests ∧ u.holdDue = none)
      ∧ (code = none → r.released = true → u.state = .engaging ∧ u.order = .brake ∧ u.holdDue = none
          ∧ u.opDue = some (b.site.tb + 3000) ∧ t.claim d k = lowered))
    ∧ (a.state = .faulted → t = heard)
    ∧ (a.state ≠ .offline → a.state ≠ .faulted →
      (∀ why, code = some why → fails why) ∧ (code = none → unasked → fails .drive))
    ∧ (a.state = .testing → quiet →
      (r.test = .pass → u = { heard.axis d k with opDue := none })
      ∧ (r.test = .fail → fails .brakeSuspect) ∧ (r.test = .none → t = heard))
    ∧ (a.state = .releasing → quiet →
      (r.released = true → r.driveOn = true → u.state = .held ∧ u.order = .hold ∧ u.opDue = none
        ∧ u.releases = min (a.releases + 1) 4294967295 ∧ u.verify = decide (a.cfg.wear < u.releases)
        ∧ u.need = a.need ∧ t.claim d k = b.claim d k)
      ∧ (r.released = false ∨ r.driveOn = false → t = heard))
    ∧ (a.state = .moving → quiet →
      (∀ target dur start, a.order = .move target dur start →
        let there := (∀ now, b.site.clock = some now → start ≤ now) ∧ (r.pos - target).natAbs ≤ a.cfg.tol ∧ r.rate = 0
        (there → u.state = .held ∧ u.order = .hold ∧ u.need = a.need ∧ t.claim d k = lowered)
        ∧ (¬there → t = heard))
      ∧ (∀ pts, a.order = .track pts → t = heard))
    ∧ (a.state = .stopping → quiet →
      (r.rate ≠ 0 → t = heard)
      ∧ (r.rate = 0 → a.intent = .brake → u.state = .engaging ∧ u.order = .brake
        ∧ u.opDue = some (b.site.tb + 3000) ∧ u.need = a.need ∧ t.claim d k = b.claim d k)
      ∧ (r.rate = 0 → a.intent = .hold → u.state = .held ∧ u.order = .hold ∧ u.need = a.need
        ∧ ((∃ n w, a.need = some n ∧ n.grant = some w) → t.claim d k = b.claim d k)
        ∧ ((∀ n, a.need = some n → n.grant = none) → t.claim d k = lowered)))
    ∧ (a.state = .engaging → quiet →
      (r.released = true → t = heard)
      ∧ (r.released = false → 0 < b.axisLocks d k ∨ a.need = none ∨ b.site.estop = true →
        rests ∧ u.need = none ∧ u.opDue = none)
      ∧ (r.released = false → b.axisLocks d k = 0 → a.need ≠ none → b.site.estop = false →
        u.state = .braked ∧ u.order = .none ∧ u.need = a.need ∧ u.opDue = none ∧ t.claim d k = b.claim d k
        ∧ u.stage = if b.claim d k = none then .claim else .beacon))
    ∧ (a.state = .braked ∨ a.state = .held ∨ a.state = .locked → quiet → t = heard))
  ∧ (∀ (b : Block) (d : DishId) (k : AxisKind) (n : Need),
    let a := b.axis d k
    let r := b.deliverNeed d k n
    let t := r.1
    let out := a.state = .offline ∨ a.state = .faulted ∨ a.state = .locked
    let stop := 0 < b.axisLocks d k ∨ b.site.estop = true ∨ out
    (stop → (n.grant = none → t = b) ∧ (n.grant ≠ none → t = b.releaseClaim d k ∧ t.claim d k = none ∧ t.axes = b.axes))
    ∧ (0 < b.axisLocks d k → r.2 = some .locked)
    ∧ (b.axisLocks d k = 0 → b.site.estop = true → r.2 = some .estop)
    ∧ (b.axisLocks d k = 0 → b.site.estop = false →
      (a.state = .offline → r.2 = some .offline) ∧ (a.state = .faulted → r.2 = some .fault)
      ∧ (a.state = .locked → r.2 = some .locked))
    ∧ (¬stop → r.2 = none ∧ t.account.claims = b.account.claims ∧ (∀ e j, (e, j) ≠ (d, k) → t.axis e j = b.axis e j)
      ∧ (a.state = .braked → n.grant ≠ none → t.axis d k = { a with need := some n, stage := .beacon }
        ∧ t.waits (.axis d k) = false)
      ∧ (a.state = .braked → n.grant = none → t.axis d k = { a with
        need := some n, stage := if a.stage = .none then .claim else a.stage })
      ∧ (a.state = .stopping → t.axis d k = { a with need := some n, intent := .hold })
      ∧ (a.state ≠ .braked → a.state ≠ .stopping → t.axis d k = { a with need := some n })))
  ∧ ∀ (b : Block) (d : DishId) (k : AxisKind),
    let a := b.axis d k
    let t := b.axisRefused d k
    let u := t.axis d k
    (a.state = .faulted ∨ a.state = .offline → t = b)
    ∧ (a.state ≠ .faulted → a.state ≠ .offline → u.state = .faulted ∧ u.fault = some .refused ∧ u.order = .brake
        ∧ u.need = none ∧ u.opDue = none ∧ u.stage = .none ∧ t.claim d k = none)

/-- HOLD_DISH is checked as TRACK_START is, but for the clock and the queue (R30); with both axes HELD their park timers
start anew under a hold of the dish; a pending HOLD is answered QUEUED again; otherwise its power is asked for: BUSY with
nothing changed, granted, or queued. -/
def Obligations.HoldDishHolds : Prop :=
  ∀ (s : State) (tag : Tag) (n : Nat) (d : DishId), s.takes (.holdDish tag n) → dishOf n = some d →
    s.block.configured d = true →
    let c : Instr := .holdDish tag n
    let b := s.block
    let f := s.found c
    let locked := 0 < b.axisLocks d .az ∨ 0 < b.axisLocks d .el
    let out := ∃ k, (b.axis d k).state = .offline ∨ (b.axis d k).state = .faulted
    let both := (b.axis d .az).state = .held ∧ (b.axis d .el).state = .held
    let ws : List Want := [⟨d, .az, (b.axis d .az).cfg.phold⟩, ⟨d, .el, (b.axis d .el).cfg.phold⟩]
    ((b.dish d).mode ≠ .idle → exec c s = .next (s.refuses c .state))
    ∧ ((b.dish d).mode = .idle →
      (b.site.estop = true → exec c s = .next (s.refuses c .estop))
      ∧ (b.site.estop = false → b.weather.level = .stow → exec c s = .next (s.refuses c .wind))
      ∧ (b.site.estop = false → b.weather.level ≠ .stow →
        (locked → exec c s = .next (s.refuses c .locked))
        ∧ (¬locked → out → exec c s = .next (s.refuses c .state))
        ∧ (¬locked → ¬out →
          (both → exec c s = .next (s.replies ((f.bothAxes fun k u => u.modAxis d k fun a =>
              { a with need := some ⟨.hold, none⟩, parkDue := none }).clearPark d) .ok []))
          ∧ (¬both → (b.dish d).pendingReq = some .hold →
              exec c s = .next (s.replies (f.clearPark d) .queued []))
          ∧ (¬both → (b.dish d).pendingReq ≠ some .hold → b.account.examineDue = false →
            (20 ≤ b.account.waitq.length → exec c s = .next (s.refuses c .busy))
            ∧ (b.account.waitq = [] → b.account.stowq = [] → b.motionFits ws = true →
              exec c s = .next (s.replies (((f.grant ws .motion).takeHold d ws).clearPark d) .ok []))
            ∧ (b.account.waitq.length < 20 →
              b.account.waitq ≠ [] ∨ b.account.stowq ≠ [] ∨ b.motionFits ws = false →
              exec c s = .next (s.replies (((f.enqueue (.hold d) ws).modDish d
                fun x => { x with pendingReq := some .hold }).clearPark d) .queued []))))))

/-! ### Groups (chapter 3) -/

/-- FORM_GROUP is checked in the order of Table 3-3; taken, the lowest empty slot, else the finished group of the
earliest finish order, becomes a FORMED group of PLANNED members in dish order, an L of 0 taken as 6,000, with its
number in each member dish's record and in the reply, and nothing else changes (R44; the flag bytes are log 18's; that
no GROUP_STATE report is sent is log 33's). -/
def Obligations.FormGroupForms : Prop :=
  ∀ (s : State) (tag : Tag) (ds : List Nat) (az el : Int) (pref thenTrack waitWarm limit : Nat),
    let c : Instr := .formGroup tag ds az el pref thenTrack waitWarm limit
    s.takes c →
    let f := s.found c
    let ok := (1 ≤ ds.length ∧ ds.length ≤ 12) ∧ (∀ n ∈ ds, 1 ≤ n ∧ n ≤ 12) ∧ ds.Nodup ∧ (0 ≤ az ∧ az ≤ 359999)
      ∧ (0 ≤ el ∧ el ≤ 90000) ∧ pref ≤ 2 ∧ (limit = 0 ∨ (20 ≤ limit ∧ limit ≤ 6000))
    let known := ∀ d : DishId, d.val + 1 ∈ ds → s.block.configured d = true
    let apart := ∀ d : DishId, d.val + 1 ∈ ds → (s.block.dish d).group = none
    let live := ∀ g, ∃ x, s.block.group g = some x ∧ x.state.live = true
    let member := fun (d : DishId) =>
      ({ dish := d, state := .planned, plan := none, grant := none, arrived := ⟨false, false⟩, drop := none
         late := false } : Member)
    (¬ok → exec c s = .next (s.refuses c .badValue))
    ∧ (ok → ¬known → exec c s = .next (s.refuses c .noSuch))
    ∧ (ok → known → ¬apart → exec c s = .next (s.refuses c .duplicate))
    ∧ (ok → known → apart → live → exec c s = .next (s.refuses c .tableFull))
    ∧ (ok → known → apart → ¬live → ∃ (g : GroupId) (x : Group) (t : Block),
        exec c s = .next (s.replies t .ok [f1 (g.val + 1)])
        ∧ (x.state = .formed ∧ x.az = az ∧ x.el = el ∧ wrapOf pref = some x.pref ∧ x.thenTrack = (thenTrack == 1)
          ∧ x.waitWarm = (waitWarm == 1) ∧ x.limit = (if limit = 0 then 6000 else limit)
          ∧ x.members = (allDishes.filter fun d => ds.contains (d.val + 1)).map member
          ∧ x.n0 = none ∧ x.nStar = none ∧ x.start = none ∧ x.total = none ∧ x.reason = none ∧ x.finishOrder = none)
        ∧ t.group g = some x ∧ (∀ h, h ≠ g → t.group h = s.block.group h)
        ∧ (∀ d : DishId, d.val + 1 ∈ ds → t.dish d = { s.block.dish d with group := some g })
        ∧ (∀ d : DishId, d.val + 1 ∉ ds → t.dish d = s.block.dish d)
        ∧ { t with dishes := f.dishes, planner := { t.planner with groups := f.planner.groups } } = f
        ∧ ((∃ h, s.block.group h = none) → s.block.group g = none ∧ ∀ h, h < g → s.block.group h ≠ none)
        ∧ ((∀ h, s.block.group h ≠ none) → ∃ y, s.block.group g = some y ∧ y.state.live = false
          ∧ ∀ h z m n, s.block.group h = some z → z.state.live = false → y.finishOrder = some m →
              z.finishOrder = some n → m ≤ n))

/-- START_GROUP refused by a check of Table 3-4, in its order, changes nothing but its reply; a target outside a
member's limits is refused with BAD_VALUE and that member's number, the first in dish order (R46). Each member's
azimuth target is the wrap candidate its preference takes of those within its limits (R49), and n0 the greatest of 20
and every axis's least duration (R51). Its checks passed (R47): above 6,000 ds it is refused with TOO_LONG; waiting for
warmth with a cold member it is WARMING; otherwise, no examination being due, it is BUSY with 20 entries waiting, takes
the first duration from n0 that fits and is STARTING, or queues its claim at L and is WAITING. A WARMING group whose
members are all warm is planned anew, STARTING or WAITING by the same rule, or ABORTED with PLAN or BUSY (R48), the
plan recorded also where it is BUSY (R42, R51; that a planning that fails records nothing is log 41's). Each member is
handed over in its order: its dish is in SLEW_WAIT with cause GROUP, its pending request withdrawn, each recorded need
an ungranted GROUP need with its claim kept, a MOVING axis stopped to hold (R33, R47); every change of a dish's mode,
whatever makes it, is reported with its cause (R24). A grant delivers each member's shares as GROUP needs: a BRAKED
axis goes on to the beacon, a STOPPING one holds; a member one of whose axes refuses is DROPPED with the reason, AZ's
first, its dish IDLE (R5, R55, R60). The reply carries the group's state as this leaves it, n0, and n* when granted
(R47). A STARTING group whose axes are all HELD under it is RUNNING from its start time, its axes with a distance sent
their MOVE, their members MOVING, its dishes SLEWING; no other group starts (R56; whom the report names is log 21's).
-/
def Obligations.StartGroupStarts : Prop :=
  (∀ (s : State) (tag : Tag) (n : Nat), s.takes (.startGroup tag n) →
    let c : Instr := .startGroup tag n
    let f := s.found c
    (groupOf n = none → exec c s = .next (s.refuses c .badValue))
    ∧ ∀ g, groupOf n = some g →
      (s.block.group g = none → exec c s = .next (s.refuses c .noSuch))
      ∧ ∀ x, s.block.group g = some x →
        (∀ code, s.block.startRefused x = some code → exec c s = .next (s.refuses c code))
        ∧ (s.block.startRefused x = none →
          (s.block.planGroup x = none → ∃ body, exec c s = .next (s.replies f .badValue body))
          ∧ (∀ before m after, x.members = before ++ m :: after →
            (∀ p ∈ before, s.block.memberTarget p.dish x.az x.el x.pref ≠ none) →
            s.block.memberTarget m.dish x.az x.el x.pref = none →
            exec c s = .next (s.replies f .badValue [f1 (dishNum m.dish)]))
          ∧ ∀ ms, s.block.planGroup x = some ms →
            let n0 := s.block.minDuration ms
            let limit := max x.limit n0
            let cold := x.waitWarm = true ∧ ∃ m ∈ x.members, s.block.cold m.dish = true
            (6000 < n0 → exec c s = .next (s.refuses c .tooLong))
            ∧ (n0 ≤ 6000 → cold → x.nStar = none →
                exec c s = .next (s.replies (((f.recordPlan g ms n0).setGroupState g .warming).handMembers g x) .ok
                  [f1 GroupState.warming.ctorIdx, f2 n0, f1 0, f2 0]))
            ∧ (n0 ≤ 6000 → ¬cold → s.block.account.examineDue = false →
              (20 ≤ s.block.account.waitq.length → exec c s = .next (s.refuses c .busy))
              ∧ (∀ k, s.block.account.waitq = [] → s.block.account.stowq = [] → s.block.stretch ms n0 limit = some k →
                let granted := ((f.grant (f.wantsAt ms k) .motion).recordPlan g ms n0).recordGrant g k (f.wantsAt ms k)
                let u := (granted.handMembers g x).deliverGroup g
                ∃ y, u.group g = some y
                  ∧ exec c s = .next (s.replies u .ok [f1 y.state.ctorIdx, f2 n0, f1 1, f2 k])
                  ∧ ((∀ m ∈ x.members, ∀ j, (s.block.axis m.dish j).state ≠ .locked) → y.state = .starting))
              ∧ (s.block.account.waitq.length < 20 → x.nStar = none →
                s.block.account.waitq ≠ [] ∨ s.block.account.stowq ≠ [] ∨ s.block.stretch ms n0 limit = none →
                exec c s = .next (s.replies ((((f.enqueue (.group g) (f.wantsAt ms limit)).recordPlan g ms n0
                  ).setGroupState g .waiting).handMembers g x) .queued
                  [f1 GroupState.waiting.ctorIdx, f2 n0, f1 0, f2 0])))))
  ∧ (∀ (b : Block) (x : Group),
    let w := b.weather.level
    let every := fun (P : DishId → Prop) => ∀ m ∈ x.members, P m.dish
    let kept := every fun d => b.configured d = true
    let free := every fun d => (b.dish d).mode = .idle ∨ (b.dish d).mode = .trackWait ∨ (b.dish d).mode = .tracking
    let windy := w = .stow ∨ (w = .watch ∧ x.el < b.site.cfg.watchMinEl)
    let unlocked := every fun d => ∀ k, b.axisLocks d k = 0
    let able := every fun d => ∀ k, (b.axis d k).state ≠ .offline ∧ (b.axis d k).state ≠ .faulted
      ∧ (b.axis d k).reported ≠ none
    let r := b.startRefused x
    (x.state ≠ .formed → r = some .state)
    ∧ (x.state = .formed → ¬kept → r = some .noSuch)
    ∧ (x.state = .formed → kept → ¬free → r = some .state)
    ∧ (x.state = .formed → kept → free → b.site.clock = none → r = some .noTime)
    ∧ (x.state = .formed → kept → free → b.site.clock ≠ none →
      (b.site.estop = true → r = some .estop)
      ∧ (b.site.estop = false → windy → r = some .wind)
      ∧ (b.site.estop = false → ¬windy → ¬unlocked → r = some .locked)
      ∧ (b.site.estop = false → ¬windy → unlocked → ¬able → r = some .state)
      ∧ (b.site.estop = false → ¬windy → unlocked → able → r = none)))
  ∧ (∀ (b : Block) (d : DishId) (az el : Int) (pref : WrapPref),
    let ca := (b.axis d .az).cfg
    let ce := (b.axis d .el).cfg
    let cur := b.pos d .az
    let fits := fun (a : Int) => a ∈ [az - 360000, az, az + 360000] ∧ ca.lo ≤ a ∧ a ≤ ca.hi
    let r := b.memberTarget d az el pref
    (¬(ce.lo ≤ el ∧ el ≤ ce.hi ∧ ∃ a, fits a) → r = none)
    ∧ (ce.lo ≤ el → el ≤ ce.hi → ∀ a, fits a → ∃ t, r = some t ∧ t.el = el ∧ fits t.az
      ∧ (pref = .positive → a ≤ t.az) ∧ (pref = .negative → t.az ≤ a)
      ∧ (pref = .nearest → absDiff t.az cur < absDiff a cur
        ∨ (absDiff t.az cur = absDiff a cur ∧ (t.az.natAbs < a.natAbs ∨ (t.az.natAbs = a.natAbs ∧ a ≤ t.az))))))
  ∧ (∀ (b : Block) (x : Group),
    ((∃ m ∈ x.members, b.memberTarget m.dish x.az x.el x.pref = none) → b.planGroup x = none)
    ∧ ((∀ m ∈ x.members, b.memberTarget m.dish x.az x.el x.pref ≠ none) → ∃ ms, b.planGroup x = some ms
      ∧ ms.map (·.1) = x.members.map (·.dish)
      ∧ ∀ p ∈ ms, b.memberTarget p.1 x.az x.el x.pref = some p.2.target
        ∧ p.2.dist = ⟨absDiff p.2.target.az (b.pos p.1 .az), absDiff p.2.target.el (b.pos p.1 .el)⟩))
  ∧ (∀ (b : Block) (ms : List Mover),
    let least := fun (m : Mover) (k : AxisKind) => axisMin (b.axis m.1 k).cfg (b.cold m.1) (m.2.dist.get k)
    let n := b.minDuration ms
    20 ≤ n ∧ (∀ m ∈ ms, ∀ k, least m k ≤ n) ∧ (n = 20 ∨ ∃ m ∈ ms, ∃ k, n = least m k))
  ∧ (∀ (b : Block) (g : GroupId),
    (b.group g = none → b.replan g = b)
    ∧ ∀ x, b.group g = some x →
      let cold := ∃ m ∈ x.members, b.cold m.dish = true
      (x.state ≠ .warming ∨ cold → b.replan g = b)
      ∧ (x.state = .warming → ¬cold →
        (b.planGroup x = none → b.replan g = b.abortGroup g .plan none)
        ∧ ∀ ms, b.planGroup x = some ms →
          let n0 := b.minDuration ms
          let limit := max x.limit n0
          (6000 < n0 → b.replan g = b.abortGroup g .plan none)
          ∧ (n0 ≤ 6000 → b.account.examineDue = false →
            (20 ≤ b.account.waitq.length → b.replan g = (b.recordPlan g ms n0).abortGroup g .busy none)
            ∧ (∀ k, b.account.waitq = [] → b.account.stowq = [] → b.stretch ms n0 limit = some k →
              b.replan g = (((b.grant (b.wantsAt ms k) .motion).recordPlan g ms n0).recordGrant g k (b.wantsAt ms k)
                ).deliverGroup g)
            ∧ (b.account.waitq.length < 20 →
              b.account.waitq ≠ [] ∨ b.account.stowq ≠ [] ∨ b.stretch ms n0 limit = none →
              b.replan g = ((b.enqueue (.group g) (b.wantsAt ms limit)).recordPlan g ms n0).setGroupState g .waiting))))
  ∧ (∀ (b : Block) (d : DishId) (m : Mode) (why : ModeCause),
    let x := b.dish d
    let y := { x with
      mode := m
      blocks := if m = .stowBlocked then x.blocks else none
      intent := if m = .returning then x.intent else none
      dwell := if m = .shedDwell then x.dwell else .stopped }
    (x.mode = m → b.setMode d m why = b.setDish d y)
    ∧ (x.mode ≠ m → b.setMode d m why = (b.setDish d y).report .dishMode (dishNum d) [f1 m.ctorIdx]
        (some (f1 x.mode.ctorIdx)) (f1 why.ctorIdx :: match y.blocks with
          | some r => [f1 1, fb r.locked, fb r.estop, fb r.fault, fb r.offline]
          | none => [f1 0, f1 0, f1 0, f1 0, f1 0])))
  ∧ (∀ (b : Block) (g : GroupId) (x : Group),
    let t := b.handMembers g x
    t = x.members.foldl (fun u m => u.handDish g m.dish) b
    ∧ (∀ d, b.handDish g d = (((b.setMode d .slewWait .group).withdrawPending d).handAxis g d .az).handAxis g d .el)
    ∧ t.account.claims = b.account.claims ∧ t.points = b.points
    ∧ (∀ d, (∀ m ∈ x.members, m.dish ≠ d) → t.dish d = b.dish d ∧ ∀ k, t.axis d k = b.axis d k)
    ∧ ((x.members.map (·.dish)).Nodup → ∀ m ∈ x.members,
      (t.dish m.dish).mode = .slewWait ∧ (t.dish m.dish).pendingReq = none
      ∧ ((b.dish m.dish).pendingReq = some .hold → t.waits (.hold m.dish) = false)
      ∧ ((b.dish m.dish).pendingReq = some .track → t.waits (.track m.dish) = false)
      ∧ ∀ k,
        let a := b.axis m.dish k
        let need : Option Need := if a.need = none then none else some ⟨.group g, none⟩
        (a.state = .moving → (t.axis m.dish k).state = .stopping ∧ (t.axis m.dish k).intent = .hold
          ∧ (t.axis m.dish k).order = .stop ∧ (t.axis m.dish k).need = need)
        ∧ (a.state ≠ .moving → t.axis m.dish k = { a with need := need })))
  ∧ (∀ (b : Block) (g : GroupId) (x : Group), b.group g = some x →
    let t := b.deliverGroup g
    let one := fun (u : Block) (m : Member) => match m.grant with
      | none => u
      | some sh =>
        let az := u.deliverNeed m.dish .az ⟨.group g, some sh.az.claim⟩
        let el := az.1.deliverNeed m.dish .el ⟨.group g, some sh.el.claim⟩
        match az.2, el.2 with
        | some why, _ | none, some why => el.1.dropMember g m.dish why
        | none, none => el.1
    let refuses := fun (d : DishId) (k : AxisKind) =>
      let a := b.axis d k
      if 0 < b.axisLocks d k then some DropReason.locked
      else if b.site.estop = true then some .estop
      else if a.state = .offline then some .offline
      else if a.state = .faulted then some .fault
      else if a.state = .locked then some .locked
      else none
    t = x.members.foldl one b
    ∧ (x.state = .starting → (x.members.map (·.dish)).Nodup → ∀ m ∈ x.members, ∀ sh, m.grant = some sh →
      (∀ why, refuses m.dish .az = some why ∨ (refuses m.dish .az = none ∧ refuses m.dish .el = some why) →
        (t.dish m.dish).mode = .idle
        ∧ ∃ y, t.group g = some y ∧ ∃ z ∈ y.members, z.dish = m.dish ∧ z.state = .dropped ∧ z.drop = some why)
      ∧ (refuses m.dish .az = none → refuses m.dish .el = none → ∀ k,
        (t.axis m.dish k).need = some ⟨.group g, some (sh.get k).claim⟩ ∧ t.claim m.dish k = b.claim m.dish k
        ∧ ((b.axis m.dish k).state = .braked → (t.axis m.dish k).state = .braked ∧ (t.axis m.dish k).stage = .beacon)
        ∧ ((b.axis m.dish k).state = .stopping → (t.axis m.dish k).state = .stopping
          ∧ (t.axis m.dish k).intent = .hold)))
    ∧ ((∀ m ∈ x.members, ∀ k, refuses m.dish k = none) → t.group g = some x))
  ∧ ∀ (b : Block) (g : GroupId) (by_ : Option DishId),
    let t := b.startGroup g by_
    let underway := fun (m : Member) => m.state = .planned ∨ m.state = .moving
    let ready := fun (x : Group) => x.state = .starting
      ∧ ∀ m ∈ x.members, underway m → m.plan ≠ none → ∀ k, (b.axis m.dish k).state = .held
        ∧ ∃ n, (b.axis m.dish k).need = some n ∧ n.who = .group g
    ((∀ x, b.group g = some x → ¬ready x) → t = b)
    ∧ ∀ x n, b.group g = some x → ready x → x.nStar = some n → (x.members.map (·.dish)).Nodup →
      ∃ y, t.group g = some y ∧ y.state = .running ∧ y.start = some b.moveStart ∧ y.nStar = some n
        ∧ ∀ m ∈ x.members, underway m → ∀ p, m.plan = some p →
          let served := fun (k : AxisKind) (dist : Nat) (target : Int) =>
            (dist = 0 → t.axis m.dish k = b.axis m.dish k)
            ∧ (dist ≠ 0 → (t.axis m.dish k).state = .moving ∧ (t.axis m.dish k).order = .move target n b.moveStart
              ∧ (t.axis m.dish k).need = (b.axis m.dish k).need ∧ t.claim m.dish k = b.claim m.dish k)
          (t.dish m.dish).mode = .slewing ∧ served .az p.dist.az p.target.az ∧ served .el p.dist.el p.target.el
          ∧ ∃ z ∈ y.members, z.dish = m.dish
            ∧ z.state = if p.dist.az = 0 ∧ p.dist.el = 0 then m.state else .moving

/-- ABORT_GROUP is refused with BAD_VALUE, NO_SUCH or STATE; taken, the group is ABORTED with reason REQUEST and the
next finish order (a running count, log 44), its entry leaves the queue, its dishes leave it, and past FORMED its
members are released (R62): a dish in SLEW_WAIT or SLEWING is IDLE, its axes held for it by R29's table, a share of an
axis HELD, released or engaging falling to P_hold; the latch and lost axes are the model's exceptions (log 29). A
member that loses an axis is DROPPED with the reason in a STARTING or RUNNING group, its dish IDLE (R60); in a WARMING
or WAITING group the group is ABORTED for it (R61). A member whose axes have arrived is ARRIVED; its dish is IDLE,
held, or asks to track where the group is flagged and points wait (R57, Table 3-5); that an axis with no distance has
arrived "at or after the start time" is judged by the clock of the visit's end (log 37). The last member to settle
makes the group DONE where all are ARRIVED, PARTIAL otherwise (R59). Where an examination is due before the asking
(log 8) the tracking is not stated. -/
def Obligations.AbortGroupEnds : Prop :=
  let underway := fun (m : Member) => m.state = .planned ∨ m.state = .moving
  let holding := fun (b t : Block) (d : DishId) (k : AxisKind) =>
    let old := b.axis d k
    let a := t.axis d k
    let low := ∀ c, t.claim d k = some c → c.watts ≤ old.cfg.phold
    b.site.estop = false → b.axisLost d k = false →
      (old.state = .moving → a.state = .stopping ∧ a.intent = .hold)
      ∧ (old.state = .stopping → a.state = .stopping ∧ a.intent = .hold)
      ∧ (old.state = .held ∨ old.state = .testing ∨ old.state = .releasing → a.state = old.state ∧ low)
      ∧ (old.state = .engaging → a.state = .engaging)
      ∧ (old.state = .braked → old.stage ≠ .none → a.state = .braked ∧ a.stage = old.stage ∧ low)
      ∧ (old.state = .braked → old.stage = .none → a = old)
      ∧ (old.state ≠ .braked ∨ old.stage ≠ .none → a.need = some ⟨.hold, none⟩)
  (∀ (s : State) (tag : Tag) (n : Nat), s.takes (.abortGroup tag n) →
    let c : Instr := .abortGroup tag n
    (groupOf n = none → exec c s = .next (s.refuses c .badValue))
    ∧ ∀ g, groupOf n = some g →
      (s.block.group g = none → exec c s = .next (s.refuses c .noSuch))
      ∧ ∀ x, s.block.group g = some x →
        (x.state.live = false → exec c s = .next (s.refuses c .state))
        ∧ (x.state.live = true →
            exec c s = .next (s.replies ((s.found c).abortGroup g .request none) .ok [])
            ∧ ((s.found c).abortGroup g .request none).group g = some { x with
                state := .aborted, reason := some .request, finishOrder := some s.block.planner.finished }))
  ∧ (∀ (b : Block) (g : GroupId) (r : EndReason) (by_ : Option DishId) (x : Group), b.group g = some x →
    let t := b.abortGroup g r by_
    t.group g = some { x with state := .aborted, reason := some r, finishOrder := some b.planner.finished }
    ∧ (∀ h, h ≠ g → t.group h = b.group h) ∧ (∀ m ∈ x.members, (t.dish m.dish).group = none)
    ∧ t.waits (.group g) = false
    ∧ (x.state = .formed → t.axes = b.axes ∧ ∀ d, (t.dish d).mode = (b.dish d).mode)
    ∧ (x.state ≠ .formed → (x.members.map (·.dish)).Nodup → ∀ m ∈ x.members,
      let slewing := (b.dish m.dish).mode = .slewWait ∨ (b.dish m.dish).mode = .slewing
      (slewing → (t.dish m.dish).mode = .idle ∧ ∀ k, holding b t m.dish k
        ∧ ((b.axis m.dish k).state = .engaging → ∀ c, t.claim m.dish k = some c → c.watts ≤ (b.axis m.dish k).cfg.phold))
      ∧ (¬slewing → (t.dish m.dish).mode = (b.dish m.dish).mode ∧ ∀ k, t.axis m.dish k = b.axis m.dish k)))
  ∧ (∀ (b : Block) (g : GroupId) (d : DishId) (why : DropReason) (x : Group), b.group g = some x →
    (x.members.map (·.dish)).Nodup →
    let t := b.groupLoses g d why
    let afoot := x.state = .starting ∨ x.state = .running
    let before := x.state = .warming ∨ x.state = .waiting
    (¬afoot → ¬before → t = b)
    ∧ (before →
      t = (b.modMember g d fun m => { m with state := .dropped, drop := some why }).abortGroup g why.toEnd (some d)
      ∧ ∃ y, t.group g = some y ∧ y.state = .aborted ∧ y.reason = some why.toEnd
        ∧ ∀ z ∈ y.members, z.dish = d → z.state = .dropped ∧ z.drop = some why)
    ∧ (afoot → (∀ m ∈ x.members, m.dish = d → ¬underway m) → t = b)
    ∧ ∀ m ∈ x.members, afoot → m.dish = d → underway m →
      (t.dish d).mode = .idle ∧ (∀ k, holding b t d k)
      ∧ ∃ y, t.group g = some y ∧ (∃ z ∈ y.members, z.dish = d ∧ z.state = .dropped ∧ z.drop = some why)
        ∧ ((∀ z ∈ x.members, z.dish ≠ d → ¬underway z) → y.state = .partly ∧ y.finishOrder = some b.planner.finished)
        ∧ ((∃ z ∈ x.members, z.dish ≠ d ∧ underway z) → y.state = x.state ∨ (x.state = .starting ∧ y.state = .running)))
  ∧ ∀ (b : Block) (d : DishId),
    let t := b.judgeMember d
    ((b.dish d).group = none → t = b)
    ∧ ∀ g x start m p, (b.dish d).group = some g → b.group g = some x → x.state = .running → x.start = some start →
      (x.members.map (·.dish)).Nodup → m ∈ x.members → m.dish = d → underway m → m.plan = some p →
      let came := fun (k : AxisKind) (dist : Nat) (target : Int) (seen : Bool) =>
        let a := b.axis d k
        seen = true ∨ (dist ≠ 0 ∧ a.state = .held)
        ∨ (dist = 0 ∧ b.reached start = true ∧ ∃ r, a.reported = some r ∧ absDiff r.pos target ≤ a.cfg.tol ∧ r.rate = 0)
      let here := came .az p.dist.az p.target.az m.arrived.az ∧ came .el p.dist.el p.target.el m.arrived.el
      let tracks := x.thenTrack = true ∧ b.queue d ≠ []
      let others := fun (P : Member → Prop) => ∀ z ∈ x.members, z.dish ≠ d → P z
      (¬here → t.axes = b.axes ∧ t.dishes = b.dishes ∧ ∃ y, t.group g = some y ∧ y.state = .running
        ∧ ∃ z ∈ y.members, z.dish = d ∧ z.state = m.state)
      ∧ (here → ¬tracks → (t.dish d).mode = .idle
        ∧ ∀ k, (t.axis d k).state = (b.axis d k).state ∧ (t.axis d k).need = some ⟨.hold, none⟩)
      ∧ (here → ¬tracks ∨ b.account.examineDue = false →
        ∃ y, t.group g = some y ∧ (∃ z ∈ y.members, z.dish = d ∧ z.state = .arrived)
          ∧ ((others fun z => z.state = .arrived) → y.state = .done)
          ∧ ((others fun z => ¬underway z) → ¬(others fun z => z.state = .arrived) → y.state = .partly)
          ∧ (¬(others fun z => ¬underway z) → y.state = .running))
      ∧ (here → tracks → b.account.examineDue = false →
        let full := 20 ≤ b.account.waitq.length
        let free := b.account.waitq = [] ∧ b.account.stowq = [] ∧ b.motionFits (b.trackWants d) = true
        (full → (t.dish d).mode = .idle)
        ∧ (¬full → ¬free → (t.dish d).mode = .trackWait ∧ (t.dish d).pendingReq = some .track)
        ∧ (free → b.site.estop = false → (∀ k, (b.axis d k).state = .held ∧ b.axisLocks d k = 0) →
          (t.dish d).mode = .tracking ∧ ∀ k, ∃ n, (t.axis d k).need = some n ∧ n.who = .track))

/-- The least duration of an axis (R50): the limits halved, and raised to 1, while cold; the greater of the least n by the
rate and the least n by the acceleration. -/
def Obligations.LeastDuration : Prop :=
  ∀ (c : AxisCfg) (cold : Bool) (dist : Nat), 0 < dist → 0 < c.v → 0 < c.a → 1600 * dist ≤ 2 ^ 64 →
    let v := if cold then max 1 (c.v / 2) else c.v
    let a := if cold then max 1 (c.a / 2) else c.a
    let n := axisMin c cold dist
    40 * dist ≤ n * (3 * v) ∧ 1600 * dist ≤ 3 * a * (n * n)
    ∧ ∀ m, 40 * dist ≤ m * (3 * v) → 1600 * dist ≤ 3 * a * (m * m) → n ≤ m

/-- The rate and claim of an axis at a duration, and the claim of a set of movers as their sum; at a duration not below
its n_rate, its rate lies within its limit in force and its claim within P_hold or Pmax; and a grant of
the amounts of a duration writes those shares into the member records (R52). -/
def Obligations.SharesAtADuration : Prop :=
  (∀ (c : AxisCfg) (dist n : Nat), 0 < n → 0 < c.v →
    (dist = 0 → shareAt c dist n = ⟨0, c.phold⟩)
    ∧ (0 < dist →
        let v := (shareAt c dist n).rate
        (40 * dist ≤ v * (3 * n) ∧ ∀ u, 40 * dist ≤ u * (3 * n) → v ≤ u)
        ∧ (c.phold ≤ (shareAt c dist n).claim ∧ c.pmax * v ≤ (shareAt c dist n).claim * c.v)
        ∧ (∀ w, c.phold ≤ w → c.pmax * v ≤ w * c.v → (shareAt c dist n).claim ≤ w)
        ∧ ∀ cold : Bool,
            let top := if cold then max 1 (c.v / 2) else c.v
            40 * dist ≤ n * (3 * top) → v ≤ top ∧ (shareAt c dist n).claim ≤ max c.phold c.pmax))
  ∧ (∀ (b : Block) (ms : List Mover) (n : Nat),
      total (b.wantsAt ms n) = (ms.map fun m =>
        (shareAt (b.axis m.1 .az).cfg m.2.dist.az n).claim + (shareAt (b.axis m.1 .el).cfg m.2.dist.el n).claim).sum)
  ∧ ∀ (b : Block) (g : GroupId) (n : Nat) (x : Group), b.group g = some x →
      (x.members.map (·.dish)).Nodup → (∀ m ∈ x.members, m.state = .planned) →
      ∃ y, (b.recordGrant g n (b.wantsAt x.movers n)).group g = some y ∧ y.nStar = some n
        ∧ y.members = x.members.map fun m =>
        match m.plan with
        | some p => { m with grant := some ⟨shareAt (b.axis m.dish .az).cfg p.dist.az n,
            shareAt (b.axis m.dish .el).cfg p.dist.el n⟩ }
        | none => m

/-- The stretch search takes the least duration from n0 to L whose claim passes the motion fit test, and none where none
passes (R53). -/
def Obligations.StretchTakesTheLeast : Prop :=
  ∀ (b : Block) (ms : List Mover) (n0 limit : Nat), n0 ≤ limit →
    (∀ n, b.stretch ms n0 limit = some n →
      n0 ≤ n ∧ n ≤ limit ∧ b.motionFits (b.wantsAt ms n) = true
      ∧ ∀ m, n0 ≤ m → m < n → b.motionFits (b.wantsAt ms m) = false)
    ∧ (b.stretch ms n0 limit = none → ∀ m, n0 ≤ m → m ≤ limit → b.motionFits (b.wantsAt ms m) = false)

/-! ### Weather and protection (chapters 5, 6, 8 and 11) -/

/-- WEATHER_ENABLE makes a DISABLED entry WARMING from nothing and joins its node to the cycle, and leaves an enabled
one; WEATHER_DISABLE clears an enabled entry and takes its node out of the cycle, of the cycle in progress too, a
successor that waits beginning where no visit is left (R155), the figures following where it was ACTIVE; FORGET_WEATHER
makes each named entry that is enabled WARMING from nothing and leaves the others. WEATHER_ENABLE answers the state of
its entry, WEATHER_DISABLE OK with an empty body, FORGET_WEATHER the states of all eight (R85 to R87, R166). The node
that leaves is UNKNOWN, its change of reach reported (R161); that the report carries its counts at 0 and comes ahead of
the WEATHER_NODE report, and that the node loses its last status sequence too, is the model's choice (log 22). -/
def Obligations.WeatherRequests : Prop :=
  ∀ (s : State) (tag : Tag),
    (∀ addr, s.takes (.weatherEnable tag addr) →
      let c : Instr := .weatherEnable tag addr
      let f := s.found c
      (wxOf addr = none → exec c s = .next (s.refuses c .badValue))
      ∧ ∀ n, wxOf addr = some n →
        let new := { s.block.wx n with state := .warming, warm := 0, reading := none }
        let node := { s.block.node (.wx n) with
          reach := .unknown, missA := 0, missB := 0, seq := 0, lastOrder := none, lastStatus := none }
        ((s.block.wx n).state = .disabled →
          exec c s = .next (s.replies (((f.setWx n new).setNode (.wx n) node).tellWx n .enable) .ok
            [f1 WxState.warming.ctorIdx]))
        ∧ ((s.block.wx n).state ≠ .disabled →
          exec c s = .next (s.replies f .ok [f1 (s.block.wx n).state.ctorIdx])))
    ∧ (∀ addr, s.takes (.weatherDisable tag addr) →
      let c : Instr := .weatherDisable tag addr
      let f := s.found c
      (wxOf addr = none → exec c s = .next (s.refuses c .badValue))
      ∧ ∀ n, wxOf addr = some n →
        let new := { s.block.wx n with state := .disabled, warm := 0, reading := none }
        let was := (s.block.node (.wx n)).reach
        let node := { s.block.node (.wx n) with reach := .unknown, missA := 0, missB := 0, lastStatus := none }
        let left := (f.setWx n new).setNode (.wx n) node
        let t := if was = .unknown then left
          else left.report .nodeReach (n.val + 17) [f1 Reach.unknown.ctorIdx] (some (f1 was.ctorIdx)) [f1 0, f1 0]
        let u := ({ t with field := { t.field with todo := t.field.todo.filter fun r => r != NodeRef.wx n } }).tellWx n .disable
        ((s.block.wx n).state = .disabled → exec c s = .next (s.replies f .ok []))
        ∧ ((s.block.wx n).state = .warming → exec c s = .next (s.replies u.nextCycle .ok []))
        ∧ ((s.block.wx n).state = .active → exec c s = .next (s.replies u.figuresChanged.nextCycle .ok [])))
    ∧ ∀ mask, s.takes (.forgetWeather tag mask) →
      let c : Instr := .forgetWeather tag mask
      let f := s.found c
      let u := f.forgetAll mask
      let states := allWeather.map fun n => f1 (u.wx n).state.ctorIdx
      exec c s = .next (s.replies u .ok states) ∧ (mask = 0 → u = f)
      ∧ ∀ n, u.wx n = if mask.getLsbD n.val = true ∧ (s.block.wx n).state ≠ .disabled then
          { s.block.wx n with state := .warming, warm := 0, reading := none }
        else s.block.wx n

/-- STOW_NOW and STOW_RELEASE set and clear the host force and have the level evaluated; under STOW_NOW it is STOW
(R97). An evaluation makes at most one change of level: to STOW for the mean, the gust, the unknown wind or the force,
in that order; CALM to WATCH for the mean or the gust (the mean where both hold, log 45); WATCH to CALM after the watch
release hold; STOW to WATCH after the release hold while no force is set (R93 to R96). A level that enters STOW aborts
every live group, withdraws every HOLD request and takes every configured dish into stow; one that leaves it empties
the stow-pending list and treats each dish by R114. On entering WATCH, from CALM or from STOW, every queued point below
the watch minimum is raised to it, within the upper soft limit, and marked clamped, with one CLAMPED report of a dish's
first where its episode was closed (R38, R98). A dish taken into stow loses its internal move and its request, writes
its context where it has none (not from STOWED, log 36) as Table 6-3 gives it (R103; a position never reported is 0,
log 25), and is STOW_BLOCKED with the reasons that hold, or STOWING (R104, R108); under STOW its AZ axis is braked, its
EL axis is braked where it stands at stow and otherwise stopped to wait for the stow claim (R105), whose request is
entered and tried at once (R76, R77); the need of a MOVING axis so braked is lost (log 12), the EL axis keeps its claim
while it waits, and a BRAKED one at stow gives it back (log 13). STOWING, it is blocked by a first reason, its entry
withdrawn and its axes braked; STOW_BLOCKED, it follows its reasons and stows when none is left (R108, R109). An EL
axis HELD under its STOW need is sent its brake at stow, or the stow move in the least duration its stow rate allows
(R106); both axes braked after the stow, the dish is STOWED (R107). Leaving STOW, a dish is braked where it stands and
is IDLE, waits STOWED, or is resumed (R114). The causes of its reports are not stated here (log 21). -/
def Obligations.LevelRules : Prop :=
  let braking := fun (b t : Block) (d : DishId) (k : AxisKind) =>
    let old := (b.axis d k).state
    let a := t.axis d k
    old ≠ .locked → old ≠ .faulted → old ≠ .offline →
      a.need = none
      ∧ (old = .held → a.state = .engaging ∧ a.order = .brake)
      ∧ (old = .moving ∨ old = .stopping → a.state = .stopping ∧ a.intent = .brake)
      ∧ (old = .braked → a.state = .braked ∧ a.stage = .none ∧ t.claim d k = none)
      ∧ (old = .testing ∨ old = .releasing → a.state = old ∧ (t.dish d).parkReq.get k = true)
      ∧ (old = .engaging → a.state = .engaging)
  let begun := fun (b t : Block) (d : DishId) =>
    let old := b.axis d .el
    let stands := (old.state = .braked ∨ old.state = .engaging ∨ old.state = .held)
      ∧ ∃ r, old.reported = some r ∧ absDiff r.pos 89000 ≤ old.cfg.tol
    braking b t d .az
    ∧ (stands → braking b t d .el ∧ t.account.stowq = b.account.stowq)
    ∧ (¬stands → ∃ u : Block,
      let a := u.axis d .el
      d ∈ u.account.stowq ∧ (∀ e, e ≠ d → (e ∈ u.account.stowq ↔ e ∈ b.account.stowq)) ∧ a.need = none
      ∧ (old.state = .moving → a.state = .stopping ∧ a.intent = .hold)
      ∧ (old.state = .braked → a.stage = .none)
      ∧ (old.state ≠ .moving → a.state = old.state)
      ∧ (b.move d = none → u.claim d .el = b.claim d .el)
      ∧ (d ∉ b.account.stowq → t = u.examineStow) ∧ (d ∈ b.account.stowq → t = u))
  (∀ (s : State) (tag : Tag),
    (s.takes (.stowNow tag) →
      let f := s.found (.stowNow tag)
      let u := ({ f with weather := { f.weather with force := true } }).evaluate
      exec (.stowNow tag) s = .next (s.replies u .ok u.levelReply) ∧ u.weather.level = .stow
      ∧ u.weather.force = true)
    ∧ (s.takes (.stowRelease tag) →
      let f := s.found (.stowRelease tag)
      let u := ({ f with weather := { f.weather with force := false } }).evaluate
      exec (.stowRelease tag) s = .next (s.replies u .ok u.levelReply) ∧ u.weather.force = false))
  ∧ ∀ b : Block,
    let c := b.site.cfg
    let w := b.weather
    let known := b.windKnown = true
    let below := fun (mean gust : Nat) => known ∧ b.siteMean < mean ∧ b.siteGust < gust
    let held := w.hold = .complete ∨ ∃ n, w.hold = .running n ∧ c.relHold ≤ n
    let raised := fun (d : DishId) (p : Point) =>
      if p.el < c.watchMinEl then { p with el := min (b.axis d .el).cfg.hi c.watchMinEl, clamped := true } else p
    (w.level = .stow →
      (below c.relMean c.relGust → held → w.force = false →
        b.evaluate.weather.level = .watch ∧ b.evaluate.weather.cause = .release)
      ∧ (¬(below c.relMean c.relGust ∧ held ∧ w.force = false) →
        b.evaluate.weather.level = .stow ∧ b.evaluate.weather.cause = w.cause))
    ∧ (w.level ≠ .stow →
      let mean := known ∧ c.stowMean ≤ b.siteMean
      let gust := known ∧ c.stowGust ≤ b.siteGust
      let graced := ¬known ∧ c.grace ≤ w.unknown.getD 0
      let went := fun (lv : Level) (why : LevelCause) =>
        b.evaluate.weather.level = lv ∧ b.evaluate.weather.cause = why
      (mean → went .stow .mean) ∧ (¬mean → gust → went .stow .gust)
      ∧ (¬mean → ¬gust → graced → went .stow .unknown)
      ∧ (¬mean → ¬gust → ¬graced → w.force = true → went .stow .force)
      ∧ (¬mean → ¬gust → ¬graced → w.force = false →
        (w.level = .calm →
          (known → c.watchMean ≤ b.siteMean → went .watch .mean)
          ∧ (known → b.siteMean < c.watchMean → c.watchGust ≤ b.siteGust → went .watch .gust)
          ∧ (¬known ∨ (b.siteMean < c.watchMean ∧ b.siteGust < c.watchGust) → went .calm w.cause))
        ∧ (w.level = .watch →
          (below c.watchRelMean c.watchRelGust → 300 ≤ w.watchHold.getD 0 → went .calm .calmed)
          ∧ (¬(below c.watchRelMean c.watchRelGust ∧ 300 ≤ w.watchHold.getD 0) → went .watch w.cause))))
    ∧ (w.level ≠ .stow → b.evaluate.weather.level = .stow →
      (∀ g x, b.evaluate.group g = some x → x.state.live = false)
      ∧ ∀ d, (b.evaluate.dish d).pendingReq ≠ some .hold
        ∧ (b.configured d = true →
          let m := (b.evaluate.dish d).mode
          m = .stowing ∨ m = .stowed ∨ m = .stowBlocked))
    ∧ (w.level = .stow → b.evaluate.weather.level ≠ .stow → ∃ u : Block,
      u.weather.level = .watch ∧ u.account.stowq = [] ∧ u.account.claims = b.account.claims ∧ u.dishes = b.dishes
      ∧ u.axes = b.axes ∧ u.points = b.points ∧ u.planner = b.planner ∧ u.site = b.site
      ∧ b.evaluate = ((u.each allDishes fun d t => t.leaveStowDish d).each allDishes fun d t => t.raisePoints d).settleTimers)
    ∧ (w.level = .calm → b.evaluate.weather.level = .watch →
      (∀ d, b.evaluate.queue d = (b.queue d).map (raised d))
      ∧ ∃ u : Block, u.weather.level = .watch ∧ u.axes = b.axes ∧ u.dishes = b.dishes ∧ u.points = b.points
        ∧ u.planner = b.planner ∧ u.account = b.account ∧ u.site = b.site
        ∧ b.evaluate = (u.each allDishes fun d t => t.raisePoints d).settleTimers)
    ∧ ∀ d : DishId,
      let x := b.dish d
      let r := b.blockReasons d
      let blocked := 0 < b.axisLocks d .az ∨ 0 < b.axisLocks d .el ∨ b.site.estop = true
        ∨ ∃ k, (b.axis d k).state = .faulted ∨ (b.axis d k).state = .offline
      let el := b.axis d .el
      let stowed := ∃ r, el.reported = some r ∧ absDiff r.pos 89000 ≤ el.cfg.tol
      (let t := b.takeIntoStow d
       t.move d = none ∧ (t.dish d).pendingReq = none ∧ (t.dish d).intent = none ∧ (t.dish d).dwell = .stopped
       ∧ t.queue d = b.queue d
       ∧ (t.dish d).context = (if x.context ≠ none ∨ x.mode = .stowBlocked ∨ x.mode = .stowed then x.context
         else some (b.contextNow d .wind))
       ∧ (blocked → (t.dish d).mode = .stowBlocked ∧ (t.dish d).blocks = some r)
       ∧ (¬blocked → (t.dish d).mode = .stowing ∧ (t.dish d).blocks = none ∧ (w.level = .stow → begun b t d)))
      ∧ (∀ o : Origin,
         let saved := fun (work : Work) (at_ : Option AzEl) => b.contextNow d o = ⟨o, work, at_, b.site.clock.getD 0⟩
         let both := (b.axis d .az).state = .held ∧ (b.axis d .el).state = .held
         (x.mode = .idle → both → saved .idle (some ⟨b.pos d .az, b.pos d .el⟩))
         ∧ (x.mode = .idle → ¬both → saved .idle none)
         ∧ (x.mode = .trackWait ∨ x.mode = .tracking → saved .tracking none)
         ∧ (x.mode = .slewWait ∨ x.mode = .slewing → saved .idle none)
         ∧ ∀ i, x.mode = .returning → x.intent = some i →
           (i.work = .idle → saved .idle (some i.target)) ∧ (i.work = .tracking → saved .tracking none))
      ∧ (let t := b.raisePoints d
         let low := c.watchMinEl
         let put := b.setQueue d ((b.queue d).map (raised d))
         ((∀ p ∈ b.queue d, low ≤ p.el) → t = b)
         ∧ ∀ before p after, b.queue d = before ++ p :: after → (∀ q ∈ before, low ≤ q.el) → p.el < low →
           (x.clampOpen = true → t = put)
           ∧ (x.clampOpen = false → t = (put.setDish d { x with clampOpen := true }).tell .clamped (dishNum d)
             [f6 p.time, s4 p.sky, s4 p.el, s4 p.az, s4 (min (b.axis d .el).cfg.hi low)]))
      ∧ (let t := b.settleBlocks d
         (x.mode ≠ .stowing → x.mode ≠ .stowBlocked → t = b)
         ∧ (x.mode = .stowing → ¬blocked → t = b)
         ∧ (x.mode = .stowing → blocked → (t.dish d).mode = .stowBlocked ∧ (t.dish d).blocks = some r
           ∧ (t.dish d).context = x.context ∧ d ∉ t.account.stowq
           ∧ ∀ k, b.axisLocks d k = 0 → braking b t d k)
         ∧ (x.mode = .stowBlocked → blocked → (t.dish d).mode = .stowBlocked ∧ (t.dish d).blocks = some r ∧ t.axes = b.axes)
         ∧ (x.mode = .stowBlocked → ¬blocked → w.level = .stow →
           (t.dish d).mode = .stowing ∧ (t.dish d).context = x.context ∧ begun b t d))
      ∧ (let t := b.pursueStow d
         let served := x.mode = .stowing ∧ el.state = .held ∧ ∃ n, el.need = some n ∧ n.who = .stow
         let far := absDiff 89000 (b.pos d .el)
         (¬served → t = b)
         ∧ (served → stowed → (t.axis d .el).state = .engaging ∧ (t.axis d .el).order = .brake ∧ (t.axis d .el).need = none)
         ∧ (served → ¬stowed → 0 < el.cfg.stowRate → ∃ dur,
           (t.axis d .el).state = .moving ∧ (t.axis d .el).order = .move 89000 dur b.moveStart
           ∧ (t.axis d .el).need = el.need ∧ t.claim d .el = b.claim d .el
           ∧ 10 * far ≤ dur * el.cfg.stowRate ∧ (∀ n, 10 * far ≤ n * el.cfg.stowRate → dur ≤ n)
           ∧ (b.site.clock = none → b.moveStart = 0)))
      ∧ (let braked := x.mode = .stowing ∧ (∀ k, (b.axis d k).state = .braked ∧ (b.axis d k).need = none)
           ∧ d ∉ b.account.stowq
         (braked → ((b.finishStow d).dish d).mode = .stowed) ∧ (¬braked → b.finishStow d = b))
      ∧ (let t := b.leaveStowDish d
         let halted := x.mode = .stowing ∨ x.mode = .stowBlocked
         (¬halted → x.mode ≠ .stowed → t = b)
         ∧ (halted ∨ x.mode = .stowed → (x.context = none ∨ c.resume = .manual →
           (t.dish d).mode = (if x.context = none then .idle else .stowed) ∧ (t.dish d).blocks = none
           ∧ (t.dish d).context = x.context ∧ (x.mode = .stowed → t.axes = b.axes)
           ∧ (halted → ∀ k, braking b t d k)))
         ∧ (x.context ≠ none → c.resume = .auto →
           (x.mode = .stowed → t = b.resumeDish d)
           ∧ (halted → t = Block.resumeDish (b.brakeBoth d) d)))

/-- SHED is refused with WIND for a STOWING dish (R107; between it and Table 6-4 log 36 decides), otherwise with the
first code of Table 6-4 that holds, TOO_LONG or BUSY as the planner gives; taken, the context is written, the dish is
SHEDDING, its axes are stopped and held, and its move is begun, OK when granted and QUEUED when it waits (R110).
RESUME is refused with the first code of Table 6-6, TOO_LONG or BUSY where the return asked for would be, or makes the
resume (R117). CLEAR_CONTEXT discards the context, and off STOW makes a dish that waits under it IDLE (R118). A resume
clears the context; one that tracked drops its past points and returns to the first that is left, one that held
returns to its saved position, the elevation raised to the watch minimum under WATCH; with neither it is IDLE; the
move refused, it is IDLE, its intent gone (R115). An internal move is planned to the target held to the limits: PLAN
above 6,000 ds, BUSY at 20 entries, STARTING at the first duration that fits, else WAITING with its claim at 6,000
(R64; no examination being due, log 8). Its shares are delivered as INTERNAL needs; one refused ends it. It starts
when both axes are HELD under it, and arrives when both have arrived (R65; by the clock of the visit's end, log 37): a
shed goes to its dwell, its axes to their brakes (R111), a return to IDLE under a hold, or drops past points and asks
to track (R116). Ended early, its entry leaves, its axes go R29's way, its dish keeping what that leaves of its
record, where park requests alone may change (R31), a shed's context is discarded, and the dish is IDLE (R65, R111,
R116). So it ends when an axis of its dish becomes LOCKED, FAULTED or OFFLINE or its lock count rises from zero (R65).
-/
def Obligations.ShedAndResume : Prop :=
  let came := fun (b : Block) (d : DishId) (start : Nat) (k : AxisKind) (dist : Nat) (target : Int) (seen : Bool) =>
    let a := b.axis d k
    seen = true ∨ (dist ≠ 0 ∧ a.state = .held)
    ∨ (dist = 0 ∧ b.reached start = true ∧ ∃ r, a.reported = some r ∧ absDiff r.pos target ≤ a.cfg.tol ∧ r.rate = 0)
  (∀ (s : State) (tag : Tag) (n : Nat) (d : DishId), s.takes (.shed tag n) → dishOf n = some d →
    s.block.configured d = true →
    let c : Instr := .shed tag n
    let b := s.block
    let f := s.found c
    let mode := (b.dish d).mode = .idle ∨ (b.dish d).mode = .tracking
    let locked := 0 < b.axisLocks d .az ∨ 0 < b.axisLocks d .el
    let out := ∃ k, (b.axis d k).state = .offline ∨ (b.axis d k).state = .faulted ∨ (b.axis d k).reported = none
    let asked := f.askMove d ⟨b.pos d .az, 15000⟩
    ((b.dish d).mode = .stowing → exec c s = .next (s.refuses c .wind))
    ∧ (¬mode → (b.dish d).mode ≠ .stowing → exec c s = .next (s.refuses c .state))
    ∧ (mode → b.site.clock = none → exec c s = .next (s.refuses c .noTime))
    ∧ (mode → b.site.clock ≠ none →
      (b.site.estop = true → exec c s = .next (s.refuses c .estop))
      ∧ (b.site.estop = false → b.weather.level ≠ .calm → exec c s = .next (s.refuses c .wind))
      ∧ (b.site.estop = false → b.weather.level = .calm →
        (locked → exec c s = .next (s.refuses c .locked))
        ∧ (¬locked → out → exec c s = .next (s.refuses c .state))
        ∧ (¬locked → ¬out →
          (asked = .error .plan → exec c s = .next (s.refuses c .tooLong))
          ∧ (∀ why, why ≠ .plan → asked = .error why → exec c s = .next (s.refuses c .busy))
          ∧ ∀ t granted, asked = .ok (t, granted) →
            let saved := (t.saveContext d .shed).modDish d fun x => { x with deferred := false, pendingReq := none }
            let held := ((saved.setMode d .shedding .shed).orderHold d .az).orderHold d .el
            exec c s = .next (s.replies ((held.holdNeeds d).beginMove d granted)
              (if granted = none then .queued else .ok) [])))))
  ∧ (∀ (s : State) (tag : Tag) (n : Nat) (d : DishId), s.takes (.resume tag n) → dishOf n = some d →
    s.block.configured d = true →
    let c : Instr := .resume tag n
    let b := s.block
    let u := (s.found c).resumeDish d
    let waiting := ((b.dish d).mode = .stowed ∨ (b.dish d).mode = .shedDwell) ∧ (b.dish d).context ≠ none
    let locked := 0 < b.axisLocks d .az ∨ 0 < b.axisLocks d .el
    (¬waiting → exec c s = .next (s.refuses c .state))
    ∧ (waiting →
      (b.weather.level = .stow → exec c s = .next (s.refuses c .wind))
      ∧ (b.weather.level ≠ .stow → b.site.estop = true → exec c s = .next (s.refuses c .estop))
      ∧ (b.weather.level ≠ .stow → b.site.estop = false →
        (locked → exec c s = .next (s.refuses c .locked))
        ∧ (¬locked →
          (∀ code, (s.found c).resumeRefused d = some code → exec c s = .next (s.refuses c code))
          ∧ ((s.found c).resumeRefused d = none → (u.dish d).context = none
            ∧ exec c s = .next (s.replies u
                (if (u.move d).any (fun m => m.phase == .waiting) then .queued else .ok) []))))))
  ∧ (∀ (s : State) (tag : Tag) (n : Nat) (d : DishId), s.takes (.clearContext tag n) → dishOf n = some d →
    s.block.configured d = true →
    let c : Instr := .clearContext tag n
    let m := (s.block.dish d).mode
    let u := (s.found c).setDish d { s.block.dish d with context := none }
    ((s.block.dish d).context = none ∨ m = .shedding → exec c s = .next (s.refuses c .state))
    ∧ ((s.block.dish d).context ≠ none → m ≠ .shedding →
      (s.block.weather.level ≠ .stow → m = .stowed ∨ m = .shedDwell →
        exec c s = .next (s.replies (u.setMode d .idle .request) .ok []))
      ∧ (s.block.weather.level = .stow ∨ ¬(m = .stowed ∨ m = .shedDwell) →
        exec c s = .next (s.replies u .ok []))))
  ∧ (∀ (b : Block) (d : DishId),
    let x := b.dish d
    let t := b.resumeDish d
    let left := (b.queue d).filter fun p => decide (b.site.clock.getD 0 ≤ p.time)
    let up := fun (el : Int) => if b.weather.level = .watch then max el b.site.cfg.watchMinEl else el
    (x.context = none → t = b ∧ b.resumeRefused d = none)
    ∧ ∀ c, x.context = some c →
      let kept := if c.work = .tracking then b.setQueue d left else b
      let returns := fun (i : ReturnIntent) =>
        (kept.askMove d i.target = .error .plan → b.resumeRefused d = some .tooLong)
        ∧ (∀ why, why ≠ .plan → kept.askMove d i.target = .error why → b.resumeRefused d = some .busy)
        ∧ (∀ r, kept.askMove d i.target = .ok r → b.resumeRefused d = none)
        ∧
        let u := (kept.setDish d { x with context := none, intent := some i }).setMode d .returning .resume
        (u.dish d).mode = .returning ∧ (u.dish d).intent = some i
        ∧ (∀ why, u.askMove d i.target = .error why → t = u.setMode d .idle .resume
          ∧ (t.dish d).mode = .idle ∧ (t.dish d).intent = none ∧ (t.dish d).context = none)
        ∧ ∀ v n, u.askMove d i.target = .ok (v, n) → t = v.beginMove d n
      (c.work = .tracking →
        (left = [] → b.resumeRefused d = none
          ∧ t = (kept.setDish d { x with context := none }).setMode d .idle .resume)
        ∧ ∀ p rest, left = p :: rest → returns ⟨.tracking, p.az, up p.el⟩)
      ∧ (c.work = .idle →
        (c.pos = none → b.resumeRefused d = none
          ∧ t = (kept.setDish d { x with context := none }).setMode d .idle .resume)
        ∧ ∀ p, c.pos = some p → returns ⟨.idle, p.az, up p.el⟩))
  ∧ (∀ (b : Block) (d : DishId) (target : AzEl), b.account.examineDue = false →
    let hold := fun (c : AxisCfg) (x : Int) => min c.hi (max c.lo x)
    let goal : AzEl := ⟨hold (b.axis d .az).cfg target.az, hold (b.axis d .el).cfg target.el⟩
    let plan : Plan := { target := goal, dist := ⟨absDiff goal.az (b.pos d .az), absDiff goal.el (b.pos d .el)⟩ }
    let n0 := b.minDuration [(d, plan)]
    let m : InternalMove :=
      { plan := plan, n0 := n0, nStar := none, grant := none, phase := .waiting, start := none, arrived := ⟨false, false⟩ }
    (6000 < n0 → b.askMove d target = .error .plan)
    ∧ (n0 ≤ 6000 →
      (20 ≤ b.account.waitq.length → b.askMove d target = .error .busy)
      ∧ (b.account.waitq.length < 20 →
        b.account.waitq ≠ [] ∨ b.account.stowq ≠ [] ∨ b.stretch [(d, plan)] n0 6000 = none →
        b.askMove d target
          = .ok ((b.enqueue (.internal d) (b.wantsAt [(d, plan)] 6000)).setMove d (some m), none))
      ∧ ∀ n, b.account.waitq = [] → b.account.stowq = [] → b.stretch [(d, plan)] n0 6000 = some n →
        b.askMove d target = .ok ((b.grant (b.wantsAt [(d, plan)] n) .motion).setMove d (some m), some n)))
  ∧ (∀ (b : Block) (d : DishId),
    b.beginMove d none = b
    ∧ ∀ m n, b.move d = some m →
      let sh := b.sharesAt (d, m.plan) n
      let u := b.setMove d (some { m with phase := .starting, nStar := some n, grant := some sh })
      let az := u.deliverNeed d .az ⟨.internal, some sh.az.claim⟩
      let el := az.1.deliverNeed d .el ⟨.internal, some sh.el.claim⟩
      (az.2 = none → el.2 = none → b.beginMove d (some n) = el.1)
      ∧ (az.2 ≠ none ∨ el.2 ≠ none → b.beginMove d (some n) = el.1.loseMove d))
  ∧ (∀ (b : Block) (d : DishId),
    let t := b.startMove d
    let held := ∀ k, (b.axis d k).state = .held ∧ ∃ n, (b.axis d k).need = some n ∧ n.who = .internal
    ((∀ m, b.move d = some m → m.phase ≠ .starting ∨ ¬held) → t = b)
    ∧ ∀ m n, b.move d = some m → m.phase = .starting → held → m.nStar = some n →
      let served := fun (k : AxisKind) (dist : Nat) (target : Int) =>
        (dist = 0 → t.axis d k = b.axis d k)
        ∧ (dist ≠ 0 → (t.axis d k).state = .moving ∧ (t.axis d k).order = .move target n b.moveStart
          ∧ (t.axis d k).need = (b.axis d k).need ∧ t.claim d k = b.claim d k)
      t.move d = some { m with phase := .running, start := some b.moveStart }
      ∧ served .az m.plan.dist.az m.plan.target.az ∧ served .el m.plan.dist.el m.plan.target.el)
  ∧ (∀ (b : Block) (d : DishId),
    let x := b.dish d
    let t := b.judgeMove d
    ((∀ m, b.move d = some m → m.phase ≠ .running ∨ m.start = none) → t = b)
    ∧ ∀ m start, b.move d = some m → m.phase = .running → m.start = some start →
      let here := came b d start .az m.plan.dist.az m.plan.target.az m.arrived.az
        ∧ came b d start .el m.plan.dist.el m.plan.target.el m.arrived.el
      let left := (b.queue d).filter fun p => decide (b.site.clock.getD 0 ≤ p.time)
      let idles := (t.dish d).mode = .idle ∧ (t.dish d).intent = none
        ∧ ∀ k, t.axis d k = { b.axis d k with need := some ⟨.hold, none⟩ }
      (¬here → t.axes = b.axes ∧ t.dishes = b.dishes ∧ ∃ y, t.move d = some y ∧ { y with arrived := m.arrived } = m)
      ∧ (here → t.move d = none)
      ∧ (here → x.mode = .shedding → (t.dish d).mode = .shedDwell
        ∧ (t.dish d).dwell = .running (b.site.tb + 1000 * b.site.cfg.shedDwell)
        ∧ ∀ k, (t.axis d k).state = .engaging ∧ (t.axis d k).order = .brake ∧ (t.axis d k).need = none)
      ∧ ∀ i, here → x.mode = .returning → x.intent = some i →
        (i.work = .idle → idles)
        ∧ (i.work = .tracking → t.queue d = left)
        ∧ (i.work = .tracking → left = [] → idles)
        ∧ (i.work = .tracking → left ≠ [] → b.account.examineDue = false →
          let full := 20 ≤ b.account.waitq.length
          let free := b.account.waitq = [] ∧ b.account.stowq = [] ∧ b.motionFits (b.trackWants d) = true
          (full → idles)
          ∧ (¬full → ¬free → (t.dish d).mode = .trackWait ∧ (t.dish d).pendingReq = some .track)
          ∧ (free → b.site.estop = false → (∀ k, (b.axis d k).state = .held ∧ b.axisLocks d k = 0) →
            (t.dish d).mode = .tracking ∧ ∀ k, ∃ n, (t.axis d k).need = some n ∧ n.who = .track)))
  ∧ (∀ (b : Block) (d : DishId),
    let t := b.loseMove d
    let u := (b.setMove d none).withdraw (.internal d)
    let e := (u.holdAfterEnd d .az).holdAfterEnd d .el
    (b.move d = none → t = b)
    ∧ { e.dish d with parkReq := (b.dish d).parkReq } = b.dish d
    ∧ (b.move d ≠ none → t.move d = none ∧ t.waits (.internal d) = false
      ∧ ((b.dish d).mode = .shedding →
          t = (e.setDish d { e.dish d with context := none }).setMode d .idle .axis ∧ (t.dish d).context = none)
      ∧ ((b.dish d).mode = .returning → t = e.setMode d .idle .axis ∧ (t.dish d).context = (b.dish d).context)
      ∧ ((b.dish d).mode = .shedding ∨ (b.dish d).mode = .returning → (t.dish d).mode = .idle ∧ (t.dish d).intent = none
        ∧ t.queue d = b.queue d)
      ∧ ((b.dish d).mode ≠ .shedding → (b.dish d).mode ≠ .returning → t = e)))
  ∧ ∀ (b0 b : Block) (d : DishId),
    let x := b.dish d
    let t := Block.reactLost b0 b d
    let lost := fun (k : AxisKind) =>
      (b.axis d k).state ∈ [AxisState.locked, .faulted, .offline] ∧ (b.axis d k).state ≠ (b0.axis d k).state
      ∨ b0.axisLocks d k = 0 ∧ 0 < b.axisLocks d k
    ((∀ k, ¬lost k) → t = b)
    ∧ ((∃ k, lost k) → x.group = none →
      t.move d = none ∧ (t.dish d).pendingReq = none
      ∧ (b.move d ≠ none → x.mode = .shedding ∨ x.mode = .returning → (t.dish d).mode = .idle
        ∧ (t.dish d).intent = none)
      ∧ (b.move d ≠ none → x.mode = .shedding → (t.dish d).context = none)
      ∧ (x.mode = .tracking → (t.dish d).mode = .idle)
      ∧ (x.mode = .trackWait → x.pendingReq = some .track → (t.dish d).mode = .idle)
      ∧ (x.mode ∈ [Mode.idle, .stowing, .stowed, .stowBlocked, .shedDwell] → x.pendingReq ≠ some .track →
        (t.dish d).mode = x.mode))

/-- PLACE_LOCK is checked in the order of Table 8-2; taken, a LINK entry joins the table under a number none holds,
not yet stored, every other entry stands and no further one joins, and a lock write is asked for, which its reply
waits for (R140, R141, R143). A lock on zones changes no axis and no dish; an axis whose count rises from zero has no
need and is on its way to the brake (R19, R142). REMOVE_LOCK is refused with BAD_VALUE, NO_SUCH or NOT_HOLDER; taken,
its entry alone leaves, a LOCKED axis whose count falls to zero is BRAKED, and a lock write is asked for (R143, R145,
R146). A lock write asked for is met by one that waits, or joins ahead of the others and begins where none is in
progress, or fails for want of room, which sets the store fault (log 17) and answers at once; the bytes of its
STORE_FAULT report are log 30's choice, those of a REMOVE_LOCK reply and of a PLACE_LOCK reply whose entry is gone log
42's. What the rise and the fall of a count do to an axis by its state (R19) and to a zone (R136; one of a dish not
configured is OFF, log 36). The third LOCKOUT answer of a cabinet in a row creates the KEY entry of its dish where it
has none, with no write asked for, and the third REMOTE answer removes it; between them the entries stand (R147,
R148). -/
def Obligations.LockRequests : Prop :=
  (∀ (s : State) (tag : Tag) (kind n holder : Nat), s.takes (.placeLock tag kind n holder) → s.block.LockLaw →
    let c : Instr := .placeLock tag kind n holder
    let b := s.block
    let f := s.found c
    (lockKindOf kind = none ∨ dishOf n = none ∨ holder = 0 → exec c s = .next (s.refuses c .badValue))
    ∧ ∀ k d, lockKindOf kind = some k → dishOf n = some d → holder ≠ 0 →
      let twice := ∃ e ∈ b.lockout.entries, e.holder = holder ∧ e.kind = k ∧ e.dish = d
      let links := (b.lockout.entries.filter fun e => !e.key).length
      let r := f.placeLock k d holder false
      (b.configured d = false → exec c s = .next (s.refuses c .noSuch))
      ∧ (b.configured d = true → twice → exec c s = .next (s.refuses c .duplicate))
      ∧ (b.configured d = true → ¬twice → 52 ≤ links → exec c s = .next (s.refuses c .tableFull))
      ∧ (b.configured d = true → ¬twice → links < 52 →
        exec c s = .next (s.ends (r.1.askLock ⟨b.link.nextId, r.2, true⟩))
        ∧ (∀ e ∈ b.lockout.entries, e.num ≠ r.2) ∧ 1 ≤ r.2 ∧ r.2 ≤ 65535
        ∧ (∀ e ∈ b.lockout.entries, e ∈ r.1.lockout.entries)
        ∧ (∃ e ∈ r.1.lockout.entries, e.num = r.2 ∧ e.kind = k ∧ e.dish = d ∧ e.holder = holder ∧ e.key = false
          ∧ e.stored = false ∧ e.engaged = r.1.entrySafe e ∧ e.placed = b.siteSecond
          ∧ ∀ o ∈ r.1.lockout.entries, o = e ∨ o ∈ b.lockout.entries)
        ∧ (k = .zoneSurf ∨ k = .zoneDrive → r.1.axes = b.axes ∧ r.1.dishes = b.dishes)
        ∧ (∀ j, b.axisLocks d j = 0 → 0 < r.1.axisLocks d j → (r.1.axis d j).need = none
          ∧ (r.1.axis d j).state ∈ [AxisState.stopping, .engaging, .locked, .faulted, .offline])
        ∧ ∀ z, b.zoneLocks d z = 0 → 0 < r.1.zoneLocks d z →
          (r.1.zone d z).duty = 0 ∧ (r.1.zone d z).commanded = false))
  ∧ (∀ (s : State) (tag : Tag) (num holder : Nat), s.takes (.removeLock tag num holder) →
    let c : Instr := .removeLock tag num holder
    let b := s.block
    let f := s.found c
    (num = 0 → exec c s = .next (s.refuses c .badValue))
    ∧ (num ≠ 0 →
      ((∀ e ∈ b.lockout.entries, e.num ≠ num) → exec c s = .next (s.refuses c .noSuch))
      ∧ ∀ e, (b.lockout.entries.find? fun e => e.num == num) = some e →
        (e.key = true ∨ e.holder ≠ holder → exec c s = .next (s.refuses c .notHolder))
        ∧ (e.key = false → e.holder = holder →
          exec c s = .next (s.ends ((f.takeLock e).askLock ⟨b.link.nextId, num, false⟩))
          ∧ (f.takeLock e).lockout.entries = (b.lockout.entries.filter fun x => x.num != num)
          ∧ (∀ k, (b.axis e.dish k).state = .locked → 0 < b.axisLocks e.dish k → (f.takeLock e).axisLocks e.dish k = 0 →
            ((f.takeLock e).axis e.dish k).state = .braked)
          ∧ ∀ d k, (b.axis d k).state ≠ .locked → (f.takeLock e).axis d k = b.axis d k)))
  ∧ (∀ (b : Block) (a : LockAsk),
    let w := b.site.waiting
    let u := b.askLock a
    let met := ∃ x ∈ w, x.kind = .lock
    let room := w.length + (if b.site.running = none then 0 else 1) < 4
    let new : WriteReq := ⟨.lock, [a], []⟩
    let links : List StoredLock :=
      (b.lockout.entries.filter fun e => !e.key).map fun e => ⟨e.num, e.kind, e.dish, e.holder, e.placed⟩
    (met → u = { b with site := { b.site with
        waiting := w.map fun x => if x.kind = .lock then { x with locks := x.locks ++ [a] } else x } })
    ∧ (¬met → room → b.site.running ≠ none → u = { b with site := { b.site with waiting := new :: w } })
    ∧ (¬met → room → b.site.running = none → u = { b with site := { b.site with
        running := some { req := new, image := none, locks := some links, counts := none } } })
    ∧ (¬met → ¬room →
      let t := ({ b with site := { b.site with storeFault := true } }).tell .storeFault 0
        [fb true, f1 1, f1 WriteKind.lock.ctorIdx, f1 1, f2 a.num]
      let replied := fun (body : List Fld) => u = { t with link := { t.link with out := b.link.out.map fun o =>
        if o.id = a.id then { o with reply := some ⟨.ok, body⟩, after := .nothing } else o } }
      (a.place = true →
        (∀ e, b.lockEntry a.num = some e → replied [f2 a.num, fb e.engaged, fb e.stored])
        ∧ (b.lockEntry a.num = none → replied [f2 a.num, fb false, fb false]))
      ∧ (a.place = false → replied [fb false])))
  ∧ (∀ (b : Block) (d : DishId) (k : AxisKind),
    let a := b.axis d k
    let t := b.lockRise d k
    let u := t.axis d k
    let kept := u.need = none ∧ t.account.claims = b.account.claims
    (0 < b.axisLocks d k →
      (a.state = .braked → u.state = .locked ∧ u.stage = .none ∧ u.need = none ∧ t.claim d k = none
        ∧ (a.stage ≠ .none → t.waits (.axis d k) = false))
      ∧ (a.state = .testing → u.state = .locked ∧ u.order = .none ∧ u.opDue = none ∧ u.need = none ∧ t.claim d k = none)
      ∧ (a.state = .releasing ∨ a.state = .held → u.state = .engaging ∧ u.order = .brake
        ∧ u.opDue = some (b.site.tb + 3000) ∧ kept)
      ∧ (a.state = .moving → u.state = .stopping ∧ u.intent = .brake ∧ u.order = .stop ∧ kept)
      ∧ (a.state = .stopping → t = b.setAxis d k { a with need := none, intent := .brake })
      ∧ (a.state = .engaging ∨ a.state = .locked ∨ a.state = .faulted ∨ a.state = .offline →
          t = b.setAxis d k { a with need := none })
      ∧ ∀ e j, (e, j) ≠ (d, k) → t.axis e j = b.axis e j)
    ∧ (a.state = .locked → a.stage = .none → ((b.lockFall d k).axis d k).state = .braked
      ∧ ((b.lockFall d k).axis d k).stage = .none ∧ (b.lockFall d k).account = b.account)
    ∧ (a.state ≠ .locked → b.lockFall d k = b))
  ∧ (∀ (b : Block) (d : DishId) (z : ZoneKind),
    let x := b.zone d z
    let shut := { x with duty := 0, commanded := false, mode := ((b.zoneLockRise d z).zone d z).mode }
    (b.zoneLockRise d z).zone d z = shut ∧ shut.watts = 0
    ∧ (∃ u : Block, b.zoneLockRise d z = u.tellZone d z ∧ u.zone d z = shut ∧ (0 < x.watts → u.account.examineDue = true))
    ∧ (b.configured d = false → shut.mode = .off)
    ∧ (b.configured d = true → x.fault = true → shut.mode = .fault)
    ∧ (x.fault = false → b.heard d = false → shut.mode = .off)
    ∧ (x.fault = false → b.configured d = true → b.heard d = true → 0 < b.zoneLocks d z → shut.mode = .locked)
    ∧ (x.mode = .locked →
        b.zoneLockFall d z = (b.setZone d z { x with mode := b.zoneMode d z }).tellZone d z)
    ∧ (x.mode ≠ .locked → b.zoneLockFall d z = b))
  ∧ ∀ (b : Block) (d : DishId) (lockout : Bool), b.LockLaw →
    let old := b.lockout.keys[d]
    let t := b.keyAnswer d lockout
    let es := b.lockout.entries
    let own := ∃ e ∈ es, e.key = true ∧ e.dish = d
    old.lockRun ≤ 3 → old.remoteRun ≤ 3 →
    t.lockout.keys[d] = (if lockout = true then ⟨some true, min 3 (old.lockRun + 1), 0⟩
      else ⟨some false, 0, min 3 (old.remoteRun + 1)⟩)
    ∧ t.site.waiting = b.site.waiting ∧ t.site.running = b.site.running
    ∧ (lockout = true → old.lockRun = 2 → ¬own → ∃ e ∈ t.lockout.entries,
      e.key = true ∧ e.dish = d ∧ e.kind = .dish ∧ e.holder = 0 ∧ e.placed = b.siteSecond ∧ e.engaged = t.entrySafe e
      ∧ 1 ≤ e.num ∧ e.num ≤ 65535 ∧ (∀ o ∈ es, o.num ≠ e.num ∧ o ∈ t.lockout.entries)
      ∧ ∀ o ∈ t.lockout.entries, o = e ∨ o ∈ es)
    ∧ (lockout = false → old.remoteRun = 2 → t.lockout.entries = es.filter fun e => !(e.key && e.dish == d))
    ∧ ((lockout = true → old.lockRun ≠ 2 ∨ own) → (lockout = false → old.remoteRun ≠ 2) → t.lockout.entries = es)

/-- RESET_FAULT returns to service a faulted axis of a heard cabinet whose last answer shows no standing fault and its
brake engaged: its reason removed, order NONE, BRAKED, or LOCKED under a lock (R18), where its dish's work acts on a
newly lost axis, an internal move of the dish ending (R65, R116; ShedAndResume says how); and a faulted zone of a heard
cabinet whose contactor is reported open (R135). RESET_WEAR sets the release count of a braked or locked axis to 0 and
clears its verify flag (R11), reporting the axis with its present state as the previous one (log 38's choice). Each is
refused where it does not apply, with nothing changed (the order of the refusals is log 33's). -/
def Obligations.ServiceResets : Prop :=
  ∀ (s : State) (tag : Tag) (num : Nat),
    (s.takes (.resetFault tag ⟨0, num⟩) →
      let c : Instr := .resetFault tag ⟨0, num⟩
      let f := s.found c
      (axisOf num = none → exec c s = .next (s.refuses c .badValue))
      ∧ ∀ d k, axisOf num = some (d, k) →
        let a := s.block.axis d k
        let mends := a.state = .faulted ∧ s.block.heard d = true
          ∧ ∃ r, a.reported = some r ∧ (r.code = .none ∨ r.code = .cleared) ∧ r.released = false
        let freed := ((f.setAxis d k { a with fault := none }).setOrder d k .none).releaseClaim d k
        (s.block.configured d = false → exec c s = .next (s.refuses c .noSuch))
        ∧ (s.block.configured d = true → ¬mends → exec c s = .next (s.refuses c .state))
        ∧ (s.block.configured d = true → mends → s.block.axisLocks d k = 0 →
          exec c s = .next (s.replies (freed.enter d k .braked) .ok []))
        ∧ (s.block.configured d = true → mends → 0 < s.block.axisLocks d k →
          let u := Block.reactLost f (freed.enter d k .locked) d
          exec c s = .next (s.replies u .ok []) ∧ u.move d = none ∧ (u.axis d k).state = .locked))
    ∧ (s.takes (.resetFault tag ⟨1, num⟩) →
      let c : Instr := .resetFault tag ⟨1, num⟩
      let f := s.found c
      (zoneOf num = none → exec c s = .next (s.refuses c .badValue))
      ∧ ∀ d z, zoneOf num = some (d, z) →
        let x := s.block.zone d z
        let mends := x.fault = true ∧ s.block.heard d = true ∧ x.reported = some false
        (s.block.configured d = false → exec c s = .next (s.refuses c .noSuch))
        ∧ (s.block.configured d = true → ¬mends → exec c s = .next (s.refuses c .state))
        ∧ (s.block.configured d = true → mends →
          exec c s = .next (s.replies (((f.setZone d z { x with fault := false }).deriveZone d z).tellZone d z) .ok [])))
    ∧ (∀ form, 1 < form → s.takes (.resetFault tag ⟨form, num⟩) →
      exec (.resetFault tag ⟨form, num⟩) s = .next (s.refuses (.resetFault tag ⟨form, num⟩) .badValue))
    ∧ (s.takes (.resetWear tag num) →
      let c : Instr := .resetWear tag num
      let f := s.found c
      (axisOf num = none → exec c s = .next (s.refuses c .badValue))
      ∧ ∀ d k, axisOf num = some (d, k) →
        let a := s.block.axis d k
        let zeroed := (f.setAxis d k { a with releases := 0, verify := false }).askCounts
        (a.state ≠ .braked → a.state ≠ .locked → exec c s = .next (s.refuses c .state))
        ∧ (a.state = .braked ∨ a.state = .locked →
          exec c s = .next (s.replies (zeroed.tellAxis d k a.state) .ok [])))

/-- The SITE_ESTOP input sets and clears its stop mark; CLEAR_ESTOP is refused with STATE while a mark stands, and
clears the latch with a report (R180, R181). A mark set while the latch is clear sets it: every axis loses its need and
those released or releasing engage their brakes with their claims, a test and a release under way are abandoned with
the claim given back, and every other axis stands (R20); the queues are emptied and their clamp episodes closed, the
live groups aborted, a member under way that the latch reached through its axis DROPPED with reason ESTOP (R60, R63,
R180); every context and shed deferral, internal move with its entry in the wait queue, return intent, dwell timer and
stow-pending entry goes, and each dish changes its mode by Table 6-7, a STOWING or STOW_BLOCKED one being blocked for
ESTOP as the event settles (R109, R119); a mark set under the latch, and one cleared, change the mark alone, with a
report under the latch. The source is forgotten once the latch's clearing has been reported (the model's choice, log
30), and the order of the latch's effects is log 21's. -/
def Obligations.EstopLatch : Prop :=
  (∀ s : State, s.started →
    exec .estopInputActive s = .next (s.ends (s.block.setMark .input true))
    ∧ exec .estopInputInactive s = .next (s.ends (s.block.setMark .input false)))
  ∧ (∀ (s : State) (tag : Tag), s.takes (.clearEstop tag) →
    let c : Instr := .clearEstop tag
    let f := s.found c
    let u := ({ f with site := { f.site with estop := false } }).tellEstop
    (s.block.site.marks.any = true → exec c s = .next (s.refuses c .state))
    ∧ (s.block.site.marks.any = false → s.block.site.estop = false → exec c s = .next (s.replies f .ok []))
    ∧ (s.block.site.marks.any = false → s.block.site.estop = true →
        exec c s = .next (s.replies { u with site := { u.site with stopSource := none } } .ok [])))
  ∧ ∀ (b : Block) (src : StopSource) (v : Bool),
    let u := b.setMark src v
    let put := { b with site := { b.site with marks := b.site.marks.put src v } }
    (∀ x, u.site.marks.get x = if x = src then v else b.site.marks.get x)
    ∧ (b.site.marks.get src = v → u = b)
    ∧ (b.site.marks.get src ≠ v → b.site.estop = true → u = put.tellEstop)
    ∧ (b.site.marks.get src ≠ v → b.site.estop = false → v = false → u = put)
    ∧ (b.site.marks.get src ≠ v → b.site.estop = false → v = true →
      u.site.estop = true ∧ u.site.stopSource = some src
      ∧ (∀ d k, (u.axis d k).need = none)
      ∧ (∀ d k, (b.axis d k).state = .releasing ∨ (b.axis d k).state = .held ∨ (b.axis d k).state = .moving
          ∨ (b.axis d k).state = .stopping → (u.axis d k).state = .engaging ∧ (u.axis d k).order = .brake)
      ∧ (∀ d k,
          let a := b.axis d k
          let x := u.axis d k
          (a.state = .releasing ∨ a.state = .held ∨ a.state = .moving ∨ a.state = .stopping →
            x.opDue = some (b.site.tb + 3000) ∧ u.claim d k = b.claim d k)
          ∧ (a.state = .testing → x.state = (if 0 < b.axisLocks d k then .locked else .braked) ∧ x.order = .none
            ∧ x.opDue = none ∧ u.claim d k = none)
          ∧ (a.state = .braked → a.stage ≠ .none → x = { a with need := none, stage := .none } ∧ u.claim d k = none
            ∧ u.waits (.axis d k) = false)
          ∧ (a.state = .engaging ∨ a.state = .locked ∨ a.state = .faulted ∨ a.state = .offline
              ∨ (a.state = .braked ∧ a.stage = .none) →
            x = { a with need := none } ∧ u.claim d k = b.claim d k))
      ∧ u.account.stowq = []
      ∧ (∀ d,
          let x := b.dish d
          let y := u.dish d
          u.queue d = [] ∧ y.clampOpen = false ∧ y.context = none ∧ y.deferred = false ∧ y.intent = none
          ∧ y.dwell = .stopped ∧ u.move d = none ∧ (b.move d ≠ none → u.waits (.internal d) = false)
          ∧ (x.mode = .idle → y.mode = .idle ∧ y.pendingReq = none)
          ∧ (x.mode = .trackWait → x.pendingReq = some .track → y.mode = .idle ∧ y.pendingReq = none)
          ∧ (x.mode = .tracking ∨ x.mode = .slewWait ∨ x.mode = .slewing ∨ x.mode = .shedding ∨ x.mode = .shedDwell
              ∨ x.mode = .returning → y.mode = .idle)
          ∧ (x.mode = .stowed → y.mode = if b.weather.level = .stow then .stowed else .idle)
          ∧ (x.mode = .stowing ∨ x.mode = .stowBlocked → y.mode = x.mode
            ∧ ((u.settleBlocks d).dish d).mode = .stowBlocked
            ∧ ∃ r, ((u.settleBlocks d).dish d).blocks = some r ∧ r.estop = true))
      ∧ ∀ g x, b.group g = some x → x.state.live = true →
          ∃ y, u.group g = some y ∧ y.state = .aborted ∧ y.reason = some .estop
            ∧ (x.state = .starting ∨ x.state = .running → ∀ m ∈ x.members, m.state = .planned ∨ m.state = .moving →
              (∃ k n, (b.axis m.dish k).need = some n ∧ n.who = .group g) →
              ∃ z ∈ y.members, z.dish = m.dish ∧ z.state = .dropped ∧ z.drop = some .estop))

/-! ### Field lines and timers (chapters 1, 5, 7 and 9) -/

/-- A cycle that is due begins when the one before it has ended, and waits for it otherwise; a successor that waits
begins as soon as no visit is under way or left (R155). Its beginning takes up waiting polarities (R154), consumes the
queue of each TRACKING dish down to the point in force and those ahead, ending the tracking of one that has run out
(R29, R39), gives each TRACK order its next points, the next three whose time is after now (R12), and lists the nodes
to visit. A visit sends the next node of the cycle its order on the lines that carry it, under its next sequence
number, and nothing where no line does (R156). At a visit's end the miss counts and the reach follow what was heard,
each change of reach sending a NODE_REACH report (R161, R162), and the answers taken are handed (R163; of each its stop
flag, of the last every part, log 24; of those of a node that has left the cycle the stop flags alone, log 22): to the
axes, to the zones (R129, R134), to the key record (R147), to the weather entry (R88, R89), to the cabinet's stop mark
(R180). An axis MOVING under TRACK is compared with the position its bracketing points give for the cycle's site time:
its lag timer runs on, or starts, while it lies beyond the tolerance, and stops with the episode closed while it does
not; without the pair the timer stops (R22). A cabinet that becomes UNREACHABLE takes its axes OFFLINE and its zones
off (R21, R133, R147, R162). The late deadline of a running group marks each member still under way LATE (R58). -/
def Obligations.CycleEvents : Prop :=
  ∀ s : State, s.started →
    (let due := s.block.field.cycleDue
     let b := s.block.carryTo due
     let t := { b with field := { b.field with cycleDue := b.nextDue due 100 } }
     let busy := s.block.field.visit ≠ none ∨ s.block.field.todo ≠ []
     (¬busy → exec .fieldCycle s = .next (s.ends t.beginCycle.judgeStartup))
     ∧ (busy → exec .fieldCycle s = .next (s.ends { t with field := { t.field with successor := true } })))
    ∧ (s.block.field.visit ≠ none → exec .nodeVisit s = .next (s.ends s.block))
    ∧ (∀ r rest, s.block.field.visit = none →
        s.block.field.todo.dropWhile (fun r => !s.block.inCycle r) = r :: rest →
        let on_ := fun l => s.block.lineCarries l
        let phase := fun l => if on_ l = true then LinePhase.sending else .unused
        let v : Visit :=
          { node := r, a := phase .a, b := phase .b, sentAt := s.block.site.tb, answers := [], heardA := false
            heardB := false }
        let t := { s.block with field := { s.block.field with todo := rest, visit := some v } }
        let x := s.block.node r
        let sent := { x with seq := (x.seq + 1) % 256, lastOrder := some (s.block.orderFor r) }
        (on_ .a = true ∨ on_ .b = true → exec .nodeVisit s = .next (s.ends (t.setNode r sent)))
        ∧ (on_ .a = false → on_ .b = false → exec .nodeVisit s = .next (s.ends t)))
    ∧ (s.block.field.visit = none → s.block.field.todo.dropWhile (fun r => !s.block.inCycle r) = [] →
        let t := { s.block with field := { s.block.field with todo := [] } }
        exec .nodeVisit s = .next (s.ends t.nextCycle))
    ∧ (let due := s.block.field.successor = true ∧ s.block.field.visit = none ∧ s.block.field.todo = []
       (due → s.block.nextCycle = s.block.beginCycle) ∧ (¬due → s.block.nextCycle = s.block))
    ∧ (s.block.field.visit = none → exec .visitEnd s = .next (s.ends s.block.judgeStartup))
    ∧ (∀ v, s.block.field.visit = some v →
        let u := s.block.endVisit
        let x := s.block.node v.node
        exec .visitEnd s = .next (s.ends u.judgeStartup) ∧ u.field.visit = none
        ∧ (s.block.inCycle v.node = false →
          u = (v.answers.foldl (fun t a => t.handStop v.node a) (s.block.setVisit none)).nextCycle)
        ∧ (s.block.inCycle v.node = true →
          (u.node v.node).missA = (if v.heardA = true then 0 else min 3 (x.missA + 1))
          ∧ (u.node v.node).missB = (if v.heardB = true then 0 else min 3 (x.missB + 1))
          ∧ (let lostA := (u.node v.node).missA = 3
             let lostB := (u.node v.node).missB = 3
             ((x.reach ≠ .unknown ∨ v.answers ≠ []) →
               (u.node v.node).reach
                 = if lostA ∧ lostB then .unreachable else if lostA ∨ lostB then .degraded else .reachable)
             ∧ (x.reach = .unknown → v.answers = [] → (u.node v.node).reach
                 = if lostA ∧ lostB ∧ s.block.site.startup = .ready then .unreachable else .unknown))
          ∧ (x.reach ≠ .unreachable → (u.node v.node).reach = .unreachable → (u.node v.node).lastStatus = none)
          ∧ ∃ t : Block, u = (t.handAll v.node v.answers).nextCycle ∧ (t.node v.node).reach = (u.node v.node).reach
            ∧ t = ((s.block.setVisit none).setNode v.node { x with
                missA := (u.node v.node).missA, missB := (u.node v.node).missB }).setReach v.node
                  (u.node v.node).reach))
    ∧ (∀ g,
      ((s.block.group g).bind Group.deadline = none → exec (.lateDeadline g) s = .next (s.ends s.block))
      ∧ ∀ t, (s.block.group g).bind Group.deadline = some t →
        exec (.lateDeadline g) s = .next (s.ends ((s.block.clockTo t).markLate g))
        ∧ ∀ x, s.block.group g = some x →
          ∃ y, ((s.block.clockTo t).markLate g).group g = some y
            ∧ ∀ m ∈ y.members, m.state = .planned ∨ m.state = .moving → m.late = true)
    ∧ (let b := s.block
       let u := b.beginCycle
       u.field.cycleTime = b.site.clock ∧ u.field.successor = false ∧ u.field.todo = allNodes.filter b.inCycle
       ∧ (∀ l, (u.line l).inverted = (b.line l).newPol.getD (b.line l).inverted ∧ (u.line l).newPol = none)
       ∧ (∀ d, (b.dish d).mode ≠ .tracking ∨ b.site.clock = none →
          u.queue d = b.queue d ∧ (u.dish d).mode = (b.dish d).mode)
       ∧ (∀ d now, (b.dish d).mode = .tracking → b.site.clock = some now →
          let past := (b.queue d).filter fun p => decide (p.time ≤ now)
          let ahead := (b.queue d).filter fun p => decide (now < p.time)
          (ahead = [] → u.queue d = [] ∧ (u.dish d).mode = .idle)
          ∧ (ahead ≠ [] → u.queue d = past.getLast?.toList ++ ahead ∧ (u.dish d).mode = .tracking))
       ∧ ∀ d k pts, (u.axis d k).order = .track pts → pts = u.trackPoints d k
         ∧ u.trackPoints d k = (((u.queue d).filter fun p => decide (b.site.clock.getD 0 < p.time)).take 3).map
             fun p => ⟨p.time, if k = .az then p.az else p.el⟩)
    ∧ (∀ (d : DishId) (k : AxisKind) (r : AxisReport),
       let b := s.block
       let a := b.axis d k
       let t := b.judgeLag d k r
       let stopped := b.setAxis d k { a with lag := none }
       ((∀ pts, a.order ≠ .track pts) ∨ a.state ≠ .moving → t = b)
       ∧ ∀ pts, a.order = .track pts → a.state = .moving →
         (b.field.cycleTime = none → t = stopped)
         ∧ ∀ now, b.field.cycleTime = some now →
           let past := (b.queue d).filter fun p => decide (p.time ≤ now)
           let ahead := (b.queue d).filter fun p => decide (now < p.time)
           let at_ := fun (p : Point) => if k = .az then p.az else p.el
           (past = [] ∨ ahead = [] → t = stopped)
           ∧ ∀ p q, past.getLast? = some p → ahead.head? = some q →
             let e := at_ p + ((at_ q - at_ p) * ((now : Int) - p.time)).tdiv ((q.time : Int) - p.time)
             let off := a.cfg.lagTol < (r.pos - e).natAbs
             (¬off → t = b.setAxis d k { a with lag := none, lagOpen := false })
             ∧ (off → a.lag = none → t = b.setAxis d k { a with lag := some ⟨b.site.tb, e⟩ })
             ∧ (off → ∀ l, a.lag = some l → t = b.setAxis d k { a with lag := some ⟨l.since, e⟩ }))
    ∧ (∀ (r : NodeRef) (new : Reach),
       let b := s.block
       let x := b.node r
       (x.reach = new → b.reportReach r new = b ∧ b.setReach r new = b)
       ∧ (x.reach ≠ new → b.reportReach r new = (b.setNode r { x with reach := new }).report .nodeReach (nodeNum r)
           [f1 new.ctorIdx] (some (f1 x.reach.ctorIdx)) [f1 x.missA, f1 x.missB])
       ∧ (new ≠ .unreachable → b.setReach r new = b.reportReach r new))
    ∧ (let b := s.block
       (∀ r, b.handAll r [] = b) ∧ (∀ r a, b.handAll r [a] = b.hand r a)
       ∧ (∀ r a c rest, b.handAll r (a :: c :: rest) = (b.handStop r a).handAll r (c :: rest))
       ∧ (∀ d acc x,
          let a : Answer := ⟨acc, .cab x⟩
          let reach := (b.node (.cab d)).reach
          b.handStop (.cab d) a = b.setMark (.cabinet d) x.estop
          ∧ (reach = .unreachable → b.hand (.cab d) a = b.setMark (.cabinet d) x.estop)
          ∧ (reach ≠ .unreachable → acc = .refused →
              b.hand (.cab d) a
                = (Block.reactLost b ((b.axisRefused d .az).axisRefused d .el) d).setMark (.cabinet d) x.estop)
          ∧ (reach ≠ .unreachable → acc ≠ .refused →
              b.hand (.cab d) a = (b.handCabinet d x).setMark (.cabinet d) x.estop))
       ∧ (∀ d x,
          let t := b.handCabinet d x
          let o := ((b.node (.cab d)).lastOrder.getD .poll).contactors
          let key := b.lockout.keys[d]
          let since := fun (z : ZoneKind) (on_ ordered : Bool) =>
            if on_ = ordered then none else some ((b.zone d z).mismatch.getD b.site.tb)
          (t.axis d .az).reported = some x.az ∧ (t.axis d .el).reported = some x.el
          ∧ (t.zone d .surf).temp = some x.surfTemp ∧ (t.zone d .surf).reported = some x.surfOn
          ∧ (t.zone d .drive).temp = some x.driveTemp ∧ (t.zone d .drive).reported = some x.driveOn
          ∧ (t.zone d .surf).mismatch = since .surf x.surfOn o.1
          ∧ (t.zone d .drive).mismatch = since .drive x.driveOn o.2
          ∧ t.cold d = (if x.driveTemp < -100 then true else if -80 ≤ x.driveTemp then false else b.cold d)
          ∧ t.lockout.keys[d] = (if x.lockout = true then ⟨some true, min 3 (key.lockRun + 1), 0⟩
              else ⟨some false, 0, min 3 (key.remoteRun + 1)⟩))
       ∧ (∀ n acc (x : WxBody),
          let a : Answer := ⟨acc, .wx x⟩
          let e := b.wx n
          let t := b.hand (.wx n) a
          let mean := min x.mean 750
          let gust := max (min x.gust 750) mean
          let ambient := max (-600) (min 600 x.ambient)
          let clamp := decide (mean ≠ x.mean ∨ gust ≠ x.gust ∨ ambient ≠ x.ambient)
          let warm := if e.state = .warming then e.warm + 1 else e.warm
          let handed := (b.node (.wx n)).reach ≠ .unreachable ∧ acc ≠ .refused ∧ e.state ≠ .disabled
          (¬handed → t = b)
          ∧ (handed → x.fault = true ∨ x.precip = none →
              t.wx n = { state := .warming, warm := 0, reading := none, faults := (e.faults + 1) % 65536 })
          ∧ (∀ p, handed → x.fault = false → x.precip = some p →
              t.wx n =
                { e with
                  warm := warm
                  state := if e.state = .warming ∧ b.site.cfg.warmTarget ≤ warm then .active else e.state
                  reading := some
                    { mean := mean, gust := gust, ambient := ambient, precip := p, clamp := clamp
                      expiry := b.weather.sec + b.site.cfg.lifetime } })))
    ∧ ∀ d, (s.block.node (.cab d)).reach ≠ .unreachable →
      let t := s.block.setReach (.cab d) .unreachable
      (∀ k, (t.axis d k).state = .offline ∧ (t.axis d k).need = none ∧ (t.axis d k).stage = .none
        ∧ (t.axis d k).opDue = none ∧ (t.axis d k).holdDue = some (s.block.site.tb + 10000)
        ∧ t.claim d k = s.block.claim d k)
      ∧ (∀ z, (t.zone d z).duty = 0 ∧ (t.zone d z).commanded = false ∧ (t.zone d z).temp = none
        ∧ (t.zone d z).reported = none ∧ (t.zone d z).mismatch = none
        ∧ (t.zone d z).prewarm = (s.block.zone d z).prewarm)
      ∧ t.lockout.keys[d] = ⟨none, 0, 0⟩ ∧ (t.node (.cab d)).lastStatus = none

/-- A read-back that differs ends the order's part on that line, counts, and at the fifth in a row makes an UP line DOWN
with a probe due 10 s later; a frame gone in full opens the window, ends the run, and makes a DOWN line UP; neither acts
where the line is not sending (R157, R158). A break makes a line BREAK and, from DISCOVERING on, sets its stop mark; its
end makes the line UP and clears the mark; every 4 s of it are reported (R164, R165, R180). An answer outside its window
is ignored; a bad one, one of another sequence and a repeated status are counted; any other is taken (R159). The
events are without effect where their condition is absent (log 2); a break's time is told in whole seconds, rounded down
and held to 65,535 (log 28). -/
def Obligations.LineEvents : Prop :=
  ∀ (s : State) (l : Line),
    let b := s.block
    let x := b.line l
    (s.started →
      (∀ v, b.field.visit = some v → v.phase l = .sending →
        let cut := b.setVisit (some (v.setPhase l .abandoned))
        let open_ := b.setVisit (some (v.setPhase l .window))
        let n := bump16 x.echoTotal
        let failed := { x with
          state := .down, echoRun := 0, probeDue := some (b.site.tb + 10000), echoTotal := n }
        let mended := { x with state := .up, echoRun := 0, probeDue := none }
        (x.state = .up → x.echoRun < 4 →
          exec (.echoMismatch l) s
            = .next (s.ends (cut.setLine l { x with echoTotal := n, echoRun := x.echoRun + 1 })))
        ∧ (x.state = .up → 4 ≤ x.echoRun →
          exec (.echoMismatch l) s
            = .next (s.ends ((cut.setLine l failed).tell .lineState (lineNum l)
                [f1 LineState.down.ctorIdx, f1 LineCause.echo.ctorIdx])))
        ∧ (x.state = .down →
          exec (.echoMismatch l) s
            = .next (s.ends (cut.setLine l { x with echoTotal := n, probeDue := some (v.sentAt + 10000) })))
        ∧ (x.state ≠ .down →
          exec (.orderFrameSent l) s = .next (s.ends (open_.setLine l { x with echoRun := 0 })))
        ∧ (x.state = .down →
          exec (.orderFrameSent l) s
            = .next (s.ends ((open_.setLine l mended).tell .lineState (lineNum l)
                [f1 LineState.up.ctorIdx, f1 LineCause.probe.ctorIdx]))))
      ∧ ((∀ v, b.field.visit = some v → v.phase l ≠ .sending) →
        exec (.echoMismatch l) s = .next (s.ends b) ∧ exec (.orderFrameSent l) s = .next (s.ends b))
      ∧ (∀ bytes, (∀ v, b.field.visit = some v → v.phase l ≠ .window) →
        exec (.answerReceived l bytes) s = .next (s.ends b))
      ∧ (∀ bytes v, b.field.visit = some v → v.phase l = .window → readAnswer v.node bytes = none →
        let y := b.node v.node
        exec (.answerReceived l bytes) s = .next (s.ends (b.setNode v.node { y with bads := bump16 y.bads })))
      ∧ (∀ bytes v r, b.field.visit = some v → v.phase l = .window → readAnswer v.node bytes = some r →
        let y := b.node v.node
        let heard := if r.answer.acc = .corrupt then v else v.hear l
        let new := { y with lastStatus := some r.status, taken := bump16 y.taken }
        (r.addr ≠ nodeNum v.node ∨ r.answered ≠ y.seq →
          exec (.answerReceived l bytes) s = .next (s.ends (b.setNode v.node { y with bads := bump16 y.bads })))
        ∧ (r.addr = nodeNum v.node → r.answered = y.seq → y.lastStatus = some r.status →
          exec (.answerReceived l bytes) s
            = .next (s.ends ((b.setNode v.node { y with dups := bump16 y.dups }).setVisit (some heard))))
        ∧ (r.addr = nodeNum v.node → r.answered = y.seq → y.lastStatus ≠ some r.status →
          exec (.answerReceived l bytes) s
            = .next (s.ends ((b.setNode v.node new).setVisit (some { heard with answers := heard.answers ++ [r.answer] }))))))
    ∧ (x.state = .brk → exec (.lineBreak l) s = .next (s.ends b))
    ∧ (x.state ≠ .brk →
      let cut := b.field.visit.map fun v => if v.phase l = .unused then v else v.setPhase l .abandoned
      let broken := { x with
        state := .brk, echoRun := 0, probeDue := none, breakStart := some b.site.tb, heldReports := 0 }
      let u := ((b.setVisit cut).setLine l broken).tell .lineState (lineNum l)
        [f1 LineState.brk.ctorIdx, f1 LineCause.brk.ctorIdx]
      exec (.lineBreak l) s
        = .next (s.ends (if b.site.startup = .starting then u else u.setMark (.line l) true))
      ∧ exec (.breakEnd l) s = .next (s.ends b))
    ∧ (x.state = .brk →
      let mended := { x with state := .up, echoRun := 0, breakStart := none, heldReports := 0 }
      let u := (b.setLine l mended).tell .breakEnd (lineNum l) [f2 (b.breakHeld x)]
      exec (.breakEnd l) s
        = .next (s.ends (if b.site.startup = .starting then u else u.setMark (.line l) false)))
    ∧ (x.breakStart = none → exec (.breakHeld l) s = .next (s.ends b))
    ∧ ∀ t0, x.breakStart = some t0 →
      let n := x.heldReports + 1
      let t := (b.carryTo (t0 + 4000 * n)).setLine l { x with heldReports := n }
      exec (.breakHeld l) s = .next (s.ends (t.tell .breakHeld (lineNum l)
        [f2 (min 65535 ((t.site.tb - t0) / 1000))]))

/-- The operation timer of TESTING, RELEASING or ENGAGING that expires faults the axis with its reason, and its
requesters act on the loss (R8, R9, R16); the park timer sends BRAKE (R15); the offline hold gives the claim back
(R21); two seconds of track lag open the episode, once, with a report (R22); the beacon's interval lets the waiting
axes go on (R7): to TESTING for 5 s in verify mode, to RELEASING for 3 s otherwise. Each is taken at its due time and
is without effect where its timer does not run (log 2). Every event ends with the beacon judged: its time counts from
its assertion (R182), and once it has been asserted for the whole interval each axis in turn goes on, and before that
none does: after any step an axis that is RELEASING or TESTING, and was not before it, has a beacon asserted for the
warn interval (R7). The park timer of an axis starts from its park delay when the axis is HELD, its dish IDLE and no
need but a hold of the dish recorded, runs on while that holds and stops when it does not, and every event ends with it
so (R15). -/
def Obligations.AxisTimers : Prop :=
  (∀ (s : State) (d : DishId) (k : AxisKind), s.started →
    let a := s.block.axis d k
    (∀ t, a.opDue = some t →
      let c := s.block.carryTo t
      let failed := fun (why : FaultReason) => s.ends (Block.reactLost c (c.faultAxis d k why) d)
      (a.state = .testing → exec (.brakeTestTimeout d k) s = .next (failed .brakeSuspect))
      ∧ (a.state = .releasing → exec (.releaseTimeout d k) s = .next (failed .releaseTimeout))
      ∧ (a.state = .engaging → exec (.engageTimeout d k) s = .next (failed .engageTimeout)))
    ∧ (a.opDue = none ∨ a.state ≠ .testing → exec (.brakeTestTimeout d k) s = .next (s.ends s.block))
    ∧ (a.opDue = none ∨ a.state ≠ .releasing → exec (.releaseTimeout d k) s = .next (s.ends s.block))
    ∧ (a.opDue = none ∨ a.state ≠ .engaging → exec (.engageTimeout d k) s = .next (s.ends s.block))
    ∧ (a.parkDue = none → exec (.parkExpiry d k) s = .next (s.ends s.block))
    ∧ (∀ t, a.parkDue = some t →
        exec (.parkExpiry d k) s = .next (s.ends (((s.block.carryTo t).dropNeed d k).engage d k)))
    ∧ (a.holdDue = none → exec (.offlineHoldExpiry d k) s = .next (s.ends s.block))
    ∧ (∀ t, a.holdDue = some t →
        exec (.offlineHoldExpiry d k) s
          = .next (s.ends (((s.block.carryTo t).setAxis d k { a with holdDue := none }).releaseClaim d k)))
    ∧ (a.lag = none → exec (.trackLag d k) s = .next (s.ends s.block))
    ∧ (∀ l, a.lag = some l →
        let c := s.block.carryTo (l.since + 2000)
        (a.lagOpen = true → exec (.trackLag d k) s = .next (s.ends c))
        ∧ (a.lagOpen = false →
          exec (.trackLag d k) s = .next (s.ends ((c.setAxis d k { a with lagOpen := true }).tell .trackLag (axisNum d k)
            [s4 l.expected, s4 (s.block.pos d k)])))))
  ∧ (∀ s : State, s.started →
    let waits := fun (p : DishId × AxisKind) =>
      ((s.block.axis p.1 p.2).state = .braked ∧ (s.block.axis p.1 p.2).stage = .beacon)
      ∨ ((s.block.axis p.1 p.2).state = .testing ∧ (s.block.axis p.1 p.2).opDue = none)
    (∀ t, s.block.site.beacon = true → s.block.site.beaconSince = some t → (∃ p, waits p) →
      exec .beaconIntervalMet s = .next (s.ends (s.block.carryTo (t + 1000 * s.block.site.cfg.warn))))
    ∧ ((∀ p, ¬waits p) → exec .beaconIntervalMet s = .next (s.ends s.block)))
  ∧ (∀ (b : Block) (d : DishId) (k : AxisKind) (why : FaultReason),
    let a := (b.faultAxis d k why).axis d k
    a.state = .faulted ∧ a.fault = some why ∧ a.need = none ∧ a.stage = .none ∧ a.order = .brake ∧ a.opDue = none
    ∧ a.parkDue = none ∧ (b.faultAxis d k why).claim d k = none ∧ (b.faultAxis d k why).waits (.axis d k) = false
    ∧ ∀ e j, (e, j) ≠ (d, k) → (b.faultAxis d k why).axis e j = b.axis e j)
  ∧ (∀ (b : Block) (d : DishId) (k : AxisKind),
    let a := b.axis d k
    let u := b.proceed d k
    let released := (u.axis d k).state = .releasing ∧ (u.axis d k).order = .release
      ∧ (u.axis d k).opDue = some (b.site.tb + 3000)
    (a.state = .braked → a.stage = .beacon →
      (a.verify = true → (u.axis d k).state = .testing ∧ (u.axis d k).order = .brakeTest
        ∧ (u.axis d k).opDue = some (b.site.tb + 5000))
      ∧ (a.verify = false → released))
    ∧ (a.state = .testing → a.opDue = none → released)
    ∧ (a.state ≠ .testing → ¬(a.state = .braked ∧ a.stage = .beacon) → u = b))
  ∧ ∀ b : Block,
    let met := b.site.beacon = true ∧ ∃ t, b.site.beaconSince = some t ∧ t + 1000 * b.site.cfg.warn ≤ b.site.tb
    (met → b.settleBeacon = allAxes.foldl (fun u p => u.proceed p.1 p.2) b)
    ∧ (¬met → b.settleBeacon = b)
    ∧ (b.site.startup ≠ .starting → ∃ u : Block, u.site.tb = b.site.tb ∧ u.site.cfg = b.site.cfg
        ∧ b.finish = (u.settleOutputs.settleBeacon).kick)
    ∧ b.settleOutputs.site.beaconSince = (if b.beaconCond = true ∧ b.site.beacon = false then some b.site.tb
        else b.site.beaconSince)
    ∧ (∀ (s t : State) (d : DishId) (k : AxisKind), step s = .next t →
        let old := (s.block.axis d k).state
        let new := (t.block.axis d k).state
        (new = .releasing ∧ old ≠ .releasing) ∨ (new = .testing ∧ old ≠ .testing) →
        t.block.site.beacon = true
        ∧ ∃ since, t.block.site.beaconSince = some since ∧ since + 1000 * t.block.site.cfg.warn ≤ t.block.site.tb)
    ∧ ∀ (d : DishId) (k : AxisKind),
      let runs := fun (v : Block) => (v.axis d k).state = .held ∧ (v.dish d).mode = .idle
        ∧ ∀ n, (v.axis d k).need = some n → n.who = .hold
      let a := b.axis d k
      (runs b → a.parkDue = none →
        b.settlePark d k = b.setAxis d k { a with parkDue := some (b.site.tb + 1000 * a.cfg.parkDelay) })
      ∧ (runs b → a.parkDue ≠ none → b.settlePark d k = b)
      ∧ (¬runs b → b.settlePark d k = b.setAxis d k { a with parkDue := none })
      ∧ (b.site.startup ≠ .starting →
        (runs b.finish → (b.finish.axis d k).parkDue ≠ none) ∧ (¬runs b.finish → (b.finish.axis d k).parkDue = none))

/-- A tick advances the weather second by one (one also where later ticks have passed by then, log 45) and runs the
heater second, the sweep, the level's timers and evaluation, the clear timer and the report (R84, R90, R93, R101,
R125, R130; the order within it is log 21's). The sweep clears every entry whose expiry has come, an ACTIVE one with a
report, and recomputes the figures once where one was ACTIVE; each timer of the level that ran before the tick and
still runs counts it, and so does the clear timer, which ends the episode at 600. A reading that expires is cleared;
the timers of the level and of the episode that have run their time take their effect (R90, R94 to R96, R125, log 31).
An evaluation starts, keeps and stops the level's timers by their conditions and makes a running release hold that has
run its time complete (R94 to R96). At an episode's end the run times go to 0, and under the automatic shed policy
each configured dish at or above the threshold is shed where its checks pass, in CALM, and is deferred otherwise; a
level that enters CALM sheds the deferred ones (R113). A pre-warm request is removed (R127), a dwell is complete and
under AUTO its dish resumed (R112; what a resume does ShedAndResume says), and a zone whose contactor has disagreed
for 3 s is at fault with its contactor ordered open (R134). Each is without effect where its timer does not run (log
2). -/
def Obligations.OtherTimers : Prop :=
  ∀ s : State, s.started →
    let b := s.block
    let c := b.site.cfg
    let level := fun (w : Weather) => s.ends ({ b with weather := w }).evaluate
    (let due := b.carryTo b.weather.tickDue
     let now := { due with weather :=
       { due.weather with sec := b.weather.sec + 1, tickDue := due.nextDue b.weather.tickDue 1000 } }
     let aged := (Block.advanceTimers b now.heaterSecond.sweep).evaluate
     let u := (Block.advanceClear b aged).tellSiteWeather
     exec .weatherTick s = .next (s.ends u) ∧ u.weather.sec = b.weather.sec + 1)
    ∧ (let gone := fun n => (b.wx n).reading.any (fun r => decide (r.expiry ≤ b.weather.sec)) = true
       let one := fun (n : WeatherId) (t : Block) =>
         let u := t.setWx n { b.wx n with state := .warming, warm := 0, reading := none }
         if gone n then (if (b.wx n).state = .active then u.tellWx n .expired else u) else t
       let swept := allWeather.foldl (fun t n => one n t) b
       ((∃ n, gone n ∧ (b.wx n).state = .active) → b.sweep = swept.figuresChanged)
       ∧ ((∀ n, gone n → (b.wx n).state ≠ .active) → b.sweep = swept)
       ∧ ∀ n, swept.wx n = if gone n then { b.wx n with state := .warming, warm := 0, reading := none } else b.wx n)
    ∧ (∀ t : Block,
      let w := t.weather
      let v := (Block.advanceTimers b t).weather
      let counts := fun (old now : Option Nat) => if old = none then now else now.map (· + 1)
      v = { w with unknown := v.unknown, hold := v.hold, watchHold := v.watchHold }
      ∧ v.unknown = counts b.weather.unknown w.unknown ∧ v.watchHold = counts b.weather.watchHold w.watchHold
      ∧ (∀ m n, b.weather.hold = .running m → w.hold = .running n → v.hold = .running (n + 1))
      ∧ ((∀ m, b.weather.hold ≠ .running m) → v.hold = w.hold)
      ∧ ((∀ n, w.hold ≠ .running n) → v.hold = w.hold)
      ∧ (b.heater.clear = none ∨ t.heater.clear = none → Block.advanceClear b t = t)
      ∧ ∀ m n, b.heater.clear = some m → t.heater.clear = some n →
        (600 ≤ n + 1 → Block.advanceClear b t = t.endEpisode)
        ∧ (n + 1 < 600 → Block.advanceClear b t = { t with heater := { t.heater with clear := some (n + 1) } }))
    ∧ (let w := b.weather
       let v := b.settleTimers.weather
       let known := b.windKnown = true
       let below := fun (mean gust : Nat) => known ∧ b.siteMean < mean ∧ b.siteGust < gust
       let run := fun (on_ : Prop) (now old : Option Nat) => (on_ → now = some (old.getD 0)) ∧ (¬on_ → now = none)
       let released := w.level = .stow ∧ below c.relMean c.relGust
       run (w.level ≠ .stow ∧ ¬known) v.unknown w.unknown
       ∧ run (w.level = .watch ∧ below c.watchRelMean c.watchRelGust) v.watchHold w.watchHold
       ∧ (¬released → v.hold = .stopped)
       ∧ (released → w.hold = .complete → v.hold = .complete)
       ∧ (released → w.hold = .stopped → v.hold = .running 0)
       ∧ ∀ n, released → w.hold = .running n → v.hold = if c.relHold ≤ n then .complete else .running n)
    ∧ (let listed := allDishes.filter fun d => decide (c.shedThreshold ≤ (b.zone d .surf).meltMin)
       let shed := fun (t : Block) (d : DishId) =>
         if t.weather.level = .calm then t.autoShedDish d else t.setDish d { t.dish d with deferred := true }
       let zeroed := fun (t : Block) (d : DishId) =>
         t.setZone d .surf { t.zone d .surf with fullSecs := 0, meltMin := 0 }
       let handed := if c.autoShed = true then listed.foldl shed b else b
       let t := allDishes.foldl zeroed handed
       b.endEpisode = ({ t with heater := { t.heater with episode := false, clear := none } }).tellSnow none
       ∧ ∀ d, (b.configured d = false → b.autoShedDish d = b)
         ∧ (b.configured d = true → (∀ code, b.shedDish d = .error code → b.autoShedDish d = b)
           ∧ ∀ r, b.shedDish d = .ok r → b.autoShedDish d = r.1))
    ∧ b.deferredSheds = allDishes.foldl (fun t d =>
        if (t.dish d).deferred = true then (t.setDish d { t.dish d with deferred := false }).autoShedDish d else t) b
    ∧ (∀ n, (b.wx n).reading = none → exec (.readingExpiry n) s = .next (s.ends b))
    ∧ (∀ n r, (b.wx n).reading = some r →
        let u := b.setWx n { b.wx n with state := .warming, warm := 0, reading := none }
        ((b.wx n).state = .active →
          exec (.readingExpiry n) s = .next (s.ends (u.tellWx n .expired).figuresChanged))
        ∧ ((b.wx n).state ≠ .active → exec (.readingExpiry n) s = .next (s.ends u)))
    ∧ (b.weather.unknown = none → exec .unknownGraceExpiry s = .next (s.ends b))
    ∧ (∀ n, b.weather.unknown = some n →
        exec .unknownGraceExpiry s = .next (level { b.weather with unknown := some (max n c.grace) }))
    ∧ ((∀ n, b.weather.hold ≠ .running n) → exec .releaseHoldComplete s = .next (s.ends b))
    ∧ (∀ n, b.weather.hold = .running n →
        exec .releaseHoldComplete s = .next (level { b.weather with hold := .running (max n c.relHold) }))
    ∧ (b.weather.watchHold = none → exec .watchReleaseExpiry s = .next (s.ends b))
    ∧ (∀ n, b.weather.watchHold = some n →
        exec .watchReleaseExpiry s = .next (level { b.weather with watchHold := some (max n 300) }))
    ∧ (b.heater.clear = none → exec .snowEpisodeEnd s = .next (s.ends b))
    ∧ (b.heater.clear ≠ none → exec .snowEpisodeEnd s = .next (s.ends b.endEpisode)
        ∧ b.endEpisode.heater.episode = false ∧ b.endEpisode.heater.clear = none
        ∧ ∀ d, (b.endEpisode.zone d .surf).meltMin = 0)
    ∧ (∀ d, (b.zone d .drive).prewarm = none → exec (.prewarmExpiry d) s = .next (s.ends b))
    ∧ (∀ d t, (b.zone d .drive).prewarm = some t →
        exec (.prewarmExpiry d) s
          = .next (s.ends ((b.carryTo t).setZone d .drive { b.zone d .drive with prewarm := none })))
    ∧ (∀ d, (∀ t, (b.dish d).dwell ≠ .running t) → exec (.dwellExpiry d) s = .next (s.ends b))
    ∧ (∀ d t, (b.dish d).dwell = .running t →
        let u := (b.carryTo t).setDish d { b.dish d with dwell := .complete }
        (c.resume = .auto → exec (.dwellExpiry d) s = .next (s.ends (u.resumeDish d)))
        ∧ (c.resume = .manual → exec (.dwellExpiry d) s = .next (s.ends u)))
    ∧ (∀ d z, (b.zone d z).mismatch = none → exec (.zoneContactorFault d z) s = .next (s.ends b))
    ∧ ∀ d z t, (b.zone d z).mismatch = some t →
        let u := (b.carryTo (t + 3000)).faultZone d z
        exec (.zoneContactorFault d z) s = .next (s.ends u) ∧ (u.zone d z).fault = true ∧ (u.zone d z).duty = 0
        ∧ (u.zone d z).commanded = false ∧ (b.configured d = true → (u.zone d z).mode = .fault)
end

