-- ==== Sys2Proof/Laws/State.lean ====
section
/-! SUPPORT. State.lean: what reading a record gives after one is replaced, and what each replacement leaves. -/

namespace Sys2Proof.Machine

/-! ### Pairs -/

/-- A pair read back where it was set. -/
@[simp] theorem PerAxis.get_set {α : Type} (p : PerAxis α) (k j : AxisKind) (x : α) :
    (p.set k x).get j = if k = j then x else p.get j := by cases k <;> cases j <;> rfl

/-- A zone pair read back where it was set. -/
@[simp] theorem PerZone.get_set {α : Type} (p : PerZone α) (k j : ZoneKind) (x : α) :
    (p.set k x).get j = if k = j then x else p.get j := by cases k <;> cases j <;> rfl

/-- A table read after one place is replaced. -/
theorem vec_get_set {α : Type} {n : Nat} (v : Vector α n) (i j : Fin n) (x : α) :
    (v.set i x)[j] = if i = j then x else v[j] := by
  simp only [Fin.getElem_fin, Vector.getElem_set, Fin.ext_iff]

/-! ### A record read after one is replaced -/

/-- An axis record. -/
@[simp] theorem axis_setAxis (b : Block) (d e : DishId) (k j : AxisKind) (x : Axis) :
    (b.setAxis e j x).axis d k = if e = d ∧ j = k then x else b.axis d k := by
  unfold Block.setAxis Block.axis
  rw [vec_get_set]
  by_cases h : e = d
  · subst h; simp
  · simp [h]

/-- A dish record. -/
@[simp] theorem dish_setDish (b : Block) (d e : DishId) (x : Dish) :
    (b.setDish e x).dish d = if e = d then x else b.dish d := vec_get_set ..

/-- A queue. -/
@[simp] theorem queue_setQueue (b : Block) (d e : DishId) (q : List Point) :
    (b.setQueue e q).queue d = if e = d then q else b.queue d := vec_get_set ..

/-- A group slot. -/
@[simp] theorem group_setGroup (b : Block) (g e : GroupId) (x : Option Group) :
    (b.setGroup e x).group g = if e = g then x else b.group g := vec_get_set ..

/-- An internal move. -/
@[simp] theorem move_setMove (b : Block) (d e : DishId) (x : Option InternalMove) :
    (b.setMove e x).move d = if e = d then x else b.move d := vec_get_set ..

/-- A claim. -/
@[simp] theorem claim_setClaim (b : Block) (d e : DishId) (k j : AxisKind) (x : Option Claim) :
    (b.setClaim e j x).claim d k = if e = d ∧ j = k then x else b.claim d k := by
  unfold Block.setClaim Block.claim
  simp only
  rw [vec_get_set]
  by_cases h : e = d
  · subst h; simp
  · simp [h]

/-- A zone record. -/
@[simp] theorem zone_setZone (b : Block) (d e : DishId) (k j : ZoneKind) (x : Zone) :
    (b.setZone e j x).zone d k = if e = d ∧ j = k then x else b.zone d k := by
  unfold Block.setZone Block.zone
  simp only
  rw [vec_get_set]
  by_cases h : e = d
  · subst h; simp
  · simp [h]

/-- A weather entry. -/
@[simp] theorem wx_setWx (b : Block) (n e : WeatherId) (x : WxEntry) :
    (b.setWx e x).wx n = if e = n then x else b.wx n := vec_get_set ..

/-- A node entry. -/
@[simp] theorem node_setNode (b : Block) (r e : NodeRef) (x : Node) :
    (b.setNode e x).node r = if e = r then x else b.node r := by
  cases e <;> cases r <;> simp [Block.setNode, Block.node, Vector.getElem_set, Fin.ext_iff]

/-- A line record. -/
@[simp] theorem line_setLine (b : Block) (l e : Line) (x : LineRec) :
    (b.setLine e x).line l = if e = l then x else b.line l := by cases e <;> cases l <;> rfl

/-- The free count after a queue is replaced (R34). -/
theorem free_setQueue (b : Block) (d : DishId) (q : List Point) :
    (b.setQueue d q).points.free = b.points.free + (b.queue d).length - q.length := rfl

/-! ### What each replacement leaves -/

/-- What setAxis leaves. -/
@[simp] theorem setAxis_frame (b : Block) (e : DishId) (j : AxisKind) (x : Axis) :
    (b.setAxis e j x).dishes = b.dishes ∧ (b.setAxis e j x).points = b.points ∧ (b.setAxis e j x).planner =
    b.planner ∧ (b.setAxis e j x).account = b.account ∧ (b.setAxis e j x).weather = b.weather ∧ (b.setAxis e j
    x).heater = b.heater ∧ (b.setAxis e j x).lockout = b.lockout ∧ (b.setAxis e j x).field = b.field ∧ (b.setAxis e
    j x).link = b.link ∧ (b.setAxis e j x).site = b.site ∧ (b.setAxis e j x).dish = b.dish ∧ (b.setAxis e j x).queue
    = b.queue ∧ (b.setAxis e j x).group = b.group ∧ (b.setAxis e j x).move = b.move ∧ (b.setAxis e j x).claim =
    b.claim ∧ (b.setAxis e j x).zone = b.zone ∧ (b.setAxis e j x).cold = b.cold ∧ (b.setAxis e j x).wx = b.wx ∧
    (b.setAxis e j x).node = b.node ∧ (b.setAxis e j x).line = b.line ∧ (b.setAxis e j x).configured = b.configured :=
  ⟨rfl, rfl, rfl, rfl, rfl, rfl, rfl, rfl, rfl, rfl, rfl, rfl, rfl, rfl, rfl, rfl, rfl, rfl, rfl, rfl, rfl⟩

/-- What setDish leaves. -/
@[simp] theorem setDish_frame (b : Block) (e : DishId) (x : Dish) :
    (b.setDish e x).axes = b.axes ∧ (b.setDish e x).points = b.points ∧ (b.setDish e x).planner = b.planner ∧
    (b.setDish e x).account = b.account ∧ (b.setDish e x).weather = b.weather ∧ (b.setDish e x).heater = b.heater ∧
    (b.setDish e x).lockout = b.lockout ∧ (b.setDish e x).field = b.field ∧ (b.setDish e x).link = b.link ∧
    (b.setDish e x).site = b.site ∧ (b.setDish e x).axis = b.axis ∧ (b.setDish e x).queue = b.queue ∧ (b.setDish e
    x).group = b.group ∧ (b.setDish e x).move = b.move ∧ (b.setDish e x).claim = b.claim ∧ (b.setDish e x).zone =
    b.zone ∧ (b.setDish e x).cold = b.cold ∧ (b.setDish e x).wx = b.wx ∧ (b.setDish e x).node = b.node ∧ (b.setDish
    e x).line = b.line ∧ (b.setDish e x).configured = b.configured :=
  ⟨rfl, rfl, rfl, rfl, rfl, rfl, rfl, rfl, rfl, rfl, rfl, rfl, rfl, rfl, rfl, rfl, rfl, rfl, rfl, rfl, rfl⟩

/-- What setQueue leaves. -/
@[simp] theorem setQueue_frame (b : Block) (e : DishId) (x : List Point) :
    (b.setQueue e x).axes = b.axes ∧ (b.setQueue e x).dishes = b.dishes ∧ (b.setQueue e x).planner = b.planner ∧
    (b.setQueue e x).account = b.account ∧ (b.setQueue e x).weather = b.weather ∧ (b.setQueue e x).heater = b.heater
    ∧ (b.setQueue e x).lockout = b.lockout ∧ (b.setQueue e x).field = b.field ∧ (b.setQueue e x).link = b.link ∧
    (b.setQueue e x).site = b.site ∧ (b.setQueue e x).axis = b.axis ∧ (b.setQueue e x).dish = b.dish ∧ (b.setQueue e
    x).group = b.group ∧ (b.setQueue e x).move = b.move ∧ (b.setQueue e x).claim = b.claim ∧ (b.setQueue e x).zone =
    b.zone ∧ (b.setQueue e x).cold = b.cold ∧ (b.setQueue e x).wx = b.wx ∧ (b.setQueue e x).node = b.node ∧
    (b.setQueue e x).line = b.line ∧ (b.setQueue e x).configured = b.configured :=
  ⟨rfl, rfl, rfl, rfl, rfl, rfl, rfl, rfl, rfl, rfl, rfl, rfl, rfl, rfl, rfl, rfl, rfl, rfl, rfl, rfl, rfl⟩

/-- What setGroup leaves. -/
@[simp] theorem setGroup_frame (b : Block) (e : GroupId) (x : Option Group) :
    (b.setGroup e x).axes = b.axes ∧ (b.setGroup e x).dishes = b.dishes ∧ (b.setGroup e x).points = b.points ∧
    (b.setGroup e x).account = b.account ∧ (b.setGroup e x).weather = b.weather ∧ (b.setGroup e x).heater = b.heater
    ∧ (b.setGroup e x).lockout = b.lockout ∧ (b.setGroup e x).field = b.field ∧ (b.setGroup e x).link = b.link ∧
    (b.setGroup e x).site = b.site ∧ (b.setGroup e x).axis = b.axis ∧ (b.setGroup e x).dish = b.dish ∧ (b.setGroup e
    x).queue = b.queue ∧ (b.setGroup e x).claim = b.claim ∧ (b.setGroup e x).zone = b.zone ∧ (b.setGroup e x).cold =
    b.cold ∧ (b.setGroup e x).wx = b.wx ∧ (b.setGroup e x).node = b.node ∧ (b.setGroup e x).line = b.line ∧
    (b.setGroup e x).configured = b.configured ∧ (b.setGroup e x).move = b.move :=
  ⟨rfl, rfl, rfl, rfl, rfl, rfl, rfl, rfl, rfl, rfl, rfl, rfl, rfl, rfl, rfl, rfl, rfl, rfl, rfl, rfl, rfl⟩

/-- What setMove leaves. -/
@[simp] theorem setMove_frame (b : Block) (e : DishId) (x : Option InternalMove) :
    (b.setMove e x).axes = b.axes ∧ (b.setMove e x).dishes = b.dishes ∧ (b.setMove e x).points = b.points ∧
    (b.setMove e x).account = b.account ∧ (b.setMove e x).weather = b.weather ∧ (b.setMove e x).heater = b.heater ∧
    (b.setMove e x).lockout = b.lockout ∧ (b.setMove e x).field = b.field ∧ (b.setMove e x).link = b.link ∧
    (b.setMove e x).site = b.site ∧ (b.setMove e x).axis = b.axis ∧ (b.setMove e x).dish = b.dish ∧ (b.setMove e
    x).queue = b.queue ∧ (b.setMove e x).claim = b.claim ∧ (b.setMove e x).zone = b.zone ∧ (b.setMove e x).cold =
    b.cold ∧ (b.setMove e x).wx = b.wx ∧ (b.setMove e x).node = b.node ∧ (b.setMove e x).line = b.line ∧ (b.setMove
    e x).configured = b.configured ∧ (b.setMove e x).group = b.group :=
  ⟨rfl, rfl, rfl, rfl, rfl, rfl, rfl, rfl, rfl, rfl, rfl, rfl, rfl, rfl, rfl, rfl, rfl, rfl, rfl, rfl, rfl⟩

/-- What setClaim leaves. -/
@[simp] theorem setClaim_frame (b : Block) (e : DishId) (j : AxisKind) (x : Option Claim) :
    (b.setClaim e j x).axes = b.axes ∧ (b.setClaim e j x).dishes = b.dishes ∧ (b.setClaim e j x).points = b.points ∧
    (b.setClaim e j x).planner = b.planner ∧ (b.setClaim e j x).weather = b.weather ∧ (b.setClaim e j x).heater =
    b.heater ∧ (b.setClaim e j x).lockout = b.lockout ∧ (b.setClaim e j x).field = b.field ∧ (b.setClaim e j x).link
    = b.link ∧ (b.setClaim e j x).site = b.site ∧ (b.setClaim e j x).axis = b.axis ∧ (b.setClaim e j x).dish =
    b.dish ∧ (b.setClaim e j x).queue = b.queue ∧ (b.setClaim e j x).group = b.group ∧ (b.setClaim e j x).move =
    b.move ∧ (b.setClaim e j x).zone = b.zone ∧ (b.setClaim e j x).cold = b.cold ∧ (b.setClaim e j x).wx = b.wx ∧
    (b.setClaim e j x).node = b.node ∧ (b.setClaim e j x).line = b.line ∧ (b.setClaim e j x).configured =
    b.configured :=
  ⟨rfl, rfl, rfl, rfl, rfl, rfl, rfl, rfl, rfl, rfl, rfl, rfl, rfl, rfl, rfl, rfl, rfl, rfl, rfl, rfl, rfl⟩

/-- What setZone leaves. -/
@[simp] theorem setZone_frame (b : Block) (e : DishId) (j : ZoneKind) (x : Zone) :
    (b.setZone e j x).axes = b.axes ∧ (b.setZone e j x).dishes = b.dishes ∧ (b.setZone e j x).points = b.points ∧
    (b.setZone e j x).planner = b.planner ∧ (b.setZone e j x).account = b.account ∧ (b.setZone e j x).weather =
    b.weather ∧ (b.setZone e j x).lockout = b.lockout ∧ (b.setZone e j x).field = b.field ∧ (b.setZone e j x).link =
    b.link ∧ (b.setZone e j x).site = b.site ∧ (b.setZone e j x).axis = b.axis ∧ (b.setZone e j x).dish = b.dish ∧
    (b.setZone e j x).queue = b.queue ∧ (b.setZone e j x).group = b.group ∧ (b.setZone e j x).move = b.move ∧
    (b.setZone e j x).claim = b.claim ∧ (b.setZone e j x).wx = b.wx ∧ (b.setZone e j x).node = b.node ∧ (b.setZone e
    j x).line = b.line ∧ (b.setZone e j x).configured = b.configured ∧ (b.setZone e j x).cold = b.cold :=
  ⟨rfl, rfl, rfl, rfl, rfl, rfl, rfl, rfl, rfl, rfl, rfl, rfl, rfl, rfl, rfl, rfl, rfl, rfl, rfl, rfl, rfl⟩

/-- What setWx leaves. -/
@[simp] theorem setWx_frame (b : Block) (e : WeatherId) (x : WxEntry) :
    (b.setWx e x).axes = b.axes ∧ (b.setWx e x).dishes = b.dishes ∧ (b.setWx e x).points = b.points ∧ (b.setWx e
    x).planner = b.planner ∧ (b.setWx e x).account = b.account ∧ (b.setWx e x).heater = b.heater ∧ (b.setWx e
    x).lockout = b.lockout ∧ (b.setWx e x).field = b.field ∧ (b.setWx e x).link = b.link ∧ (b.setWx e x).site =
    b.site ∧ (b.setWx e x).axis = b.axis ∧ (b.setWx e x).dish = b.dish ∧ (b.setWx e x).queue = b.queue ∧ (b.setWx e
    x).group = b.group ∧ (b.setWx e x).move = b.move ∧ (b.setWx e x).claim = b.claim ∧ (b.setWx e x).zone = b.zone ∧
    (b.setWx e x).cold = b.cold ∧ (b.setWx e x).node = b.node ∧ (b.setWx e x).line = b.line ∧ (b.setWx e
    x).configured = b.configured :=
  ⟨rfl, rfl, rfl, rfl, rfl, rfl, rfl, rfl, rfl, rfl, rfl, rfl, rfl, rfl, rfl, rfl, rfl, rfl, rfl, rfl, rfl⟩

/-- What setNode leaves. -/
@[simp] theorem setNode_frame (b : Block) (e : NodeRef) (x : Node) :
    (b.setNode e x).axes = b.axes ∧ (b.setNode e x).dishes = b.dishes ∧ (b.setNode e x).points = b.points ∧
    (b.setNode e x).planner = b.planner ∧ (b.setNode e x).account = b.account ∧ (b.setNode e x).weather = b.weather
    ∧ (b.setNode e x).heater = b.heater ∧ (b.setNode e x).lockout = b.lockout ∧ (b.setNode e x).link = b.link ∧
    (b.setNode e x).site = b.site ∧ (b.setNode e x).axis = b.axis ∧ (b.setNode e x).dish = b.dish ∧ (b.setNode e
    x).queue = b.queue ∧ (b.setNode e x).group = b.group ∧ (b.setNode e x).move = b.move ∧ (b.setNode e x).claim =
    b.claim ∧ (b.setNode e x).zone = b.zone ∧ (b.setNode e x).cold = b.cold ∧ (b.setNode e x).wx = b.wx ∧ (b.setNode
    e x).line = b.line ∧ (b.setNode e x).configured = b.configured := by
  cases e <;> exact
    ⟨rfl, rfl, rfl, rfl, rfl, rfl, rfl, rfl, rfl, rfl, rfl, rfl, rfl, rfl, rfl, rfl, rfl, rfl, rfl, rfl, rfl⟩

/-- What setLine leaves. -/
@[simp] theorem setLine_frame (b : Block) (e : Line) (x : LineRec) :
    (b.setLine e x).axes = b.axes ∧ (b.setLine e x).dishes = b.dishes ∧ (b.setLine e x).points = b.points ∧
    (b.setLine e x).planner = b.planner ∧ (b.setLine e x).account = b.account ∧ (b.setLine e x).weather = b.weather
    ∧ (b.setLine e x).heater = b.heater ∧ (b.setLine e x).lockout = b.lockout ∧ (b.setLine e x).link = b.link ∧
    (b.setLine e x).site = b.site ∧ (b.setLine e x).axis = b.axis ∧ (b.setLine e x).dish = b.dish ∧ (b.setLine e
    x).queue = b.queue ∧ (b.setLine e x).group = b.group ∧ (b.setLine e x).move = b.move ∧ (b.setLine e x).claim =
    b.claim ∧ (b.setLine e x).zone = b.zone ∧ (b.setLine e x).cold = b.cold ∧ (b.setLine e x).wx = b.wx ∧ (b.setLine
    e x).node = b.node ∧ (b.setLine e x).configured = b.configured := by
  cases e <;> exact
    ⟨rfl, rfl, rfl, rfl, rfl, rfl, rfl, rfl, rfl, rfl, rfl, rfl, rfl, rfl, rfl, rfl, rfl, rfl, rfl, rfl, rfl⟩

/-- What passTime leaves. -/
@[simp] theorem passTime_frame (b : Block) (n : Nat) :
    (b.passTime n).axes = b.axes ∧ (b.passTime n).dishes = b.dishes ∧ (b.passTime n).points = b.points ∧ (b.passTime
    n).planner = b.planner ∧ (b.passTime n).account = b.account ∧ (b.passTime n).weather = b.weather ∧ (b.passTime
    n).heater = b.heater ∧ (b.passTime n).lockout = b.lockout ∧ (b.passTime n).field = b.field ∧ (b.passTime n).link
    = b.link ∧ (b.passTime n).axis = b.axis ∧ (b.passTime n).dish = b.dish ∧ (b.passTime n).queue = b.queue ∧
    (b.passTime n).group = b.group ∧ (b.passTime n).move = b.move ∧ (b.passTime n).claim = b.claim ∧ (b.passTime
    n).zone = b.zone ∧ (b.passTime n).cold = b.cold ∧ (b.passTime n).wx = b.wx ∧ (b.passTime n).node = b.node ∧
    (b.passTime n).line = b.line ∧ (b.passTime n).configured = b.configured :=
  ⟨rfl, rfl, rfl, rfl, rfl, rfl, rfl, rfl, rfl, rfl, rfl, rfl, rfl, rfl, rfl, rfl, rfl, rfl, rfl, rfl, rfl, rfl⟩

/-- What callExamine leaves. -/
@[simp] theorem callExamine_frame (b : Block)  :
    b.callExamine.axes = b.axes ∧ b.callExamine.dishes = b.dishes ∧ b.callExamine.points = b.points ∧
    b.callExamine.planner = b.planner ∧ b.callExamine.weather = b.weather ∧ b.callExamine.heater = b.heater ∧
    b.callExamine.lockout = b.lockout ∧ b.callExamine.field = b.field ∧ b.callExamine.link = b.link ∧
    b.callExamine.site = b.site ∧ b.callExamine.axis = b.axis ∧ b.callExamine.dish = b.dish ∧ b.callExamine.queue =
    b.queue ∧ b.callExamine.group = b.group ∧ b.callExamine.move = b.move ∧ b.callExamine.zone = b.zone ∧
    b.callExamine.cold = b.cold ∧ b.callExamine.wx = b.wx ∧ b.callExamine.node = b.node ∧ b.callExamine.line =
    b.line ∧ b.callExamine.configured = b.configured ∧ b.callExamine.claim = b.claim :=
  ⟨rfl, rfl, rfl, rfl, rfl, rfl, rfl, rfl, rfl, rfl, rfl, rfl, rfl, rfl, rfl, rfl, rfl, rfl, rfl, rfl, rfl, rfl⟩

/-! ### What a report leaves -/

/-- A report touches the report queue and its lost mark only (R174, R175). -/
theorem report_eq (b : Block) (kind : RepKind) (n : Nat) (pre post : List Fld) (prev : Option Fld) :
    ∃ q lost, b.report kind n pre prev post = { b with link := { b.link with reports := q, lost := lost } } := by
  unfold Block.report
  split
  · exact ⟨_, _, rfl⟩
  · exact ⟨b.link.reports, b.link.lost, rfl⟩

/-- A fold of changes, each of which keeps what f reads, keeps it. -/
theorem each_keeps {α β : Type} (f : Block → β) (xs : List α) (g : α → Block → Block)
    (h : ∀ x s, f (g x s) = f s) (b : Block) : f (b.each xs g) = f b := by
  unfold Block.each
  induction xs generalizing b with
  | nil => rfl
  | cons x xs ih => rw [List.foldl_cons, ih, h]

/-- A fold of changes, each of which keeps a property, keeps it. -/
theorem each_holds {α : Type} (P : Block → Prop) (xs : List α) (g : α → Block → Block)
    (h : ∀ x s, P s → P (g x s)) (b : Block) (hb : P b) : P (b.each xs g) := by
  unfold Block.each
  induction xs generalizing b with
  | nil => exact hb
  | cons x xs ih => exact ih _ (h x b hb)

end Sys2Proof.Machine
end

