-- ==== Sys2Proof/Laws/Beside.lean ====
section
/-! SUPPORT. Beside.lean: what the operations on one axis never touch. beside is a block with the axes, the park requests,
what the account follows by itself and the report queue blotted out; each operation by which an axis is held, stopped or
braked keeps it, said once per operation, and the end of an internal move (R65) follows; with it what R29's table leaves
of the wait queue, and what a dish set IDLE keeps. -/

namespace Sys2Proof.Machine

/-- A dish without its park requests. -/
def Dish.beside (x : Dish) : Dish := { x with parkReq := .both false }

/-- A block with everything blotted out that an operation on one axis may change. -/
def Block.beside (b : Block) : Block :=
  { b with
    axes := (Block.afterReset Store.erased).axes
    dishes := b.dishes.map Dish.beside
    account := { b.account with
      beff := 0, claims := (Block.afterReset Store.erased).account.claims, waitq := [], examineDue := false }
    link := { b.link with reports := [], lost := false } }

/-! ### The primitives -/

@[simp] theorem beside_modAxis (b : Block) (d : DishId) (k : AxisKind) (f : Axis → Axis) :
    (b.modAxis d k f).beside = b.beside := rfl
@[simp] theorem beside_setClaim (b : Block) (d : DishId) (k : AxisKind) (c : Option Claim) :
    (b.setClaim d k c).beside = b.beside := rfl
@[simp] theorem beside_callExamine (b : Block) : b.callExamine.beside = b.beside := rfl
@[simp] theorem beside_withdraw (b : Block) (w : Waiter) : (b.withdraw w).beside = b.beside := by
  unfold Block.withdraw; split <;> rfl

/-- A report. -/
@[simp] theorem beside_report (b : Block) (kind : RepKind) (n : Nat) (pre post : List Fld) (prev : Option Fld) :
    (b.report kind n pre prev post).beside = b.beside := by
  obtain ⟨q, l, h⟩ := report_eq b kind n pre post prev
  rw [h]; rfl

/-- A park request set or cleared. -/
@[simp] theorem beside_park (b : Block) (d : DishId) (k : AxisKind) (v : Bool) :
    (b.modDish d fun x => { x with parkReq := x.parkReq.set k v }).beside = b.beside := by
  have h : (b.dishes.set d { b.dishes[d] with parkReq := b.dishes[d].parkReq.set k v }).map Dish.beside
      = b.dishes.map Dish.beside := by
    ext j hj
    simp only [Vector.getElem_map, Vector.getElem_set]
    split
    · next e => subst e; rfl
    · rfl
  unfold Block.beside Block.modDish Block.setDish Block.dish
  simp only [h]

/-! ### The account -/

@[simp] theorem beside_followLag (b : Block) : b.followLag.beside = b.beside := by
  unfold Block.followLag Block.tellBudget Block.tell
  simp only []
  repeat' split
  all_goals first | rfl | (rw [beside_report]; rfl)
@[simp] theorem beside_releaseClaim (b : Block) (d : DishId) (k : AxisKind) : (b.releaseClaim d k).beside = b.beside := by
  unfold Block.releaseClaim; repeat' split
  all_goals simp
@[simp] theorem beside_reduceToHold (b : Block) (d : DishId) (k : AxisKind) : (b.reduceToHold d k).beside = b.beside := by
  unfold Block.reduceToHold Block.reduceClaim; repeat' split
  all_goals simp

/-! ### One axis -/

@[simp] theorem beside_enter (b : Block) (d : DishId) (k : AxisKind) (st : AxisState) : (b.enter d k st).beside = b.beside := by
  unfold Block.enter Block.tellAxis
  simp only []
  split <;> split <;> simp
@[simp] theorem beside_setOrder (b : Block) (d : DishId) (k : AxisKind) (o : Order) : (b.setOrder d k o).beside = b.beside := rfl
@[simp] theorem beside_dropNeed (b : Block) (d : DishId) (k : AxisKind) : (b.dropNeed d k).beside = b.beside := rfl
@[simp] theorem beside_needHold (b : Block) (d : DishId) (k : AxisKind) : (b.needHold d k).beside = b.beside := rfl
@[simp] theorem beside_endRelease (b : Block) (d : DishId) (k : AxisKind) : (b.endRelease d k).beside = b.beside := by
  unfold Block.endRelease; simp
@[simp] theorem beside_withdrawNeed (b : Block) (d : DishId) (k : AxisKind) : (b.withdrawNeed d k).beside = b.beside := by
  unfold Block.withdrawNeed; simp only []; split <;> simp
@[simp] theorem beside_engage (b : Block) (d : DishId) (k : AxisKind) : (b.engage d k).beside = b.beside := by
  unfold Block.engage; simp
@[simp] theorem beside_stopAxis (b : Block) (d : DishId) (k : AxisKind) (i : AfterStop) :
    (b.stopAxis d k i).beside = b.beside := by unfold Block.stopAxis; simp
@[simp] theorem beside_orderHold (b : Block) (d : DishId) (k : AxisKind) : (b.orderHold d k).beside = b.beside := by
  unfold Block.orderHold; split <;> simp
@[simp] theorem beside_orderBrake (b : Block) (d : DishId) (k : AxisKind) : (b.orderBrake d k).beside = b.beside := by
  unfold Block.orderBrake; simp
@[simp] theorem beside_orderMove (b : Block) (d : DishId) (k : AxisKind) (t : Int) (n s : Nat) :
    (b.orderMove d k t n s).beside = b.beside := by unfold Block.orderMove; simp

/-- R29's table. -/
@[simp] theorem beside_holdAfterEnd (b : Block) (d : DishId) (k : AxisKind) : (b.holdAfterEnd d k).beside = b.beside := by
  unfold Block.holdAfterEnd
  simp only []
  repeat' split
  all_goals simp

/-- R31's table. -/
@[simp] theorem beside_brakeInPlace (b : Block) (d : DishId) (k : AxisKind) : (b.brakeInPlace d k).beside = b.beside := by
  unfold Block.brakeInPlace
  split <;> simp

/-- Each need made a hold of the dish. -/
@[simp] theorem beside_holdNeeds (b : Block) (d : DishId) : (b.holdNeeds d).beside = b.beside := by
  unfold Block.holdNeeds Block.bothAxes
  simp only []
  repeat' split
  all_goals simp

/-! ### What stands beside the axes -/

variable {b c : Block}

/-- A dish keeps its record but for its park requests. -/
theorem dish_of_beside (h : b.beside = c.beside) (d : DishId) :
    { b.dish d with parkReq := (c.dish d).parkReq } = c.dish d := by
  have e : (b.dishes.map Dish.beside)[d] = (c.dishes.map Dish.beside)[d] := by
    have := congrArg Block.dishes h
    simp only [Block.beside] at this
    rw [this]
  have e : (b.dish d).beside = (c.dish d).beside := by
    simpa [Block.dish] using e
  calc { b.dish d with parkReq := (c.dish d).parkReq }
      = { (b.dish d).beside with parkReq := (c.dish d).parkReq } := rfl
    _ = { (c.dish d).beside with parkReq := (c.dish d).parkReq } := by rw [e]
    _ = c.dish d := rfl

/-- The planner, the points, the weather, the heaters, the locks, the field lines and the site stand. -/
theorem records_of_beside (h : b.beside = c.beside) :
    b.planner = c.planner ∧ b.points = c.points ∧ b.weather = c.weather ∧ b.heater = c.heater
    ∧ b.lockout = c.lockout ∧ b.field = c.field ∧ b.site = c.site :=
  ⟨(congrArg Block.planner h :), (congrArg Block.points h :), (congrArg Block.weather h :), (congrArg Block.heater h :),
    (congrArg Block.lockout h :), (congrArg Block.field h :), (congrArg Block.site h :)⟩

/-! ### The end of an internal move (R65) -/

/-- An entry withdrawn waits no more. -/
theorem waits_withdraw (b : Block) (w : Waiter) : (b.withdraw w).waits w = false := by
  unfold Block.withdraw
  split
  · simp [Block.waits, Block.callExamine]
  · next h => simpa using h

/-- A move ended leaves everything but its record, its axes, park requests and the account's own doings as it was. -/
theorem beside_endMove (b : Block) (d : DishId) :
    (b.endMove d).beside = (b.setMove d none).beside := by
  unfold Block.endMove
  split
  · next h =>
    have : b.setMove d none = b := by
      unfold Block.setMove
      have e : b.planner.moves.set d none = b.planner.moves := by
        apply Vector.ext
        intro j hj
        rw [Vector.getElem_set]
        split
        · next e => subst e; exact h.symm
        · rfl
      simp only [e]
    rw [this]
  · unfold Block.holdBoth Block.bothAxes; simp

/-! ### The wait queue (R75) -/

/-- R29's table leaves the wait queue as it is; it only calls for an examination. -/
theorem waitq_holdAfterEnd (b : Block) (d : DishId) (k : AxisKind) :
    (b.holdAfterEnd d k).account.waitq = b.account.waitq := by
  have rep : ∀ (c : Block) kind n pre post prev, (c.report kind n pre prev post).account = c.account := by
    intro c kind n pre post prev
    obtain ⟨q, l, h⟩ := report_eq c kind n pre post prev
    rw [h]
  have lag : ∀ c : Block, c.followLag.account.waitq = c.account.waitq := by
    intro c
    unfold Block.followLag Block.tellBudget Block.tell
    simp only []
    repeat' split
    all_goals first | rfl | rw [rep]
  have red : ∀ c : Block, (c.reduceToHold d k).account.waitq = c.account.waitq := by
    intro c
    unfold Block.reduceToHold Block.reduceClaim
    repeat' split
    all_goals first | rfl | exact lag _
  have ent : ∀ (c : Block) st, (c.enter d k st).account = c.account := by
    intro c st
    unfold Block.enter Block.tellAxis
    simp only []
    split <;> split <;> (try rw [rep]) <;> rfl
  unfold Block.holdAfterEnd
  simp only []
  repeat' split
  all_goals first | rfl | (rw [red]; rfl) | (unfold Block.stopAxis; rw [ent]; rfl)

/-! ### A dish that becomes IDLE (R24, R102) -/

/-- A dish set IDLE is IDLE without an intent and keeps its context; moves, queues and waiting entries stand. -/
theorem setMode_idle (c : Block) (d : DishId) (why : ModeCause) :
    let t := c.setMode d .idle why
    (t.dish d).mode = .idle ∧ (t.dish d).intent = none ∧ (t.dish d).context = (c.dish d).context
    ∧ t.planner = c.planner ∧ t.points = c.points ∧ t.account = c.account := by
  unfold Block.setMode Block.tellMode
  simp only []
  split
  · refine ⟨?_, ?_, ?_, rfl, rfl, rfl⟩ <;> simp [Block.modDish]
  · generalize e : c.modDish d _ = g
    obtain ⟨q, l, h⟩ := report_eq g .dishMode (dishNum d) [f1 (g.dish d).mode.ctorIdx]
      (f1 why.ctorIdx :: fopt (g.dish d).blocks [1, 1, 1, 1] Blocks.fields) (some (f1 (c.dish d).mode.ctorIdx))
    rw [h]
    have mode : (g.dish d).mode = .idle := by rw [← e]; simp [Block.modDish]
    have intent : (g.dish d).intent = none := by rw [← e]; simp [Block.modDish]
    have context : (g.dish d).context = (c.dish d).context := by rw [← e]; simp [Block.modDish]
    exact ⟨mode, intent, context, by rw [← e]; rfl, by rw [← e]; rfl, by rw [← e]; rfl⟩

end Sys2Proof.Machine
end

