-- ==== Sys2Proof/Laws/Still.lean ====
section
/-! SUPPORT. Still.lean: what the settling of an event never touches. still is a block with everything that settling may
change blotted out; each operation that settling uses keeps it, said once per operation. -/

namespace Sys2Proof.Machine

/-- What settling never changes in an axis: its report, its counts, its fault reason, its offline hold, its settings. -/
@[simp, reducible] def Axis.still (a : Axis) : Axis :=
  { Axis.reset .az with
    reported := a.reported, releases := a.releases, verify := a.verify, fault := a.fault, holdDue := a.holdDue
    cfg := a.cfg }

/-- What settling never changes in a dish. -/
@[simp, reducible] def Dish.still (x : Dish) : Dish := { Dish.reset with clampOpen := x.clampOpen, trims := x.trims, deferred := x.deferred }

/-- What settling never changes in a zone: all but its duty, its contactor order and its mode. -/
@[simp, reducible] def Zone.still (x : Zone) : Zone := { x with duty := 0, commanded := false, mode := .off }

/-- What settling never changes in a lock entry: all but its state. -/
def LockEntry.still (e : LockEntry) : LockEntry := { e with engaged := false }

/-- A block with everything blotted out that settling may change. -/
def Block.still (b : Block) : Block :=
  { b with
    axes := b.axes.map fun p => ⟨p.az.still, p.el.still⟩
    dishes := b.dishes.map Dish.still
    planner := (Block.afterReset Store.erased).planner
    account := { b.account with
      beff := 0, claims := vec12 fun _ => ⟨none, none⟩, waitq := [], stowq := [], examineDue := false }
    heater := { b.heater with zones := b.heater.zones.map fun p => ⟨p.surf.still, p.drive.still⟩ }
    lockout := { b.lockout with
      entries := b.lockout.entries.map LockEntry.still, axisSafe := vec12 fun _ => .both false
      zoneSafe := vec12 fun _ => .both false }
    link := { b.link with reports := [], lost := false, tx := none }
    site := { b.site with beacon := false, stow := false, fault := false, beaconSince := none } }

/-- A table blotted after a place is replaced by one of the same blot. -/
theorem map_set_same {α β : Type} {n : Nat} (f : α → β) (v : Vector α n) (i : Fin n) (x : α) (h : f x = f v[i]) :
    (v.set i x).map f = v.map f := by
  ext j hj
  simp only [Vector.getElem_map, Vector.getElem_set]
  split
  · next e => subst e; exact h
  · rfl

/-! ### The replacements -/

/-- An axis replaced by one of the same blot. -/
theorem still_setAxis (b : Block) (d : DishId) (k : AxisKind) (x : Axis) (h : x.still = (b.axis d k).still) :
    (b.setAxis d k x).still = b.still := by
  have : (b.axes.set d ((b.axes[d]).set k x)).map (fun p => (⟨p.az.still, p.el.still⟩ : PerAxis Axis))
      = b.axes.map fun p => ⟨p.az.still, p.el.still⟩ := by
    apply map_set_same
    cases k <;> simp_all [PerAxis.set, Block.axis, PerAxis.get]
  unfold Block.still Block.setAxis
  simp only [this]

/-- An axis changed in what the blot covers. -/
@[simp] theorem still_modAxis (b : Block) (d : DishId) (k : AxisKind) (f : Axis → Axis) (h : ∀ a, (f a).still = a.still) :
    (b.modAxis d k f).still = b.still := still_setAxis b d k _ (h _)

/-- A dish changed in what the blot covers. -/
@[simp] theorem still_modDish (b : Block) (d : DishId) (f : Dish → Dish) (h : ∀ x, (f x).still = x.still) :
    (b.modDish d f).still = b.still := by
  have : (b.dishes.set d (f b.dishes[d])).map Dish.still = b.dishes.map Dish.still := map_set_same _ _ _ _ (h _)
  unfold Block.still Block.modDish Block.setDish Block.dish
  simp only [this]

/-- A zone changed in what the blot covers. -/
@[simp] theorem still_modZone (b : Block) (d : DishId) (z : ZoneKind) (f : Zone → Zone) (h : ∀ x, (f x).still = x.still) :
    (b.modZone d z f).still = b.still := by
  have : (b.heater.zones.set d ((b.heater.zones[d]).set z (f (b.zone d z)))).map
        (fun p => (⟨p.surf.still, p.drive.still⟩ : PerZone Zone))
      = b.heater.zones.map fun p => ⟨p.surf.still, p.drive.still⟩ := by
    apply map_set_same
    cases z <;> simp [PerZone.set, Block.zone, PerZone.get, h]
  unfold Block.still Block.modZone Block.setZone
  simp only [this]

/-- A claim. -/
@[simp] theorem still_setClaim (b : Block) (d : DishId) (k : AxisKind) (c : Option Claim) :
    (b.setClaim d k c).still = b.still := id rfl

/-- A group. -/
@[simp] theorem still_setGroup (b : Block) (g : GroupId) (x : Option Group) : (b.setGroup g x).still = b.still := id rfl

/-- An internal move. -/
@[simp] theorem still_setMove (b : Block) (d : DishId) (x : Option InternalMove) : (b.setMove d x).still = b.still := id rfl

/-- A report. -/
@[simp] theorem still_report (b : Block) (kind : RepKind) (n : Nat) (pre post : List Fld) (prev : Option Fld) :
    (b.report kind n pre prev post).still = b.still := by
  obtain ⟨q, l, h⟩ := report_eq b kind n pre post prev
  rw [h]; rfl

/-- A report without a previous state. -/
@[simp] theorem still_tell (b : Block) (kind : RepKind) (n : Nat) (fs : List Fld) : (b.tell kind n fs).still = b.still :=
  still_report ..

/-- A fold. -/
@[simp] theorem still_each {α : Type} (b : Block) (xs : List α) (f : α → Block → Block)
    (h : ∀ x s, (f x s).still = s.still) : (b.each xs f).still = b.still := each_keeps _ _ _ h b

/-! ### The account -/

/-- An examination called for. -/
@[simp] theorem still_callExamine (b : Block) : b.callExamine.still = b.still := id rfl

/-- The lag followed. -/
@[simp] theorem still_followLag (b : Block) : b.followLag.still = b.still := by
  unfold Block.followLag Block.tellBudget
  split
  · simp only []; split
    · rfl
    · rw [still_tell]; rfl
  · rfl

/-- A release. -/
@[simp] theorem still_releaseClaim (b : Block) (d : DishId) (k : AxisKind) : (b.releaseClaim d k).still = b.still := by
  unfold Block.releaseClaim; split
  · rfl
  · split <;> simp

/-- A reduction. -/
@[simp] theorem still_reduceClaim (b : Block) (d : DishId) (k : AxisKind) (w : Nat) :
    (b.reduceClaim d k w).still = b.still := by
  unfold Block.reduceClaim; split
  · rfl
  · split <;> simp

/-- A reduction to the hold. -/
@[simp] theorem still_reduceToHold (b : Block) (d : DishId) (k : AxisKind) : (b.reduceToHold d k).still = b.still :=
  still_reduceClaim ..

/-- A zone's report. -/
@[simp] theorem still_tellZone (b : Block) (d : DishId) (z : ZoneKind) : (b.tellZone d z).still = b.still := still_tell ..

/-- A zone's mode derived anew. -/
@[simp] theorem still_deriveZone (b : Block) (d : DishId) (z : ZoneKind) : (b.deriveZone d z).still = b.still :=
  still_modZone _ _ _ _ fun _ => rfl

/-- A zone's duty set. -/
@[simp] theorem still_setDuty (b : Block) (d : DishId) (z : ZoneKind) (n : Nat) : (b.setDuty d z n).still = b.still :=
  still_modZone _ _ _ _ fun _ => rfl

/-- A zone cut. -/
@[simp] theorem still_cutZone (b : Block) (d : DishId) (z : ZoneKind) (n : Nat) : (b.cutZone d z n).1.still = b.still := by
  unfold Block.cutZone; simp only []; split <;> simp

/-- A curtailment. -/
@[simp] theorem still_curtail (b : Block) (x : Nat) : (b.curtail x).still = b.still := by
  unfold Block.curtail
  generalize b.heater.serving.reverse = rs
  induction rs generalizing b x with
  | nil => rfl
  | cons r rs ih =>
    rw [List.foldl_cons]
    have := ih (b.cutZone r.d r.z x).1 (b.cutZone r.d r.z x).2
    rw [still_cutZone] at this
    exact this

/-- A grant. -/
@[simp] theorem still_grant (b : Block) (ws : List Want) (c : ClaimClass) : (b.grant ws c).still = b.still := by
  unfold Block.grant; simp only []; split <;> simp

/-- A withdrawal. -/
@[simp] theorem still_withdraw (b : Block) (w : Waiter) : (b.withdraw w).still = b.still := by
  unfold Block.withdraw; split <;> rfl

/-- A request queued. -/
@[simp] theorem still_enqueue (b : Block) (w : Waiter) (ws : List Want) : (b.enqueue w ws).still = b.still := by
  unfold Block.enqueue; simp only []; split <;> rfl

/-- A stow entry withdrawn. -/
@[simp] theorem still_withdrawStow (b : Block) (d : DishId) : (b.withdrawStow d).still = b.still := by
  unfold Block.withdrawStow; split <;> rfl

/-- A stow request entered. -/
@[simp] theorem still_enterStow (b : Block) (d : DishId) : (b.enterStow d).still = b.still := by
  unfold Block.enterStow; split <;> rfl

/-! ### Axes -/

/-- A state entered. -/
@[simp] theorem still_enter (b : Block) (d : DishId) (k : AxisKind) (st : AxisState) : (b.enter d k st).still = b.still := by
  unfold Block.enter Block.tellAxis
  have h : (b.modAxis d k (·.entered st)).still = b.still := still_modAxis _ _ _ _ fun _ => rfl
  simp only []
  split <;> split <;> simp [h]

/-- A need removed. -/
@[simp] theorem still_dropNeed (b : Block) (d : DishId) (k : AxisKind) : (b.dropNeed d k).still = b.still :=
  still_modAxis _ _ _ _ fun _ => rfl

/-- An order replaced. -/
@[simp] theorem still_setOrder (b : Block) (d : DishId) (k : AxisKind) (o : Order) : (b.setOrder d k o).still = b.still :=
  still_modAxis _ _ _ _ fun _ => by split <;> rfl

/-- A release ended. -/
@[simp] theorem still_endRelease (b : Block) (d : DishId) (k : AxisKind) : (b.endRelease d k).still = b.still := by
  unfold Block.endRelease; simp

/-- A need withdrawn. -/
@[simp] theorem still_withdrawNeed (b : Block) (d : DishId) (k : AxisKind) : (b.withdrawNeed d k).still = b.still := by
  unfold Block.withdrawNeed; simp only []; split <;> simp

/-- An engagement begun. -/
@[simp] theorem still_engage (b : Block) (d : DishId) (k : AxisKind) : (b.engage d k).still = b.still := by
  unfold Block.engage; simp

/-- A stop begun. -/
@[simp] theorem still_stopAxis (b : Block) (d : DishId) (k : AxisKind) (i : AfterStop) :
    (b.stopAxis d k i).still = b.still := by unfold Block.stopAxis; simp

/-- A need delivered. -/
@[simp] theorem still_deliverNeed (b : Block) (d : DishId) (k : AxisKind) (n : Need) :
    (b.deliverNeed d k n).1.still = b.still := by
  unfold Block.deliverNeed
  simp only []
  repeat' split
  all_goals simp

/-- The beacon's interval met. -/
@[simp] theorem still_proceed (b : Block) (d : DishId) (k : AxisKind) : (b.proceed d k).still = b.still := by
  unfold Block.proceed
  simp only []
  repeat' split
  all_goals simp

/-- A move ordered. -/
@[simp] theorem still_orderMove (b : Block) (d : DishId) (k : AxisKind) (t : Int) (n s : Nat) :
    (b.orderMove d k t n s).still = b.still := by unfold Block.orderMove; simp

/-- A hold ordered. -/
@[simp] theorem still_orderHold (b : Block) (d : DishId) (k : AxisKind) : (b.orderHold d k).still = b.still := by
  unfold Block.orderHold; split <;> simp

/-- A brake ordered. -/
@[simp] theorem still_orderBrake (b : Block) (d : DishId) (k : AxisKind) : (b.orderBrake d k).still = b.still := by
  unfold Block.orderBrake; simp

/-- A hold of the dish recorded. -/
@[simp] theorem still_needHold (b : Block) (d : DishId) (k : AxisKind) : (b.needHold d k).still = b.still :=
  still_modAxis _ _ _ _ fun _ => rfl

/-- The end of a dish request. -/
@[simp] theorem still_holdAfterEnd (b : Block) (d : DishId) (k : AxisKind) : (b.holdAfterEnd d k).still = b.still := by
  unfold Block.holdAfterEnd
  simp only []
  repeat' split
  all_goals simp

/-- An axis brought to its brake. -/
@[simp] theorem still_brakeInPlace (b : Block) (d : DishId) (k : AxisKind) : (b.brakeInPlace d k).still = b.still := by
  unfold Block.brakeInPlace
  split <;> simp

/-- A TRACK order. -/
@[simp] theorem still_orderTrack (b : Block) (d : DishId) (k : AxisKind) : (b.orderTrack d k).still = b.still := by
  unfold Block.orderTrack; simp

/-! ### Dishes -/

/-- A mode entered. -/
@[simp] theorem still_setMode (b : Block) (d : DishId) (m : Mode) (c : ModeCause) : (b.setMode d m c).still = b.still := by
  unfold Block.setMode Block.tellMode
  simp only []
  split <;> simp

/-- A pending request withdrawn. -/
@[simp] theorem still_withdrawPending (b : Block) (d : DishId) : (b.withdrawPending d).still = b.still := by
  unfold Block.withdrawPending; split <;> simp

/-- A pending request withdrawn by the part. -/
@[simp] theorem still_losePending (b : Block) (d : DishId) (c : ModeCause) : (b.losePending d c).still = b.still := by
  unfold Block.losePending Block.tellMode; split <;> simp

/-- Both axes in turn. -/
@[simp] theorem still_bothAxes (b : Block) (f : AxisKind → Block → Block) (h : ∀ k s, (f k s).still = s.still) :
    (b.bothAxes f).still = b.still := by unfold Block.bothAxes; rw [h, h]

/-- R29's table for both axes. -/
@[simp] theorem still_holdBoth (b : Block) (d : DishId) : (b.holdBoth d).still = b.still := by unfold Block.holdBoth; simp

/-- R31's table for both axes. -/
@[simp] theorem still_brakeBoth (b : Block) (d : DishId) : (b.brakeBoth d).still = b.still := by
  unfold Block.brakeBoth; simp

/-- Tracking ended. -/
@[simp] theorem still_endTracking (b : Block) (d : DishId) (c : ModeCause) : (b.endTracking d c).still = b.still := by
  unfold Block.endTracking; simp

/-- A context discarded. -/
@[simp] theorem still_clearContext (b : Block) (d : DishId) : (b.clearContext d).still = b.still :=
  still_modDish _ _ _ fun _ => rfl

/-- An EL axis that waits for its stow. -/
@[simp] theorem still_awaitStow (b : Block) (d : DishId) : (b.awaitStow d).still = b.still := by
  unfold Block.awaitStow; split <;> simp

/-- A stow halted. -/
@[simp] theorem still_haltStow (b : Block) (d : DishId) : (b.haltStow d).still = b.still := by
  unfold Block.haltStow
  simp only []
  rw [still_bothAxes _ _ fun k s => by split <;> simp]
  simp

/-! ### Groups and internal moves -/

/-- A group record changed. -/
@[simp] theorem still_modGroup (b : Block) (g : GroupId) (f : Group → Group) : (b.modGroup g f).still = b.still := id rfl

/-- A group's report. -/
@[simp] theorem still_tellGroup (b : Block) (g : GroupId) (m : Option Member) : (b.tellGroup g m).still = b.still := by
  unfold Block.tellGroup; split <;> simp

/-- A group's state changed. -/
@[simp] theorem still_setGroupState (b : Block) (g : GroupId) (st : GroupState) :
    (b.setGroupState g st).still = b.still := by unfold Block.setGroupState; simp

/-- A member record changed. -/
@[simp] theorem still_modMember (b : Block) (g : GroupId) (d : DishId) (f : Member → Member) :
    (b.modMember g d f).still = b.still := by unfold Block.modMember; simp

/-- A group ended. -/
@[simp] theorem still_endGroup (b : Block) (g : GroupId) (st : GroupState) (r : Option EndReason) (m : Option DishId) :
    (b.endGroup g st r m).still = b.still := by
  unfold Block.endGroup
  split
  · rfl
  · simp only []
    rw [still_tellGroup]
    refine (each_keeps Block.still _ _ ?_ _).trans rfl
    intro m s
    exact still_modDish _ _ _ fun _ => rfl

/-- A settled group. -/
@[simp] theorem still_settleGroup (b : Block) (g : GroupId) (d : DishId) : (b.settleGroup g d).still = b.still := by
  unfold Block.settleGroup
  split
  · split <;> simp
  · rfl

/-- A mover's orders. -/
@[simp] theorem still_orderMoves (b : Block) (m : Mover) (n s : Nat) : (b.orderMoves m n s).still = b.still := by
  unfold Block.orderMoves
  simp only []
  repeat' split
  all_goals simp

/-- A group started. -/
@[simp] theorem still_startGroup (b : Block) (g : GroupId) (by_ : Option DishId) :
    (b.startGroup g by_).still = b.still := by
  unfold Block.startGroup
  split
  · split
    · simp only []
      rw [still_tellGroup, still_each]
      · simp
      · intro m s; split <;> simp
    · rfl
  · rfl

/-- A member dropped. -/
@[simp] theorem still_dropMember (b : Block) (g : GroupId) (d : DishId) (r : DropReason) :
    (b.dropMember g d r).still = b.still := by unfold Block.dropMember; simp

/-- An internal move started. -/
@[simp] theorem still_startMove (b : Block) (d : DishId) : (b.startMove d).still = b.still := by
  unfold Block.startMove
  split
  · split <;> simp
  · rfl

/-- An internal move ended. -/
@[simp] theorem still_endMove (b : Block) (d : DishId) : (b.endMove d).still = b.still := by
  unfold Block.endMove; split <;> simp

/-- An internal move lost. -/
@[simp] theorem still_loseMove (b : Block) (d : DishId) : (b.loseMove d).still = b.still := by
  unfold Block.loseMove
  split
  · rfl
  · simp only []; split <;> simp

/-! ### Grants -/

/-- Needs delivered to both axes. -/
@[simp] theorem still_deliverBoth (b : Block) (d : DishId) (w : Requester) (x y : Nat) :
    (b.deliverBoth d w x y).1.still = b.still := by unfold Block.deliverBoth; simp

/-- A granted HOLD. -/
@[simp] theorem still_takeHold (b : Block) (d : DishId) (ws : List Want) : (b.takeHold d ws).still = b.still := by
  unfold Block.takeHold; simp

/-- A granted TRACK. -/
@[simp] theorem still_takeTrack (b : Block) (d : DishId) (ws : List Want) (c : ModeCause) :
    (b.takeTrack d ws c).still = b.still := by
  unfold Block.takeTrack; simp only []; split <;> simp

/-- A granted internal move. -/
@[simp] theorem still_takeMove (b : Block) (d : DishId) (n : Nat) (ws : List Want) :
    (b.takeMove d n ws).still = b.still := by
  unfold Block.takeMove
  split
  · rfl
  · simp only []; split <;> simp

/-- A group's grant recorded. -/
@[simp] theorem still_recordGrant (b : Block) (g : GroupId) (n : Nat) (ws : List Want) :
    (b.recordGrant g n ws).still = b.still := by
  unfold Block.recordGrant; split <;> simp

/-- A group's needs delivered. -/
@[simp] theorem still_deliverGroup (b : Block) (g : GroupId) : (b.deliverGroup g).still = b.still := by
  unfold Block.deliverGroup
  split
  · rfl
  · refine still_each _ _ _ fun m s => ?_
    split
    · simp only []; split <;> simp
    · rfl

/-- A stow grant. -/
@[simp] theorem still_grantStow (b : Block) (d : DishId) : (b.grantStow d).still = b.still := by
  unfold Block.grantStow
  simp only [still_deliverNeed]
  exact still_grant ..

/-- The stow-pending list examined. -/
@[simp] theorem still_examineStow (b : Block) : b.examineStow.still = b.still := by
  unfold Block.examineStow
  split
  · exact still_each _ _ _ fun d s => by split <;> simp
  · rfl

/-- A stow request. -/
@[simp] theorem still_askStow (b : Block) (d : DishId) : (b.askStow d).still = b.still := by
  unfold Block.askStow; split <;> simp

/-- A stow begun. -/
@[simp] theorem still_beginStow (b : Block) (d : DishId) : (b.beginStow d).still = b.still := by
  unfold Block.beginStow; simp only []; split <;> simp

/-- The head granted. -/
@[simp] theorem still_grantHead (b : Block) (e : WaitEntry) : (b.grantHead e).still = b.still := by
  have h : ({ b with account := { b.account with waitq := b.account.waitq.tail } }).still = b.still := id rfl
  unfold Block.grantHead
  simp only []
  split
  · simp [h]
  · rw [still_takeHold, still_grant, h]
  · rw [still_takeTrack, still_grant, h]
  · split
    · exact h
    · rw [still_takeMove, still_grant, h]
  · split
    · exact h
    · rw [still_deliverGroup, still_recordGrant, still_grant, h]

/-- The wait queue examined. -/
@[simp] theorem still_examineQueue (b : Block) (n : Nat) : (b.examineQueue n).still = b.still := by
  induction n generalizing b with
  | zero => rfl
  | succ n ih =>
    unfold Block.examineQueue
    split
    · rfl
    · split
      · rw [ih, still_grantHead]
      · rfl

/-- One examination. -/
@[simp] theorem still_examineOnce (b : Block) : b.examineOnce.still = b.still := by
  have h : ({ b with account := { b.account with examineDue := false } }).still = b.still := id rfl
  unfold Block.examineOnce
  simp only []
  split <;> simp [h]

/-- The examinations called for. -/
@[simp] theorem still_examineAll (b : Block) (n : Nat) : (b.examineAll n).still = b.still := by
  induction n generalizing b with
  | zero => rfl
  | succ n ih =>
    unfold Block.examineAll
    split
    · rw [ih, still_examineOnce]
    · rfl

/-- The examination due. -/
@[simp] theorem still_examine (b : Block) : b.examine.still = b.still := still_examineAll ..

/-- A request of fixed amounts. -/
@[simp] theorem still_askPower (b : Block) (w : Waiter) (ws : List Want) : (b.askPower w ws).1.still = b.still := by
  unfold Block.askPower
  simp only []
  repeat' split
  all_goals simp

/-- A planned request. -/
@[simp] theorem still_askPlanned (b : Block) (w : Waiter) (ms : List Mover) (n l : Nat) :
    (b.askPlanned w ms n l).1.still = b.still := by
  unfold Block.askPlanned
  simp only []
  split
  · simp
  · split <;> simp

/-- A hold claim asked for. -/
@[simp] theorem still_askHoldClaim (b : Block) (d : DishId) (k : AxisKind) : (b.askHoldClaim d k).still = b.still := by
  unfold Block.askHoldClaim
  simp only []
  split <;> simp

/-- An axis that may ask for its hold claim. -/
@[simp] theorem still_askAxis (b : Block) (d : DishId) (k : AxisKind) : (b.askAxis d k).still = b.still := by
  unfold Block.askAxis
  simp only []
  split
  · split <;> simp
  · rfl

/-! ### Blocks, stow, locks, outputs -/

/-- STOW_BLOCKED entered. -/
@[simp] theorem still_blockStow (b : Block) (d : DishId) (c : ModeCause) : (b.blockStow d c).still = b.still := by
  unfold Block.blockStow; simp

/-- The block reasons followed. -/
@[simp] theorem still_settleBlocks (b : Block) (d : DishId) : (b.settleBlocks d).still = b.still := by
  unfold Block.settleBlocks Block.tellMode
  simp only []
  repeat' split
  all_goals simp

/-- A stow pursued. -/
@[simp] theorem still_pursueStow (b : Block) (d : DishId) : (b.pursueStow d).still = b.still := by
  unfold Block.pursueStow
  simp only []
  repeat' split
  all_goals simp

/-- A stow finished. -/
@[simp] theorem still_finishStow (b : Block) (d : DishId) : (b.finishStow d).still = b.still := by
  unfold Block.finishStow; simp only []; split <;> simp

/-- The safe marks. -/
@[simp] theorem still_setMarks (b : Block) : b.setMarks.still = b.still := id rfl

/-- One entry's state set. -/
@[simp] theorem still_setEngaged (b : Block) (n : Nat) (v : Bool) : (b.setEngaged n v).still = b.still := by
  have : (b.lockout.entries.map fun e => if e.num = n then { e with engaged := v } else e).map LockEntry.still
      = b.lockout.entries.map LockEntry.still := by
    rw [List.map_map]
    refine List.map_congr_left fun e _ => ?_
    simp only [Function.comp]
    split <;> rfl
  unfold Block.still Block.setEngaged
  simp only [this]

/-- One entry judged. -/
@[simp] theorem still_judgeEntry (b : Block) (e : LockEntry) : (b.judgeEntry e).still = b.still := by
  unfold Block.judgeEntry Block.tellLock; simp only []; split <;> simp

/-- The entries judged. -/
@[simp] theorem still_settleLocks (b : Block) : b.settleLocks.still = b.still := by
  unfold Block.settleLocks; simp

/-- A park request pursued. -/
@[simp] theorem still_pursuePark (b : Block) (d : DishId) (k : AxisKind) : (b.pursuePark d k).still = b.still := by
  unfold Block.pursuePark; split <;> simp

/-- A track pursued. -/
@[simp] theorem still_pursueTrack (b : Block) (d : DishId) (k : AxisKind) : (b.pursueTrack d k).still = b.still := by
  unfold Block.pursueTrack; split <;> simp

/-- What waits on the axes. -/
@[simp] theorem still_pursue (b : Block) : b.pursue.still = b.still := by unfold Block.pursue; simp

/-- A park timer settled. -/
@[simp] theorem still_settlePark (b : Block) (d : DishId) (k : AxisKind) : (b.settlePark d k).still = b.still :=
  still_modAxis _ _ _ _ fun _ => rfl

/-- The outputs. -/
@[simp] theorem still_settleOutputs (b : Block) : b.settleOutputs.still = b.still := id rfl

/-- The axes that wait on the beacon. -/
@[simp] theorem still_settleBeacon (b : Block) : b.settleBeacon.still = b.still := by
  unfold Block.settleBeacon; split <;> simp

/-- The transmitter. -/
@[simp] theorem still_kick (b : Block) : b.kick.still = b.still := by
  unfold Block.kick
  repeat' split
  all_goals rfl

/-- The settling of the blocks. -/
@[simp] theorem still_settle (b : Block) : b.settle.still = b.still := by unfold Block.settle; simp

end Sys2Proof.Machine
end

