-- ==== Sys2Proof/Laws/Link.lean ====
section
/-! SUPPORT. Link.lean: what a request command does when the link takes it at once, said once for every request: its
owner acts on the blocks as it finds them, and its answer stands in the outgoing list. -/

namespace Sys2Proof.Machine

/-- No entry waits for its owner, entry by entry. -/
theorem nextRequest_none {b : Block} (h : b.nextRequest = none) :
    ∀ e ∈ b.link.out, (e.req.isSome && !e.handed) = false := by
  intro e he
  have := List.find?_eq_none.mp h e he
  simpa using this

/-- The blocks after a whole request was taken into the queue, its entry not yet handed (R170). -/
theorem arrives_taken {s : State} {c : Instr} (h : s.takes c) :
    s.block.arrives c = s.block.joinOut (c.tag?.getD 0) (BitVec.ofNat 8 ((kindOf c).getD 0)) (some c) none := by
  obtain ⟨_, ready, _, room, t, tag, nonzero⟩ := h
  unfold Block.arrives Block.accept
  rw [tag, Option.getD_some, if_neg nonzero]
  rw [if_neg (Nat.not_le.mpr room), if_pos ready]

/-- The entry just taken is the one that waits for its owner. -/
theorem nextRequest_taken {s : State} {c : Instr} (h : s.takes c) :
    (s.block.arrives c).nextRequest = some
      { id := s.block.link.nextId, tag := c.tag?.getD 0, kind := BitVec.ofNat 8 ((kindOf c).getD 0), req := some c
        handed := false, reply := none, after := .nothing } := by
  rw [arrives_taken h]
  have quiet := nextRequest_none h.2.2.1
  unfold Block.nextRequest Block.joinOut
  simp only [List.find?_append]
  rw [List.find?_eq_none.mpr (by intro e he; simp [quiet e he])]
  simp

/-- An outgoing list with one entry marked as handed. -/
def handedOut (id : Nat) (out : List OutEntry) : List OutEntry :=
  out.map fun e => if e.id = id then { e with handed := true } else e

/-- Handing the entry just taken leaves the blocks as their owner finds them. -/
theorem hand_taken {s : State} {c : Instr} (h : s.takes c) :
    { s.block.arrives c with
      link := { (s.block.arrives c).link with
        out := handedOut s.block.link.nextId (s.block.arrives c).link.out } } = s.found c := by
  rw [arrives_taken h]
  have below := h.1.2.2.1
  have same : handedOut s.block.link.nextId s.block.link.out = s.block.link.out := by
    unfold handedOut
    conv_rhs => rw [← List.map_id s.block.link.out]
    apply List.map_congr_left
    intro e he
    have := below e he
    simp [Nat.ne_of_lt this]
  unfold Block.joinOut State.found
  unfold handedOut at same ⊢
  simp only [List.map_append, List.map_cons, List.map_nil, if_true, same]

/-- A request the link takes at once is its owner's answer on the blocks as it finds them (R170, R171). -/
theorem request_taken {s : State} {c : Instr} (own : Nat → Block → Answered) (h : s.takes c) :
    s.request c own = .next
      (match (own s.block.link.nextId (s.found c)).2 with
        | some (a, after) => s.replies (own s.block.link.nextId (s.found c)).1 a.code a.body after
        | none => s.ends (own s.block.link.nextId (s.found c)).1) := by
  have found := hand_taken h
  unfold handedOut at found
  simp only [State.request, State.run, Block.serveRequest, h.2.2.1, nextRequest_taken h, Block.handTo, found]
  split <;> simp only [State.replies, State.ends, *]

/-- A request that waits behind another joins the queue and no more (R170, log 3). -/
theorem request_behind {s : State} {c : Instr} {e : OutEntry} (own : Nat → Block → Answered)
    (waits : s.block.nextRequest = some e) (other : e.req ≠ some c) (tag : c.tag?.getD 0 ≠ 0) :
    s.request c own = .next (s.ends (s.block.accept c)) := by
  simp only [State.request, State.run, Block.serveRequest, waits, if_neg other, Block.arrives, if_neg tag, State.ends]

/-- The request that waits first is handed to its owner by its own command (R170, log 3). -/
theorem request_first {s : State} {c : Instr} {e : OutEntry} (own : Nat → Block → Answered)
    (waits : s.block.nextRequest = some e) (same : e.req = some c) :
    s.request c own = .next (s.ends (s.block.handTo e.id own)) := by
  simp only [State.request, State.run, Block.serveRequest, waits, if_pos same, State.ends]

/-- What an owner finds differs from the machine in the outgoing list alone. -/
theorem found_frame (s : State) (c : Instr) :
    { s.found c with link := { (s.found c).link with out := s.block.link.out, nextId := s.block.link.nextId } }
      = s.block := rfl

/-- What an owner finds, block by block. -/
theorem found_blocks (s : State) (c : Instr) :
    (s.found c).axes = s.block.axes ∧ (s.found c).dishes = s.block.dishes ∧ (s.found c).points = s.block.points
    ∧ (s.found c).planner = s.block.planner ∧ (s.found c).account = s.block.account
    ∧ (s.found c).weather = s.block.weather ∧ (s.found c).heater = s.block.heater
    ∧ (s.found c).lockout = s.block.lockout ∧ (s.found c).field = s.block.field
    ∧ (s.found c).site = s.block.site := ⟨rfl, rfl, rfl, rfl, rfl, rfl, rfl, rfl, rfl, rfl⟩

/-! ### Readings an owner finds as they stood -/

@[simp] theorem found_axes (s : State) (c : Instr) : (s.found c).axes = s.block.axes := rfl
@[simp] theorem found_dishes (s : State) (c : Instr) : (s.found c).dishes = s.block.dishes := rfl
@[simp] theorem found_points (s : State) (c : Instr) : (s.found c).points = s.block.points := rfl
@[simp] theorem found_planner (s : State) (c : Instr) : (s.found c).planner = s.block.planner := rfl
@[simp] theorem found_account (s : State) (c : Instr) : (s.found c).account = s.block.account := rfl
@[simp] theorem found_weather (s : State) (c : Instr) : (s.found c).weather = s.block.weather := rfl
@[simp] theorem found_heater (s : State) (c : Instr) : (s.found c).heater = s.block.heater := rfl
@[simp] theorem found_lockout (s : State) (c : Instr) : (s.found c).lockout = s.block.lockout := rfl
@[simp] theorem found_field (s : State) (c : Instr) : (s.found c).field = s.block.field := rfl
@[simp] theorem found_site (s : State) (c : Instr) : (s.found c).site = s.block.site := rfl
@[simp] theorem found_axis (s : State) (c : Instr) (d : DishId) (k : AxisKind) :
    (s.found c).axis d k = s.block.axis d k := rfl
@[simp] theorem found_dish (s : State) (c : Instr) (d : DishId) : (s.found c).dish d = s.block.dish d := rfl
@[simp] theorem found_queue (s : State) (c : Instr) (d : DishId) : (s.found c).queue d = s.block.queue d := rfl
@[simp] theorem found_group (s : State) (c : Instr) (g : GroupId) : (s.found c).group g = s.block.group g := rfl
@[simp] theorem found_move (s : State) (c : Instr) (d : DishId) : (s.found c).move d = s.block.move d := rfl
@[simp] theorem found_claim (s : State) (c : Instr) (d : DishId) (k : AxisKind) :
    (s.found c).claim d k = s.block.claim d k := rfl
@[simp] theorem found_zone (s : State) (c : Instr) (d : DishId) (z : ZoneKind) :
    (s.found c).zone d z = s.block.zone d z := rfl
@[simp] theorem found_cold (s : State) (c : Instr) (d : DishId) : (s.found c).cold d = s.block.cold d := rfl
@[simp] theorem found_wx (s : State) (c : Instr) (n : WeatherId) : (s.found c).wx n = s.block.wx n := rfl
@[simp] theorem found_node (s : State) (c : Instr) (r : NodeRef) : (s.found c).node r = s.block.node r := rfl
@[simp] theorem found_line (s : State) (c : Instr) (l : Line) : (s.found c).line l = s.block.line l := rfl
@[simp] theorem found_configured (s : State) (c : Instr) (d : DishId) :
    (s.found c).configured d = s.block.configured d := rfl
@[simp] theorem found_heard (s : State) (c : Instr) (d : DishId) : (s.found c).heard d = s.block.heard d := rfl
@[simp] theorem found_axisLocks (s : State) (c : Instr) (d : DishId) (k : AxisKind) :
    (s.found c).axisLocks d k = s.block.axisLocks d k := rfl
@[simp] theorem found_zoneLocks (s : State) (c : Instr) (d : DishId) (z : ZoneKind) :
    (s.found c).zoneLocks d z = s.block.zoneLocks d z := rfl
@[simp] theorem found_dishLocked (s : State) (c : Instr) (d : DishId) :
    (s.found c).dishLocked d = s.block.dishLocked d := rfl
@[simp] theorem found_pos (s : State) (c : Instr) (d : DishId) (k : AxisKind) :
    (s.found c).pos d k = s.block.pos d k := rfl
@[simp] theorem found_blockReasons (s : State) (c : Instr) (d : DishId) :
    (s.found c).blockReasons d = s.block.blockReasons d := rfl
@[simp] theorem found_outOfService (s : State) (c : Instr) (d : DishId) :
    (s.found c).outOfService d = s.block.outOfService d := rfl
@[simp] theorem found_positioned (s : State) (c : Instr) (d : DishId) :
    (s.found c).positioned d = s.block.positioned d := rfl
@[simp] theorem found_claimTotal (s : State) (c : Instr) : (s.found c).claimTotal = s.block.claimTotal := rfl
@[simp] theorem found_heatTotal (s : State) (c : Instr) : (s.found c).heatTotal = s.block.heatTotal := rfl
@[simp] theorem found_floorOf (s : State) (c : Instr) : (s.found c).floorOf = s.block.floorOf := rfl
@[simp] theorem found_otherTotal (s : State) (c : Instr) (ws : List Want) :
    (s.found c).otherTotal ws = s.block.otherTotal ws := rfl
@[simp] theorem found_motionFits (s : State) (c : Instr) (ws : List Want) :
    (s.found c).motionFits ws = s.block.motionFits ws := rfl
@[simp] theorem found_waits (s : State) (c : Instr) (w : Waiter) : (s.found c).waits w = s.block.waits w := rfl
@[simp] theorem found_wantsAt (s : State) (c : Instr) (ms : List Mover) (n : Nat) :
    (s.found c).wantsAt ms n = s.block.wantsAt ms n := rfl
@[simp] theorem found_minDuration (s : State) (c : Instr) (ms : List Mover) :
    (s.found c).minDuration ms = s.block.minDuration ms := rfl
@[simp] theorem found_planGroup (s : State) (c : Instr) (x : Group) :
    (s.found c).planGroup x = s.block.planGroup x := rfl
@[simp] theorem found_searchFrom (s : State) (c : Instr) (ms : List Mover) (against fuel n : Nat) :
    (s.found c).searchFrom ms against fuel n = s.block.searchFrom ms against fuel n := by
  induction fuel generalizing n with
  | zero => rfl
  | succ fuel ih => simp only [Block.searchFrom, ih, found_wantsAt, found_account]
@[simp] theorem found_stretch (s : State) (c : Instr) (ms : List Mover) (m n : Nat) :
    (s.found c).stretch ms m n = s.block.stretch ms m n := found_searchFrom ..
@[simp] theorem found_waitsWrite (s : State) (c : Instr) (k : WriteKind) :
    (s.found c).waitsWrite k = s.block.waitsWrite k := rfl
@[simp] theorem found_writeRoom (s : State) (c : Instr) : (s.found c).writeRoom = s.block.writeRoom := rfl
@[simp] theorem found_mustQueue (s : State) (c : Instr) : (s.found c).mustQueue = s.block.mustQueue := rfl
@[simp] theorem found_queueFull (s : State) (c : Instr) : (s.found c).queueFull = s.block.queueFull := rfl
@[simp] theorem found_snowCond (s : State) (c : Instr) : (s.found c).snowCond = s.block.snowCond := rfl
@[simp] theorem found_windKnown (s : State) (c : Instr) : (s.found c).windKnown = s.block.windKnown := rfl

/-- A reply put in the outgoing list stands there (R170). -/
theorem answer_stands (b : Block) (id : Nat) (code : Code) (body : List Fld) (after : After) (h : ∃ e ∈ b.link.out, e.id = id) :
    ∃ e ∈ (b.answer id code body after).link.out, e.id = id ∧ e.reply = some ⟨code, body⟩ ∧ e.after = after := by
  obtain ⟨e, he, hid⟩ := h
  refine ⟨{ e with reply := some ⟨code, body⟩, after := after }, ?_, hid, rfl, rfl⟩
  unfold Block.answer
  exact List.mem_map.mpr ⟨e, he, by simp [hid]⟩

end Sys2Proof.Machine
end

