-- ==== Sys2Proof/Laws/Visit.lean ====
section
/-! SUPPORT. Visit.lean: what the operations on visits, nodes and grants say, each once: miss counts and reach at a visit's
end, the handing of answers, a lost axis, a stow request, a node's leaving of the cycle, the shares under amounts granted. -/

namespace Sys2Proof.Machine

/-! ### Reach (R161) -/

/-- A line heard has no miss. -/
@[simp] theorem missNext_heard (n : Nat) : missNext true n = 0 := rfl

/-- A line missed counts one more, at most 3. -/
@[simp] theorem missNext_missed (n : Nat) : missNext false n = min 3 (n + 1) := rfl

/-- A miss count stays within 3. -/
theorem missNext_le (heard : Bool) (n : Nat) : missNext heard n ≤ 3 := by
  cases heard <;> simp

/-- A node that is known, or answered, has the reach of its two counts. -/
theorem reachAfter_known (b : Block) (x : Node) (answered : Bool) (h : x.reach ≠ .unknown ∨ answered = true) :
    b.reachAfter x answered = reachOf x.missA x.missB := by
  unfold Block.reachAfter
  rw [if_neg]
  rintro ⟨u, a⟩
  rcases h with h | h
  · exact h u
  · rw [h] at a; exact absurd a (by decide)

/-- A node's reach set to what it is changes nothing. -/
theorem setReach_same (b : Block) (r : NodeRef) (x : Reach) (h : (b.node r).reach = x) : b.setReach r x = b := by
  unfold Block.setReach; rw [if_pos h]

/-! ### Handing (R163, log 24) -/

/-- A weather node's answer has no stop flag. -/
@[simp] theorem handStop_wx (b : Block) (n : WeatherId) (a : Answer) : b.handStop (.wx n) a = b := rfl

/-- A cabinet's flag goes to its stop mark. -/
@[simp] theorem handStop_cab (b : Block) (d : DishId) (acc : Acceptance) (x : CabBody) :
    b.handStop (.cab d) ⟨acc, .cab x⟩ = b.setMark (.cabinet d) x.estop := rfl

/-- Of several answers of a weather node the last is handed. -/
theorem handAll_wx (b : Block) (n : WeatherId) : ∀ (as : List Answer) (a : Answer),
    b.handAll (.wx n) (as ++ [a]) = b.hand (.wx n) a
  | [], _ => rfl
  | [x], a => by simp [Block.handAll]
  | x :: y :: as, a => by
    have h := handAll_wx b n (y :: as) a
    simpa [Block.handAll] using h

/-- No answer, no flag. -/
@[simp] theorem handStops_nil (b : Block) (r : NodeRef) : b.handStops r [] = b := rfl

/-- The flags of the answers are handed in turn. -/
@[simp] theorem handStops_cons (b : Block) (r : NodeRef) (a : Answer) (as : List Answer) :
    b.handStops r (a :: as) = (b.handStop r a).handStops r as := rfl

/-- A weather node's answers have no flags. -/
@[simp] theorem handStops_wx (b : Block) (n : WeatherId) : ∀ as : List Answer, b.handStops (.wx n) as = b
  | [] => rfl
  | _ :: as => handStops_wx b n as

/-! ### A lost axis (R65, R142) -/

/-- Nothing is newly lost between a block and itself. -/
@[simp] theorem newlyLost_self (b : Block) (d : DishId) (k : AxisKind) : Block.newlyLost b b d k = false := by
  unfold Block.newlyLost
  by_cases h : b.axisLocks d k = 0 <;> simp [h]

/-- Where nothing is newly lost the requesters have nothing to act on. -/
theorem reactLost_none (b0 b : Block) (d : DishId) (h : ∀ k, Block.newlyLost b0 b d k = false) :
    Block.reactLost b0 b d = b := by
  unfold Block.reactLost
  simp [h]

/-- A newly lost axis ends the dish's work for the reason of the first of its axes. -/
theorem reactLost_first (b0 b : Block) (d : DishId) (h : Block.newlyLost b0 b d .az = true) :
    Block.reactLost b0 b d = b.loseDish d (b.lostReason d .az) := by
  unfold Block.reactLost
  simp [h]

/-! ### A stow request (R77) -/

/-- A dish that has its entry leaves it as it is. -/
theorem askStow_kept (b : Block) (d : DishId) (h : d ∈ b.account.stowq) : b.askStow d = b := by
  unfold Block.askStow
  rw [if_neg (by simp [h])]

/-- Off STOW it is refused and nothing is entered. -/
theorem askStow_off (b : Block) (d : DishId) (h : b.weather.level ≠ .stow) : b.askStow d = b := by
  unfold Block.askStow
  rw [if_neg (by simp [h])]

/-- Under STOW a request entered has the stow-pending list tried at once. -/
theorem askStow_new (b : Block) (d : DishId) (w : b.weather.level = .stow) (h : d ∉ b.account.stowq) :
    b.askStow d = (b.enterStow d).examineStow := by
  unfold Block.askStow
  rw [if_pos (by simp [w, h])]

/-- An entry stands in the list of a request entered. -/
theorem enterStow_mem (b : Block) (d : DishId) : d ∈ (b.enterStow d).account.stowq := by
  unfold Block.enterStow
  split
  · next h => exact List.contains_iff_mem.mp h
  · exact List.mem_filter.mpr ⟨List.mem_finRange d, by simp⟩

/-- Off STOW no entry is tried. -/
theorem examineStow_off (b : Block) (h : b.weather.level ≠ .stow) : b.examineStow = b := by
  unfold Block.examineStow
  rw [if_neg h]

/-! ### Leaving the cycle (R155, R166) -/

/-- A reported change of reach changes the reach of its node alone. -/
@[simp] theorem node_reportReach (b : Block) (r q : NodeRef) (new : Reach) :
    (b.reportReach r new).node q = if r = q then { b.node q with reach := new } else b.node q := by
  unfold Block.reportReach
  simp only []
  split
  · next h =>
    by_cases e : r = q
    · subst e; simp [← h]
    · simp [e]
  · obtain ⟨_, _, h⟩ := report_eq (b.setNode r { b.node r with reach := new }) .nodeReach (nodeNum r) [f1 new.ctorIdx]
      [f1 (b.node r).missA, f1 (b.node r).missB] (some (f1 (b.node r).reach.ctorIdx))
    rw [h]
    show (b.setNode r { b.node r with reach := new }).node q = _
    rw [node_setNode]
    by_cases e : r = q
    · subst e; simp
    · simp [e]

/-- A reported change of reach leaves the list of nodes still to visit. -/
@[simp] theorem todo_reportReach (b : Block) (r : NodeRef) (new : Reach) :
    (b.reportReach r new).field.todo = b.field.todo := by
  unfold Block.reportReach
  simp only []
  split
  · rfl
  · obtain ⟨_, _, h⟩ := report_eq (b.setNode r { b.node r with reach := new }) .nodeReach (nodeNum r) [f1 new.ctorIdx]
      [f1 (b.node r).missA, f1 (b.node r).missB] (some (f1 (b.node r).reach.ctorIdx))
    rw [h]
    cases r <;> rfl

/-- The entry of a node that leaves the cycle, and every other entry as it was. -/
@[simp] theorem node_leaveCycle (b : Block) (r q : NodeRef) :
    (b.leaveCycle r).node q = if r = q then { (b.node q).left with reach := .unknown } else b.node q := by
  have h : (b.leaveCycle r).node q = ((b.setNode r (b.node r).left).reportReach r .unknown).node q := rfl
  rw [h, node_reportReach, node_setNode]
  by_cases e : r = q
  · subst e; simp
  · simp [e]

/-- A node that has left is not among those still to visit. -/
theorem leaveCycle_todo (b : Block) (r : NodeRef) : r ∉ (b.leaveCycle r).field.todo := by
  have h : (b.leaveCycle r).field.todo
      = ((b.setNode r (b.node r).left).reportReach r .unknown).field.todo.filter (· != r) := rfl
  rw [h]; simp

/-! ### Grants (R54, log 27) -/

/-- The claims of a grant's shares are the amounts granted. -/
@[simp] theorem sharesUnder_claims (b : Block) (m : Mover) (n : Nat) (ws : List Want) :
    (b.sharesUnder m n ws).az.claim = wanted ws m.1 .az ∧ (b.sharesUnder m n ws).el.claim = wanted ws m.1 .el :=
  ⟨rfl, rfl⟩

/-- The rates of a grant's shares are those of the duration. -/
@[simp] theorem sharesUnder_rates (b : Block) (m : Mover) (n : Nat) (ws : List Want) :
    (b.sharesUnder m n ws).az.rate = (b.sharesAt m n).az.rate
    ∧ (b.sharesUnder m n ws).el.rate = (b.sharesAt m n).el.rate :=
  ⟨rfl, rfl⟩

/-- A need recorded is served by the claim its axis holds, and none by any (Table 1-1). -/
theorem needClaim_eq (b : Block) (d : DishId) (k : AxisKind) :
    b.needClaim d k = if (b.axis d k).need.isSome then b.claim d k else none := rfl

end Sys2Proof.Machine
end

