-- ==== Sys2Proof/Tests/Slice0.lean ====
section
/-! SUPPORT. Slice0.lean: ill-formed commands the check refuses, frames and figures written out from the manual, and a
witness for the hypotheses of each obligation. -/

namespace Sys2Proof.Machine.Test

set_option Elab.async false

/-! ### The well-formedness check refuses -/

theorem test_wf_refuses_tag_zero : (Instr.identify 0).wf = false := by decide +kernel
theorem test_wf_accepts_tag_one : (Instr.identify 1).wf = true := by decide +kernel
theorem test_wf_refuses_wide_bytes :
    ([.getStatus 1 256 (some 1), .getStatus 1 0 (some 256), .flushPoints 1 256, .trackStart 1 256, .trackStop 1 256, .holdDish 1 256,
      .parkDish 1 256, .startGroup 1 256, .abortGroup 1 256, .getGroup 1 256, .prewarm 1 256 0, .prewarm 1 1 256,
      .snowForce 1 256, .weatherEnable 1 256, .weatherDisable 1 256, .shed 1 256, .resume 1 256, .clearContext 1 256,
      .placeLock 1 256 1 1, .placeLock 1 0 256 1] : List Instr).all (fun c => !c.wf) = true := by decide +kernel
theorem test_wf_refuses_wide_words :
    ([.placeLock 1 0 1 65536, .removeLock 1 65536 1, .removeLock 1 1 65536, .listLocks 1 65536, .resetFault 1 ⟨256, 2⟩,
      .resetFault 1 ⟨0, 65536⟩, .resetWear 1 65536, .setTime 1 281474976710656, .setBudget 1 4294967296] : List Instr).all
      (fun c => !c.wf) = true := by decide +kernel
theorem test_wf_refuses_point_lists :
    (Instr.addPoints 1 1 []).wf = false ∧ (Instr.addPoints 1 1 (List.replicate 17 ⟨0, 0, 0⟩)).wf = false
    ∧ (Instr.addPoints 1 256 [⟨0, 0, 0⟩]).wf = false ∧ (Instr.addPoints 1 1 [⟨281474976710656, 0, 0⟩]).wf = false
    ∧ (Instr.addPoints 1 1 [⟨0, 2147483648, 0⟩]).wf = false ∧ (Instr.addPoints 1 1 [⟨0, 0, -2147483649⟩]).wf = false := by
  decide +kernel
theorem test_wf_refuses_group_fields :
    (Instr.formGroup 1 (List.replicate 256 1) 0 0 0 0 0 0).wf = false
    ∧ (Instr.formGroup 1 [256] 0 0 0 0 0 0).wf = false ∧ (Instr.formGroup 1 [1] 2147483648 0 0 0 0 0).wf = false
    ∧ (Instr.formGroup 1 [1] 0 2147483648 0 0 0 0).wf = false ∧ (Instr.formGroup 1 [1] 0 0 256 0 0 0).wf = false
    ∧ (Instr.formGroup 1 [1] 0 0 0 256 0 0).wf = false ∧ (Instr.formGroup 1 [1] 0 0 0 0 256 0).wf = false
    ∧ (Instr.formGroup 1 [1] 0 0 0 0 0 65536).wf = false := by decide +kernel

/-- The settings of CONFIG_AXIS at the defaults of the elevation axis. -/
def elParams : AxisParams := ⟨1000, 500, 2000, 150, 400, 6000, 89500, 1000, 1500, 30, 20000, 20, 50⟩
/-- The settings of CONFIG_ZONE at the defaults of the surface. -/
def surfParams : ZoneParams := ⟨4000, 30, 5, 1⟩
/-- The settings of CONFIG_LINES at their defaults. -/
def lineParams : LinesParams := ⟨8, 0, 8, 0, List.replicate 12 1⟩
/-- The settings of CONFIG_SITE at their defaults. -/
def siteParams : SiteParams :=
  { policy := 0, hmin := 0, stowMean := 180, stowGust := 240, watchMean := 120, watchGust := 160, relMean := 140
    relGust := 190, watchRelMean := 100, watchRelGust := 130, quorum := 2, warmTarget := 10, lifetime := 5, grace := 60
    relHold := 1200, watchMinEl := 20000, resume := 0, autoShed := 0, shedThreshold := 15, shedDwell := 300
    autoPrewarm := 0, rate := 115200, polBeacon := 0, polStow := 0, polFault := 0, drvBeacon := 0, drvStow := 0
    drvFault := 0, polEstop := 1, deglitch := 0, warn := 5 }

theorem test_wf_refuses_axis_fields :
    (Instr.configAxis 1 7 elParams).wf = true ∧ (Instr.configAxis 1 65536 elParams).wf = false
    ∧ (Instr.configAxis 1 7 { elParams with v := 2147483648 }).wf = false
    ∧ (Instr.configAxis 1 7 { elParams with wear := 4294967296 }).wf = false
    ∧ (Instr.configAxis 1 7 { elParams with parkDelay := 65536 }).wf = false := by decide +kernel
theorem test_wf_refuses_settings_fields :
    (Instr.configZone 1 6 surfParams).wf = true ∧ (Instr.configZone 1 6 { surfParams with setpoint := 32768 }).wf = false
    ∧ (Instr.configZone 1 6 { surfParams with autoMelt := 256 }).wf = false
    ∧ (Instr.configSite 1 siteParams).wf = true ∧ (Instr.configSite 1 { siteParams with policy := 256 }).wf = false
    ∧ (Instr.configSite 1 { siteParams with rate := 4294967296 }).wf = false
    ∧ (Instr.configLines 1 lineParams).wf = true ∧ (Instr.configLines 1 { lineParams with cabinets := [1] }).wf = false
    ∧ (Instr.configLines 1 { lineParams with delayA := 65536 }).wf = false := by decide +kernel

/-- The defaults lie in the ranges of their requests, and give the defaults in force. -/
theorem test_defaults_are_in_range :
    axisParamsOk elParams .el = true ∧ axisParamsCfg elParams = AxisCfg.default .el
    ∧ siteParamsOk siteParams = true ∧ siteParamsCfg siteParams = SiteCfg.default
    ∧ zoneParamsOk surfParams .surf = true ∧ zoneParamsCfg surfParams = ZoneCfg.default .surf
    ∧ linesParamsOk lineParams = true := by decide +kernel

/-! ### Frames written out (10.5, Tables 10-3, 10-5, 10-8) -/

/-- The CRC of the nine digits, the check value of CRC-16 with polynomial 0x1021 from 0xFFFF. -/
theorem test_crc_of_digits : crc16 [0x31, 0x32, 0x33, 0x34, 0x35, 0x36, 0x37, 0x38, 0x39] = 0x29B1#16 := by decide +kernel

/-- TRACK_START of dish 3 under tag 0x0102: start byte, length 1, kind 0x22, tag, dish. -/
theorem test_frame_track_start :
    requestFrame (.trackStart 0x0102 3)
      = some ([0xA5, 0x00, 0x01, 0x22, 0x01, 0x02, 0x03] ++ toBytes 2 (crc16 [0x00, 0x01, 0x22, 0x01, 0x02, 0x03]).toNat)
    := by decide +kernel
/-- CONFIG_ZONE of zone 6 in its bytes: signed fields in two's complement, most significant byte first. -/
theorem test_frame_config_zone :
    readRequest 0x11 1 [0x00, 0x06, 0x00, 0x00, 0x0F, 0xA0, 0xFF, 0xCE, 0x00, 0x05, 0x01]
      = some (.configZone 1 6 ⟨4000, -50, 5, 1⟩) := by decide +kernel
/-- GET_STATUS of the ZONE section of dish 12, and of the SITE section, which names no dish: each behind the presence byte
of an optional field, whose bytes are 0 where it is absent (R173, R178). -/
theorem test_frame_get_status :
    readRequest 0x02 1 [0x03, 0x01, 0x0C] = some (.getStatus 1 3 (some 12))
    ∧ bodyOf (.getStatus 1 0 none) = [0x00, 0x00, 0x00] ∧ lengthOk 0x02 [0x00, 0x00] = false := by decide +kernel
/-- ADD_POINTS of one point in its bytes. -/
theorem test_frame_add_points :
    readRequest 0x20 1 [0x04, 0x01, 0x00, 0x00, 0x00, 0x01, 0x86, 0xA0, 0x00, 0x01, 0x5F, 0x90, 0x00, 0x00, 0x75, 0x30]
      = some (.addPoints 1 4 [⟨100000, 90000, 30000⟩]) := by decide +kernel
/-- FORM_GROUP of dishes 2 and 5 in its bytes. -/
theorem test_frame_form_group :
    readRequest 0x28 1 [0x02, 0x02, 0x05, 0x00, 0x01, 0x5F, 0x90, 0x00, 0x00, 0x75, 0x30, 0x00, 0x01, 0x00, 0x00, 0x14]
      = some (.formGroup 1 [2, 5] 90000 30000 0 1 0 20) := by decide +kernel
/-- PLACE_LOCK, RESET_FAULT of a zone and SET_REPORT_MASK in their bytes. -/
theorem test_frame_small_requests :
    readRequest 0x40 7 [0x04, 0x0C, 0x01, 0x00] = some (.placeLock 7 4 12 256)
    ∧ readRequest 0x48 7 [0x01, 0x00, 0x07] = some (.resetFault 7 ⟨1, 7⟩)
    ∧ readRequest 0x50 7 [0x00, 0x0F, 0xFF, 0xFF] = some (.setReportMask 7 0xFFFFF) := by decide +kernel
/-- Every request with an empty body, and those of one byte, by their kinds. -/
theorem test_frame_kinds :
    ([(0x01, .identify 1), (0x14, .saveConfig 1), (0x19, .getBudget 1), (0x37, .getWeather 1), (0x38, .stowNow 1),
      (0x39, .stowRelease 1), (0x4A, .clearEstop 1), (0x51, .softReset 1)] : List (Nat × Instr)).all
      (fun p => readRequest p.1 1 [] == some p.2 && kindOf p.2 == some p.1) = true
    ∧ ([(0x21, .flushPoints 1 9), (0x22, .trackStart 1 9), (0x23, .trackStop 1 9), (0x24, .holdDish 1 9),
      (0x25, .parkDish 1 9), (0x29, .startGroup 1 9), (0x2A, .abortGroup 1 9), (0x2B, .getGroup 1 9),
      (0x31, .snowForce 1 9), (0x34, .weatherEnable 1 9), (0x35, .weatherDisable 1 9), (0x36, .forgetWeather 1 9),
      (0x3A, .shed 1 9), (0x3B, .resume 1 9), (0x3C, .clearContext 1 9)] : List (Nat × Instr)).all
      (fun p => readRequest p.1 1 [9] == some p.2 && kindOf p.2 == some p.1) = true := by decide +kernel
/-- A cabinet's answer in its bytes (Table 10-7): address, sequence, status, acceptance, length, body, CRC. -/
theorem test_answer_frame :
    (readAnswer (.cab 2) (withCrc ([0x03, 0x07, 0x01, 0x00, 0x1C]
      ++ [0x00, 0x00, 0x03, 0xE8, 0xFF, 0xFF, 0xFF, 0xFE, 0x03, 0x00, 0x00]
      ++ [0x00, 0x00, 0x75, 0x30, 0x00, 0x00, 0x00, 0x00, 0x00, 0x01, 0x02]
      ++ [0xFF, 0xD3, 0x00, 0x0C, 0x02, 0x01]))).map (fun f => (f.addr, f.answered, f.status, f.answer))
    = some (3, 7, 1, ⟨.accepted, .cab
        { az := { pos := 1000, rate := -2, released := true, driveOn := true, code := .none, test := .none }
          el := { pos := 30000, rate := 0, released := false, driveOn := false, code := .drive, test := .fail }
          surfTemp := -45, driveTemp := 12, surfOn := false, driveOn := true, lockout := true, estop := false }⟩) := by
  decide +kernel

/-! ### Figures the manual works out -/

/-- Table 7-4. -/
theorem test_table_7_4 :
    let surf := ZoneCfg.default .surf
    let drive := ZoneCfg.default .drive
    [demandOf surf (some (-45)), demandOf surf (some 12), demandOf surf (some 35), demandOf drive (some (-182)),
      demandOf drive (some (-105))] = [15, 4, 0, 16, 11]
    ∧ [dutyWatts 4000 15, dutyWatts 4000 4, dutyWatts 600 16, dutyWatts 600 11] = [3750, 1000, 600, 413] := by decide +kernel
/-- An eighth duty is on in every other slot, a full one in all, none in none (R132). -/
theorem test_slots :
    (List.range 16).map (slotOn 8) = (List.range 16).map (fun i => i % 2 == 1)
    ∧ (List.range 16).all (slotOn 16) = true ∧ (List.range 16).all (fun i => !slotOn 0 i) = true := by decide +kernel

/-! ### States for the witnesses -/

/-- A part that is READY: every cabinet heard, every axis braked with a position, calm weather, the clock set. -/
def base : Block :=
  let b := Block.afterReset Store.erased
  let report := fun (pos : Int) =>
    ({ pos := pos, rate := 0, released := false, driveOn := true, code := .none, test := .none } : AxisReport)
  let axis := fun (k : AxisKind) (pos : Int) =>
    { Axis.reset k with state := .braked, order := .none, reported := some (report pos) }
  { b with
    axes := vec12 fun _ => ⟨axis .az 0, axis .el 30000⟩
    weather := { b.weather with level := .calm, cause := .calmed, unknown := none }
    field := { b.field with cabs := vec12 fun _ => { Node.reset with reach := .reachable } }
    site := { b.site with startup := .ready, clock := some 1000000, tb := 5000 } }

/-- Blocks as a machine with nothing waiting. -/
def st (b : Block) : State := { block := b, pending := [] }

/-- Both axes of dish 3 in a state. -/
def axesIn (x : AxisState) (b : Block) : Block := b.bothAxes fun k u => u.modAxis 2 k fun a => { a with state := x }
/-- Dish 3 in a mode. -/
def modeIn (m : Mode) (b : Block) : Block := b.modDish 2 fun x => { x with mode := m }
/-- Dish 3 with a pending request. -/
def asks (r : DishReq) (b : Block) : Block := b.modDish 2 fun x => { x with pendingReq := some r }
/-- Dish 3 out of the configured set. -/
def bare (b : Block) : Block := b.setConfigured 2 false
/-- Cabinet 3 unreachable. -/
def away (b : Block) : Block := b.setNode (.cab 2) { b.node (.cab 2) with reach := .unreachable }
/-- The clock not set. -/
def clockless (b : Block) : Block := { b with site := { b.site with clock := none } }
/-- The latch set. -/
def latched (b : Block) : Block := { b with site := { b.site with estop := true } }
/-- The level at STOW. -/
def stormy (b : Block) : Block := { b with weather := { b.weather with level := .stow } }
/-- A point queued for dish 3. -/
def pointed (b : Block) : Block := b.setQueue 2 [⟨1010000, 0, 30000, 0, false⟩]
/-- One LINK entry on dish 3. -/
def lockOn (kind : LockKind) (b : Block) : Block :=
  let e : LockEntry :=
    { num := 1, kind := kind, dish := 2, holder := 5, key := false, engaged := false, placed := 0, stored := true }
  { b with lockout := { b.lockout with entries := [e], next := 2 } }
/-- The wait queue with n entries. -/
def queued (n : Nat) (b : Block) : Block :=
  let e : WaitEntry := { who := .track 5, wants := [], time := 0 }
  { b with account := { b.account with waitq := List.replicate n e } }
/-- Power short: the budget at the floor's foot. -/
def short (b : Block) : Block := { b with account := { b.account with breq := 0, beff := 0 } }
/-- A group of dish 3 in slot 1. -/
def grouped (x : GroupState) (b : Block) : Block :=
  b.setGroup 0 (some { newGroup [2] 90000 30000 .nearest false false 0 with state := x })
/-- A group of dish 3 that waits for warmth, the dish cold. -/
def coldGroup (b : Block) : Block :=
  let g := newGroup [2] 90000 30000 .nearest false true 0
  { b.setGroup 0 (some g) with heater := { b.heater with cold := b.heater.cold.set 2 true } }

/-- The nodes of a cycle still to visit. -/
def toVisit (rs : List NodeRef) (b : Block) : Block := { b with field := { b.field with todo := rs } }
/-- What holds of a request taken at once from each of some blocks. -/
def Witnessed (c : Instr) (l : List (Block × (Block → Bool))) : Prop := ∀ p ∈ l, (st p.1).takes c ∧ p.2 p.1 = true

/-- The blocks have a quiet link, are READY or are asked a request always answered, and each meets its condition. -/
def holds (c : Instr) (l : List (Block × (Block → Bool))) : Bool :=
  c.tag? == some 1
    && l.all fun p => p.1.link == base.link && (p.1.site.startup == .ready || alwaysAnswered c) && p.2 p.1

theorem takes_quiet {b : Block} {c : Instr} (quiet : b.link = base.link) (ready : b.site.startup = .ready ∨ alwaysAnswered c = true)
    (tag : c.tag? = some 1) : (st b).takes c := by
  have out : b.link.out = [] := by rw [quiet]; rfl
  have reports : b.link.reports = [] := by rw [quiet]; rfl
  refine ⟨⟨?_, ?_, ?_, ?_, ?_, ?_⟩, ready, ?_, ?_, 1, tag, by decide⟩ <;>
    simp [st, Block.pendingCount, Block.answerCount, Block.nextRequest, out, reports]

theorem witnessed {c : Instr} {l : List (Block × (Block → Bool))} (h : holds c l = true) : Witnessed c l := by
  intro p hp
  unfold holds at h
  simp only [Bool.and_eq_true, Bool.or_eq_true, beq_iff_eq, List.all_eq_true] at h
  obtain ⟨tag, rest⟩ := h
  obtain ⟨⟨quiet, ready⟩, ok⟩ := rest p hp
  exact ⟨takes_quiet quiet ready tag, ok⟩

theorem base_started : (st base).started := by unfold State.started; decide

/-- The kinds and the contents of the reports queued. -/
def reports (b : Block) : List (RepKind × List Int) :=
  b.link.reports.map fun r => (r.kind, (r.pre ++ r.prev.toList ++ r.post).map (·.val))

/-! ### Witnesses: the machine and the laws -/

theorem witness_FrontCommandRuns :
    (∃ s : State, ∃ c rest, s.pending = c :: rest) ∧ ∃ s : State, s.pending = [] :=
  ⟨⟨{ st base with pending := [.linkStartByte] }, _, _, rfl⟩, st base, rfl⟩
theorem witness_StepsKeepPoints : base.PointsLaw ∧ ∃ t, step (st base) = .next t := by
  refine ⟨?_, _, rfl⟩; unfold Block.PointsLaw; decide +kernel
theorem witness_StepsKeepAccount : base.AccountLaw ∧ base.AccountSupport := by
  refine ⟨?_, ?_, ?_, ?_, ?_⟩
  · unfold Block.AccountLaw; decide +kernel
  · decide +kernel
  · intro g x h
    have none : base.group g = none := by clear h; revert g; decide +kernel
    rw [none] at h; cases h
  · intro d z; cases z <;> revert d <;> decide +kernel
  · intro h; exact absurd h (by decide)
theorem witness_StepsKeepLocks : base.LockLaw := by
  refine ⟨by decide +kernel, by decide +kernel, by decide +kernel, by decide +kernel, by decide +kernel,
    by decide +kernel, by decide +kernel, ?_, ?_⟩
  · unfold LocksLawful; decide +kernel
  · intro w ls h; cases h
theorem witness_StepsKeepLink : base.LinkLaw := by unfold Block.LinkLaw; decide +kernel
theorem witness_StepsKeepWrites : base.WriteLaw := by unfold Block.WriteLaw; decide +kernel
theorem witness_StepsKeepOutputs : base.OutputsLaw := by unfold Block.OutputsLaw; decide +kernel
theorem witness_StepsKeepEngaged : base.EngagedLaw := by
  intro _
  refine ⟨?_, ?_, by decide +kernel⟩
  · intro d k; cases k <;> revert d <;> decide +kernel
  · intro d z; cases z <;> revert d <;> decide +kernel

/-! ### Witnesses: the link -/

theorem witness_RequestFrameIsRead :
    (Instr.trackStart 1 3).wf = true ∧ (requestFrame (.trackStart 1 3)).isSome = true ∧ base.link.rx = .hunt := by
  decide +kernel
/-- A frame's five judgements: bad CRC, tag 0, kind unknown, length wrong, all right. -/
theorem witness_FrameChecks :
    crcGood [0, 0, 1, 0, 1, 0, 0] = false ∧ crcGood (withCrc [0, 0, 1, 0, 0]) = true
    ∧ byteAt (withCrc [0, 0, 0x99, 0, 1]) 2 ∉ requestKinds
    ∧ lengthOk 1 (slice (withCrc [0, 1, 1, 0, 1, 7]) 5 1) = false
    ∧ lengthOk 0x22 (slice (withCrc [0, 1, 0x22, 0, 1, 3]) 5 1) = true := by decide +kernel
theorem witness_ReceiverStates :
    base.link.rx = .hunt ∧ (base.setRx .header [4]).link.rx ≠ .hunt ∧ (base.setRx .header [4]).link.rxBytes = [4]
    ∧ 1024 < beNat [4, 1] := by decide +kernel

/-- An outgoing entry that is answered. -/
def answered (after : After) : OutEntry :=
  { id := 0, tag := 1, kind := 1, req := some (.identify 1), handed := true, reply := some ⟨.ok, []⟩, after := after }
/-- A report. -/
def spoken (n : Nat) : Report := { kind := .wear, subject := n, time := 0, pre := [], prev := none, post := [] }
/-- Blocks with another link. -/
def linked (f : Link → Link) (b : Block) : Block := { b with link := f b.link }

theorem witness_TransmitterSends :
    let busy := linked (fun l => { l with tx := some (.report (spoken 1) false) }) base
    let ready := fun after => linked (fun l => { l with out := [answered after], tx := some (.reply 0) }) base
    busy.link.tx ≠ none ∧ base.link.tx = none ∧ base.link.reports = []
    ∧ ((linked (fun l => { l with out := [answered .nothing] }) base).link.out.find? fun x => x.reply.isSome).isSome
    ∧ (linked (fun l => { l with reports := [spoken 1] }) base).link.reports = [spoken 1]
    ∧ [After.nothing, .setRate .r57600, .softReset].all
      (fun a => ((ready a).link.out.find? fun x => x.id == 0) == some (answered a)) = true := by decide +kernel
/-- A disabled kind, a queued report of the same subject, and room for one more, and none. -/
theorem witness_ReportJoinsTheQueue :
    (linked (fun l => { l with mask := 0 }) base).link.mask.getLsbD RepKind.wear.bit = false
    ∧ base.link.mask.getLsbD RepKind.wear.bit = true
    ∧ (∃ x ∈ (linked (fun l => { l with reports := [spoken 1] }) base).link.reports, x.kind = .wear ∧ x.subject = 1)
    ∧ (∀ x ∈ (List.range 63).map spoken, ¬(x.kind = .wear ∧ x.subject = 99)) ∧ ((List.range 63).map spoken).length < 64
    ∧ (∀ x ∈ (List.range 64).map spoken, ¬(x.kind = .wear ∧ x.subject = 99))
    ∧ 64 ≤ ((List.range 64).map spoken).length := by decide +kernel
/-- Four pending, three pending before READY, three and four answers of the port. -/
theorem witness_PortAnswersForOwners :
    let pends := fun n => linked (fun l => { l with out := List.replicate n (answered .nothing) }) base
    let waits := fun n => linked (fun l => { l with out := List.replicate n { answered .nothing with req := none } }) base
    4 ≤ (pends 4).pendingCount ∧ (pends 3).pendingCount < 4 ∧ State.reset.block.site.startup ≠ .ready
    ∧ alwaysAnswered (.getBudget 1) = false ∧ (waits 3).answerCount < 4 ∧ 4 ≤ (waits 4).answerCount
    ∧ ((base.accept (.getBudget 1)).nextRequest.bind (·.req)) = some (.getBudget 1)
    ∧ kindOf (.saveConfig 1) ≠ none ∧ Instr.getBudget 1 ≠ .saveConfig 1 := by decide +kernel
/-- Blocks in another start-up state. -/
def startingAs (x : Startup) (b : Block) : Block := { b with site := { b.site with startup := x } }
/-- The first clause's hypotheses hold of a machine in STARTING; the others' of requests in every start-up state. -/
theorem witness_QueriesAnswer :
    (State.reset.block.LinkLaw ∧ State.reset.block.nextRequest = none ∧ State.reset.block.pendingCount < 4)
    ∧ Witnessed (.identify 1)
      [(base, fun _ => true), (startingAs .starting base, fun _ => true), (startingAs .discovering base, fun _ => true)]
    ∧ Witnessed (.getStatus 1 0 none)
      [(startingAs .starting base, fun b => (b.statusSection 0 none).isSome),
        (startingAs .discovering base, fun b => (b.statusSection 0 none).isSome)]
    ∧ Witnessed (.getBudget 1) [(base, fun _ => true)]
    ∧ Witnessed (.getWeather 1) [(base, fun _ => true)] ∧ Witnessed (.listLocks 1 0) [(base, fun _ => true)]
    ∧ Witnessed (.getStatus 1 3 (some 12)) [(base, fun b => (b.statusSection 3 (some 12)).isSome)]
    ∧ Witnessed (.getStatus 1 3 (some 13)) [(base, fun b => (b.statusSection 3 (some 13)).isNone)]
    ∧ Witnessed (.getStatus 1 3 none) [(base, fun b => (b.statusSection 3 none).isNone)]
    ∧ Witnessed (.getStatus 1 6 (some 1)) [(base, fun b => (b.statusSection 6 (some 1)).isNone)]
    ∧ Witnessed (.getGroup 1 9) [(base, fun _ => (groupOf 9).isNone)]
    ∧ Witnessed (.getGroup 1 1) [(base, fun b => (b.group 0).isNone), (grouped .formed base, fun b => (b.group 0).isSome)] :=
  ⟨⟨by unfold Block.LinkLaw; decide +kernel, by decide +kernel, by decide +kernel⟩, witnessed (by decide +kernel),
    witnessed (by decide +kernel), witnessed (by decide +kernel), witnessed (by decide +kernel),
    witnessed (by decide +kernel), witnessed (by decide +kernel), witnessed (by decide +kernel),
    witnessed (by decide +kernel), witnessed (by decide +kernel), witnessed (by decide +kernel),
    witnessed (by decide +kernel)⟩

/-- Nine LINK entries. -/
def nineLocks : Block :=
  let e := fun (n : Nat) =>
    ({ num := n + 1, kind := .axisAz, dish := 2, holder := n + 1, key := false, engaged := false, placed := 0
       stored := true } : LockEntry)
  { base with lockout := { base.lockout with entries := (List.range 9).map e, next := 10 } }
/-- A full page with one entry beyond it, and the last page. -/
theorem witness_LockPages :
    nineLocks.LockLaw ∧ (nineLocks.lockPage 0).length = 8 ∧ nineLocks.nextCursor (nineLocks.lockPage 0) = 9
    ∧ (nineLocks.lockPage 9).length = 1 ∧ nineLocks.nextCursor (nineLocks.lockPage 9) = 0 ∧ nineLocks.lockPage 10 = [] := by
  refine ⟨⟨?_, ?_, ?_, ?_, ?_, ?_, ?_, ?_, ?_⟩, ?_⟩
  case refine_8 => unfold LocksLawful; decide +kernel
  case refine_9 => intro w ls h; cases h
  all_goals decide +kernel
theorem witness_PortRequests :
    Witnessed (.setReportMask 1 0xFFFFF) [(base, fun _ => decide ((0xFFFFF#32).toNat < 2 ^ 20))]
    ∧ Witnessed (.setReportMask 1 0x100000) [(base, fun _ => decide (2 ^ 20 ≤ (0x100000#32).toNat))]
    ∧ Witnessed (.softReset 1) [(base, fun b => b.pendingCount == 0)]
    ∧ 0 < (linked (fun l => { l with out := [answered .nothing] }) base).pendingCount :=
  ⟨witnessed (by decide +kernel), witnessed (by decide +kernel), witnessed (by decide +kernel), by decide +kernel⟩

/-! ### Witnesses: settings, the clock and the store -/

/-- A faulted axis given a lower wear threshold: taken, judged worn. -/
def wornEl (b : Block) : Block := b.modAxis 2 .el fun a => { a with state := .faulted, releases := 20001 }
theorem witness_ConfigAxisTakesEffect :
    Witnessed (.configAxis 1 1 elParams) [(base, fun _ => (axisOf 1).isNone)]
    ∧ Witnessed (.configAxis 1 26 elParams) [(base, fun _ => (axisOf 26).isNone)]
    ∧ Witnessed (.configAxis 1 7 elParams)
      [(axesIn .held base, fun b => axisOf 7 == some (2, .el) && (b.axis 2 .el).state == .held),
        (base, fun b => (b.axis 2 .el).state == .braked && (b.axis 2 .el).stage == .none && axisParamsOk elParams .el),
        (wornEl base, fun b => (b.axis 2 .el).state == .faulted && decide (20000 < (b.axis 2 .el).releases))]
    ∧ Witnessed (.configAxis 1 7 { elParams with v := 20001 })
      [(base, fun _ => !axisParamsOk { elParams with v := 20001 } .el)] :=
  ⟨witnessed (by decide +kernel), witnessed (by decide +kernel), witnessed (by decide +kernel),
    witnessed (by decide +kernel)⟩
/-- The surface of dish 3 with duty, first in the serving order. -/
def heated (b : Block) : Block :=
  let t := b.modZone 2 .surf fun x => { x with duty := 16, demand := 16 }
  { t with heater := { t.heater with serving := [⟨2, .surf⟩] } }
theorem witness_ConfigZoneTakesEffect :
    Witnessed (.configZone 1 1 surfParams) [(base, fun _ => (zoneOf 1).isNone)]
    ∧ Witnessed (.configZone 1 6 { surfParams with step := 101 }) [(base, fun _ => zoneOf 6 == some (2, .surf))]
    ∧ Witnessed (.configZone 1 6 { surfParams with step := 100 })
      [(bare base, fun b => !b.configured 2), (heated base, fun b => decide (0 < (b.zone 2 .surf).duty)),
        (base, fun b => (b.zone 2 .surf).duty == 0 && b.configured 2)] :=
  ⟨witnessed (by decide +kernel), witnessed (by decide +kernel), witnessed (by decide +kernel)⟩
theorem witness_ConfigSiteTakesEffect :
    Witnessed (.configSite 1 { siteParams with warn := 31 }) [(base, fun _ => !siteParamsOk { siteParams with warn := 31 })]
    ∧ Witnessed (.configSite 1 { siteParams with warn := 30 })
      [(base, fun b => siteParamsOk { siteParams with warn := 30 }
        && wxSettingFields (siteParamsCfg { siteParams with warn := 30 }) == wxSettingFields b.site.cfg)] :=
  ⟨witnessed (by decide +kernel), witnessed (by decide +kernel)⟩
/-- Dish 3 deferred under the automatic shed policy. -/
def deferring (b : Block) : Block :=
  { b.modDish 2 (fun x => { x with deferred := true }) with
    site := { b.site with cfg := { b.site.cfg with autoShed := true } } }
/-- Entry 17 ACTIVE alone with a mean at the stow threshold. -/
def gale (b : Block) : Block :=
  let r : Reading := { mean := 180, gust := 180, ambient := 0, precip := .none, clamp := false, expiry := 9 }
  b.setWx 0 { state := .active, warm := 3, reading := some r, faults := 0 }
/-- Entry 17 WARMING with a reading and a count of 3. -/
def warmIn (b : Block) : Block := (gale b).setWx 0 { (gale b).wx 0 with state := .warming }
/-- What settings make of the part: an examination called for, the level, dish 3's deferral, entry 17's state. -/
def siteView (p : SiteParams) (b : Block) : Bool × Level × Bool × WxState :=
  let t := b.configureSite (siteParamsCfg p)
  (t.account.examineDue, t.weather.level, (t.dish 2).deferred, (t.wx 0).state)
/-- A changed policy and H_min; the shed setting turned off and left on; a quorum that lets one entry give figures; a warm
target that a count of 3 meets and one it does not, with a reading and without. -/
theorem witness_ConfigSiteTakesEffect_changes :
    [{ siteParams with policy := 1 }, { siteParams with hmin := 1 }, { siteParams with autoShed := 1 },
        { siteParams with quorum := 1 }, { siteParams with warmTarget := 3 }].all siteParamsOk = true
    ∧ [siteView siteParams base, siteView { siteParams with policy := 1 } base, siteView { siteParams with hmin := 1 } base,
        siteView siteParams (deferring base), siteView { siteParams with autoShed := 1 } (deferring base),
        siteView siteParams (gale base), siteView { siteParams with quorum := 1 } (gale base),
        siteView { siteParams with warmTarget := 3 } (warmIn base), siteView { siteParams with warmTarget := 4 } (warmIn base),
        siteView { siteParams with warmTarget := 3 } base]
      = [(false, .calm, false, .warming), (true, .calm, false, .warming), (true, .calm, false, .warming),
        (false, .calm, false, .warming), (false, .calm, true, .warming), (false, .calm, false, .active),
        (true, .stow, false, .active), (false, .calm, false, .active), (false, .calm, false, .warming),
        (false, .calm, false, .warming)] := by decide +kernel
theorem witness_ConfigLinesTakesEffect :
    Witnessed (.configLines 1 { lineParams with delayA := 64 }) [(base, fun _ => true)]
    ∧ Witnessed (.configLines 1 { lineParams with delayA := 63, polB := 1 })
      [(base, fun b => b.account.floor == b.floorOf && allDishes.all fun d => b.configured d),
        (bare base, fun b => !b.configured 2)] :=
  ⟨witnessed (by decide +kernel), witnessed (by decide +kernel)⟩
/-- Cabinet 3 added: under STOW its dish is blocked from IDLE and from STOWED, off STOW it stands; removed, heard and
unreachable, it stands. A faulted surface is FAULT while its dish is configured and OFF while it is not. -/
theorem witness_ConfigLinesTakesEffect_cabinets :
    let gone := fun (b : Block) => bare (axesIn .offline b)
    let flagged := fun (b : Block) => b.modZone 2 .surf fun x => { x with fault := true }
    [(((gone (stormy base)).addCabinet 2).dish 2).mode, (((gone (stormy (modeIn .stowed base))).addCabinet 2).dish 2).mode,
        (((gone base).addCabinet 2).dish 2).mode, (((modeIn .stowed base).removeCabinet 2).dish 2).mode,
        ((base.removeCabinet 2).dish 2).mode]
      = [.stowBlocked, .stowBlocked, .idle, .stowed, .idle]
    ∧ (((gone (stormy (modeIn .stowed base))).addCabinet 2).dish 2).context = none
    ∧ [((base.removeCabinet 2).axis 2 .az).state, (((away base).removeCabinet 2).axis 2 .az).state] = [.offline, .braked]
    ∧ [(((flagged base).removeCabinet 2).zone 2 .surf).mode, (((gone (flagged base)).addCabinet 2).zone 2 .surf).mode,
        ((base.removeCabinet 2).zone 2 .surf).mode, (((gone base).addCabinet 2).zone 2 .surf).mode]
      = [.off, .fault, .off, .off] := by decide +kernel
/-- A node leaves the cycle heard, never heard, and unreachable: its reach, whether it is still to visit, the reports. -/
def left3 (b : Block) : Reach × Bool × List (RepKind × List Int) :=
  let t := (toVisit [.cab 2, .wx 0] b).leaveCycle (.cab 2)
  ((t.node (.cab 2)).reach, t.field.todo.contains (.cab 2), reports t)
theorem witness_ConfigLinesTakesEffect_reach :
    [left3 base, left3 (base.setNode (.cab 2) { base.node (.cab 2) with reach := .unknown }), left3 (away base)]
      = [(.unknown, false, [(.nodeReach, [0, 1, 0, 0])]), (.unknown, false, []), (.unknown, false, [(.nodeReach, [0, 3, 0, 0])])]
    ∧ (reports (base.removeCabinet 2)).filter (fun r => r.1 == .nodeReach) = [(.nodeReach, [0, 1, 0, 0])] := by
  decide +kernel
/-- Writes in progress and waiting. -/
def writes (run : Bool) (ws : List WriteKind) (b : Block) : Block :=
  let r : WriteRun := { req := ⟨.counts, [], []⟩, image := none, locks := none, counts := none }
  { b with site := { b.site with
    running := if run then some r else none, waiting := ws.map fun k => ⟨k, [], []⟩ } }
theorem witness_SaveConfigAsksForAWrite :
    Witnessed (.saveConfig 1)
      [(base, fun b => b.site.running.isNone && b.site.waiting.isEmpty),
        (writes true [.full] base, fun b => b.waitsWrite .full),
        (writes true [.lock, .counts] base, fun b => !b.waitsWrite .full && b.writeRoom && b.site.running.isSome),
        (writes true [.lock, .counts, .counts] base, fun b => !b.waitsWrite .full && !b.writeRoom)] :=
  witnessed (by decide +kernel)
theorem witness_StoreWriteEnds :
    (st base).started ∧ base.site.running = none ∧ (writes true [] base).site.running.isSome = true
    ∧ (writes true [] base).site.waiting = [] ∧ (writes true [.full] base).site.waiting ≠ [] :=
  ⟨base_started, rfl, rfl, rfl, by decide⟩
/-- A lock write in progress that carries entry 1, with PLACE_LOCK of 1 and of 9, which is gone, and REMOVE_LOCK of 7 waiting
on it in the entries 1, 2 and 3 of the outgoing list, and entry 4 waiting on another. -/
def locking : Block :=
  let wait := fun (n : Nat) => ({ answered .nothing with id := n, reply := none } : OutEntry)
  let run : WriteRun := { req := ⟨.lock, [⟨1, 1, true⟩, ⟨2, 9, true⟩, ⟨3, 7, false⟩], []⟩, image := none
                          locks := some [⟨1, .dish, 2, 5, 0⟩], counts := none }
  let e : LockEntry :=
    { num := 1, kind := .dish, dish := 2, holder := 5, key := false, engaged := true, placed := 0, stored := false }
  { base with
    lockout := { base.lockout with entries := [e, { e with num := 4 }] }
    site := { base.site with running := some run }
    link := { base.link with out := [1, 2, 3, 4].map wait } }
/-- The stored flags and the replies of a block. -/
def storedView (b : Block) : List Bool × List (Option (Code × List Fld)) :=
  (b.lockout.entries.map (·.stored), b.link.out.map fun o => o.reply.map fun r => (r.code, r.body))
/-- A good and a failed lock write, and a FULL one with a SAVE_CONFIG waiting. -/
theorem witness_StoreWriteEnds_replies :
    storedView (locking.writeDone true)
      = ([true, false], [some (.ok, [f2 1, fb true, fb true]), some (.ok, [f2 9, fb false, fb false]),
        some (.ok, [fb true]), none])
    ∧ storedView (locking.writeDone false)
      = ([false, false], [some (.ok, [f2 1, fb true, fb false]), some (.ok, [f2 9, fb false, fb false]),
        some (.ok, [fb false]), none])
    ∧ (let full := fun (ok : Bool) => ({ locking with site := { locking.site with
          running := locking.site.running.map fun w => ({ w with req := ⟨.full, [], [4]⟩, locks := none } : WriteRun) } } : Block).writeDone ok
       [storedView (full true), storedView (full false)]
        = [([false, false], [none, none, none, some (.ok, [])]), ([false, false], [none, none, none, some (.storeFault, [])])])
    ∧ ([1, 2, 3] ++ ([] : List Nat)).Nodup :=
  ⟨by decide +kernel, by decide +kernel, by decide +kernel, by decide +kernel⟩
theorem witness_SetTimeSetsTheClock :
    Witnessed (.setTime 1 281474976710655) [(base, fun _ => decide (281474976710655 < 2 ^ 48))]
    ∧ Witnessed (.setTime 1 281474976710656) [(clockless base, fun _ => decide (2 ^ 48 ≤ 281474976710656))] :=
  ⟨witnessed (by decide +kernel), witnessed (by decide +kernel)⟩
theorem witness_StartUp :
    State.reset.block.site.startup = .starting ∧ State.reset.block.site.store.good = false
    ∧ (Block.afterReset { Store.erased with good := true }).site.store.good = true
    ∧ base.site.startup ≠ .starting ∧ base.site.startup ≠ .discovering
    ∧ (State.reset.block.beginDiscovery).site.startup = .discovering
    ∧ (State.reset.block.beginDiscovery).site.discovering = some 0
    ∧ (State.reset.block.beginDiscovery).inCycle (.cab 2) = true
    ∧ ((State.reset.block.beginDiscovery).node (.cab 2)).reach = .unknown
    ∧ (let keys := fun (n : Nat) => startingAs .discovering
         { base with lockout := { base.lockout with keys := vec12 fun d => if d = 2 then ⟨some false, 0, n⟩ else ⟨some true, 3, 0⟩ } }
       [(keys 3).judgeStartup.site.startup, (keys 2).judgeStartup.site.startup, (bare (keys 2)).judgeStartup.site.startup]
         = [.ready, .discovering, .ready]) := by decide +kernel

/-- A part whose store, good or bad, holds two LINK entries, the higher number first, entry 18 alone enabled, line A
inverted with a delay of 9, and a worn axis. -/
def storing (top : Nat) (good : Bool) : Block :=
  let image := { Image.default with
    enabled := Vector.ofFn fun n : Fin 8 => n.val == 1, lineA := { Image.default.lineA with delay := 9, inverted := true } }
  let lock : Nat → StoredLock := fun n => { num := n, kind := .axisEl, dish := 2, holder := 5, placed := 77 }
  Block.afterReset
    { good := good, image := image, locks := [lock top, lock 3], counts := Store.erased.counts.set 2 ⟨7, 20001⟩ }
/-- What the load puts in force: entries and next number, dish 3's releases, entries 17 and 18, line A, the reports. -/
theorem witness_StartUp_load :
    let loads := [(storing 65535 true).load, (storing 9 true).load, (storing 9 false).load]
    loads.map (fun u => (u.lockout.entries.map (·.num), u.lockout.next)) = [([3, 65535], 1), ([3, 9], 10), ([], 1)]
    ∧ loads.map (fun u => ((u.axis 2 .el).releases, (u.axis 2 .el).verify)) = [(20001, true), (20001, true), (0, false)]
    ∧ loads.map (fun u => ((u.wx 0).state, (u.wx 1).state))
      = [(.disabled, .warming), (.disabled, .warming), (.warming, .warming)]
    ∧ loads.map (fun u => ((u.line .a).delay, (u.line .a).inverted)) = [(9, true), (9, true), (8, false)]
    ∧ loads.map reports = [[(.wear, [20001])], [(.wear, [20001])], [(.storeFault, [1, 0, 0, 0])]]
    ∧ (storing 9 false).link.reports = [] ∧ (storing 9 false).link.mask.getLsbD 19 = true := by decide +kernel

/-! ### Witnesses: power and heat -/

/-- The third case is a budget lowered, without and within a lag; the fourth one raised within a lag. -/
theorem witness_SetBudgetTakesEffect :
    Witnessed (.setBudget 1 200001) [(base, fun _ => decide (200000 < 200001))]
    ∧ Witnessed (.setBudget 1 200000) [(base, fun b => decide (b.account.beff ≤ max 200000 b.account.floor))]
    ∧ Witnessed (.setBudget 1 17999)
      [(base, fun b => decide (max 17999 b.account.floor < b.account.beff)),
        ({ base with account := { base.account with breq := 18000, beff := 18001 } },
          fun b => decide (max 17999 b.account.floor < b.account.beff))]
    ∧ Witnessed (.setBudget 1 18001)
      [({ base with account := { base.account with breq := 18000, beff := 18002 } },
        fun b => decide (max 18001 b.account.floor < b.account.beff) && decide (b.account.breq < max 18001 b.account.floor))] :=
  ⟨witnessed (by decide +kernel), witnessed (by decide +kernel), witnessed (by decide +kernel),
    witnessed (by decide +kernel)⟩
/-- A stow-pending entry of dish 3, or none, an entry of the azimuth of dish 6 at the head of the wait queue, and an
examination due. -/
def examined (stow : Bool) (w : Nat) (b : Block) : Block :=
  let e : WaitEntry := { who := .axis 5 .az, wants := [⟨5, .az, w⟩], time := 0 }
  { b with account := { b.account with stowq := if stow then [2] else [], waitq := [e], examineDue := true } }
/-- The queues left by an examination and the claims of the two axes. -/
def afterExamine (b : Block) : List DishId × Nat × Option Claim × Option Claim :=
  let t := b.examine
  (t.account.stowq, t.account.waitq.length, t.claim 2 .el, t.claim 5 .az)
/-- The last clauses: a stow entry granted before the head, one that does not fit, and under its lock given back; a head
that fits and one that does not. -/
theorem witness_AskingForPower :
    base.site.cfg.policy = .motionOverMelt ∧ base.account.examineDue = false
    ∧ 20 ≤ (queued 20 base).account.waitq.length ∧ (queued 19 base).account.waitq.length < 20
    ∧ (queued 19 base).account.waitq ≠ [] ∧ base.account.waitq = [] ∧ base.account.stowq = []
    ∧ base.motionFits (base.trackWants 2) = true ∧ (short base).motionFits (base.trackWants 2) = false
    ∧ [afterExamine (stormy (examined true 150 base)), afterExamine (stormy (examined true 150 (short base))),
        afterExamine (stormy (lockOn .axisEl (examined true 150 base))), afterExamine (examined true 150 base),
        afterExamine (examined false 150 base), afterExamine (examined false 150 (short base))]
      = [([], 0, some ⟨.stow, 1500⟩, some ⟨.motion, 150⟩), ([2], 1, none, none), ([], 0, none, some ⟨.motion, 150⟩),
        ([2], 1, none, none), ([], 0, none, some ⟨.motion, 150⟩), ([], 1, none, none)] := by decide +kernel
/-- A request at the head of the wait queue that fits. -/
def headOf (who : Waiter) (ws : List Want) (b : Block) : Block :=
  { b with account := { b.account with waitq := [{ who := who, wants := ws, time := 0 }] } }
/-- A planned group of dish 3 that waits. -/
def planned (b : Block) : Block :=
  let g := newGroup [2] 1000 30000 .nearest false false 0
  let m := g.members.map fun m => { m with plan := some { target := ⟨1000, 30000⟩, dist := ⟨1000, 0⟩ } }
  b.setGroup 0 (some { g with state := .waiting, n0 := some 20, limit := 30, members := m })
/-- A HOLD granted, a TRACK granted and refused by a lock, an internal move and a group at the duration found and at the
limit where none is found; a stow request entered and granted, entered and left waiting, and one that has its entry. -/
theorem witness_AskingForPower_heads :
    let e := fun (b : Block) => b.account.waitq.head?.map b.grantHead
    let need := fun (b : Option Block) => b.bind fun t => (t.axis 2 .az).need
    let waits := fun (b : Block) => b.setMove 2 (some
      { plan := { target := ⟨1000, 30000⟩, dist := ⟨1000, 0⟩ }, n0 := 20, nStar := none, grant := none, phase := .waiting
        start := none, arrived := .both false })
    let ws := [⟨2, .az, 40⟩, ⟨2, .el, 50⟩]
    need (e (headOf (.hold 2) ws base)) = some ⟨.hold, some 40⟩
    ∧ need (e (headOf (.track 2) ws (modeIn .trackWait base))) = some ⟨.track, some 40⟩
    ∧ (e (headOf (.track 2) ws (modeIn .trackWait base))).map (fun t => (t.dish 2).mode) = some .tracking
    ∧ (e (headOf (.track 2) ws (lockOn .axisAz (modeIn .trackWait base)))).map (fun t => (t.dish 2).mode) = some .idle
    ∧ [e (headOf (.internal 2) ws (waits base)), e (headOf (.internal 2) ws (short (waits base)))].map
        (fun t => t.bind fun t => (t.move 2).map (·.nStar)) = [some (some 20), some (some 6000)]
    ∧ [e (headOf (.group 0) ws (planned base)), e (headOf (.group 0) ws (short (planned base)))].map
        (fun t => t.bind fun t => (t.group 0).map fun x => (x.state, x.nStar))
      = [some (.starting, some 20), some (.starting, some 30)]
    ∧ [((stormy base).askStow 2).account.stowq, ((short (stormy base)).askStow 2).account.stowq,
        ((stormy (examined true 150 base)).askStow 2).account.stowq, (base.askStow 2).account.stowq]
      = [[], [2], [2], []] := by decide +kernel
/-- A budget raised within its lag, which ends with the examination that SET_BUDGET calls for: the reply carries B_eff as it then
stands (R68). -/
theorem test_budget_reply :
    let e : WaitEntry := { who := .track 2, wants := base.trackWants 2, time := 0 }
    let b := (asks .track (modeIn .trackWait base)).setClaim 2 .az (some ⟨.motion, 30000⟩)
    let c := { b with account := { b.account with breq := 19000, beff := 30000, waitq := [e] } }
    (ownSetBudget 20000 c).2.map (fun r => r.1.body) = some [f4 20000, f4 20000, f4 18000]
    ∧ (c.setBudget 20000).account.beff = 30000 ∧ (ownSetBudget 20000 c).1.settle.account.beff = 20000 := by decide +kernel
/-- A motion claim of 100 W on dish 3's azimuth, the budget lagging behind it or not. -/
def claimed (breq beff : Nat) (b : Block) : Block :=
  let t := b.setClaim 2 .az (some ⟨.motion, 100⟩)
  { t with account := { t.account with breq := breq, beff := beff } }
theorem witness_GrantKeepsTheBudget :
    (wantAxes (base.trackWants 2)).Nodup
    ∧ total (base.trackWants 2) + (claimed 800 40000 (heated base)).otherTotal (base.trackWants 2) ≤ 800
    ∧ ∀ d z, 0 < ((heated base).zone d z).duty → (⟨d, z⟩ : ZoneRef) ∈ (heated base).heater.serving := by
  refine ⟨by decide +kernel, by decide +kernel, ?_⟩
  intro d z; cases z <;> revert d <;> decide +kernel
/-- A cut of one watt reaches the later of two heated zones; a claim is released with and without a lag. -/
theorem witness_HeatAndClaimsFall :
    let two := heated (base.modZone 4 .surf fun x => { x with duty := 16 })
    let t := { two with heater := { two.heater with serving := [⟨2, .surf⟩, ⟨4, .surf⟩] } }
    t.heater.serving.Nodup ∧ ((t.curtail 4001).zone 2 .surf).duty < (t.zone 2 .surf).duty
    ∧ (claimed 50 100 base).claim 2 .az = some ⟨.motion, 100⟩ ∧ (claimed 50 100 base).account.breq = 50
    ∧ (claimed 50 100 base).account.beff = 100 := by decide +kernel
theorem witness_HeatRules :
    0 < (ZoneCfg.default .surf).step ∧ (ZoneCfg.default .surf).setpoint ≤ 30 ∧ 29 < (ZoneCfg.default .surf).setpoint
    ∧ demandOf (ZoneCfg.default .surf) (some (-50)) = 16 ∧ demandOf (ZoneCfg.default .surf) (some (-45)) = 15
    ∧ ((base.modZone 2 .surf fun x => { x with fault := true }).zone 2 .surf).fault = true
    ∧ State.reset.block.heard 2 = false ∧ 0 < (lockOn .zoneSurf base).zoneLocks 2 .surf := by decide +kernel
/-- An episode, the surfaces of dishes 1 and 3 cold, that of dish 3 at full duty with some full-duty seconds, its drive
pre-warming, a budget. -/
def snowing (secs breq : Nat) (b : Block) : Block :=
  let t := b.modZone 2 .surf fun x => { x with duty := 16, fullSecs := secs, temp := some (-200), cfg := { x.cfg with rated := 1600 } }
  let t := t.modZone 0 .surf fun x => { x with temp := some (-200), cfg := { x.cfg with rated := 1600 } }
  let t := t.modZone 2 .drive fun x => { x with prewarm := some 9000, temp := some (-200), cfg := { x.cfg with rated := 1600 } }
  { t with heater := { t.heater with episode := true }, account := { t.account with beff := breq } }
/-- The zones with duty after a heater second, and the full-duty seconds and minutes of dish 3's surface. -/
def heatView (b : Block) : List (Nat × ZoneKind × Nat) × Nat × Nat :=
  let t := b.heaterSecond
  ((t.heater.serving.filter fun r => (t.zone r.d r.z).duty ≠ 0).map (fun r => (r.d.val, r.z, (t.zone r.d r.z).duty)),
    (t.zone 2 .surf).fullSecs, (t.zone 2 .surf).meltMin)
/-- Rank before dish, and the largest duty that the watts left allow, to the watt; the sixtieth full-duty second. -/
theorem witness_HeatRules_serving :
    [heatView (snowing 58 4800 base), heatView (snowing 59 4799 base), heatView (snowing 0 3200 base),
        heatView (snowing 0 1599 (lockOn .zoneSurf base))]
      = [([(2, .drive, 16), (0, .surf, 16), (2, .surf, 16)], 59, 0),
        ([(2, .drive, 16), (0, .surf, 16), (2, .surf, 15)], 0, 1), ([(2, .drive, 16), (0, .surf, 16)], 1, 0),
        ([(2, .drive, 15)], 1, 0)] := by decide +kernel
/-- Dish 3 cold. -/
def cold (b : Block) : Block := { b with heater := { b.heater with cold := b.heater.cold.set 2 true } }
theorem witness_PrewarmAndSnow :
    Witnessed (.prewarm 1 3 2) [(base, fun b => b.configured 2)]
    ∧ Witnessed (.prewarm 1 3 0) [(cold base, fun b => b.cold 2), (base, fun b => !b.cold 2)]
    ∧ Witnessed (.prewarm 1 3 1) [(cold base, fun b => b.configured 2)]
    ∧ Witnessed (.snowForce 1 2) [(base, fun _ => true)] ∧ Witnessed (.snowForce 1 1) [(base, fun b => !b.snowCond)]
    ∧ ({ base with heater := { base.heater with snowForce := true } }).snowCond = true
    ∧ base.heater.episode = false ∧ ({ base with heater := { base.heater with episode := true } }).heater.clear = none :=
  ⟨witnessed (by decide +kernel), witnessed (by decide +kernel), witnessed (by decide +kernel),
    witnessed (by decide +kernel), witnessed (by decide +kernel), by decide +kernel, rfl, rfl⟩

/-- Two ACTIVE entries with a precipitation and an ambient temperature, dish 3 deferred. -/
def falling (p : Precip) (t : Int) (b : Block) : Block :=
  let r : Reading := { mean := 10, gust := 20, ambient := t, precip := p, clamp := false, expiry := 9 }
  let e : WxEntry := { state := .active, warm := 3, reading := some r, faults := 0 }
  ((b.setWx 0 e).setWx 1 e).modDish 2 fun x => { x with deferred := true }
/-- The host snow force set. -/
def forced (b : Block) : Block := { b with heater := { b.heater with snowForce := true } }
/-- An episode's start by each cause, 2.0 °C being wet snow and 2.1 °C not, with its report; and the reply of PREWARM START on
a warm dish, with a request of 2.999 s left and without one. -/
theorem witness_PrewarmAndSnow_episode :
    let seen := fun (b : Block) => (b.judgeSnow.heater.episode, (b.judgeSnow.dish 2).deferred, reports b.judgeSnow)
    [seen (falling .frozen 50 base), seen (falling .liquid 20 (forced base)), seen (falling .liquid 21 (forced base)),
        seen (falling .liquid 21 base)]
      = [(true, false, [(.snow, [1, 1, 0, 1, 1, 10, 1, 20, 1, 50, 2, 2])]),
        (true, false, [(.snow, [1, 1, 1, 1, 1, 10, 1, 20, 1, 20, 1, 2])]),
        (true, false, [(.snow, [1, 1, 2, 1, 1, 10, 1, 20, 1, 21, 1, 2])]), (false, true, [])]
    ∧ [some 7999, none].map (fun t =>
        (ownPrewarm 3 0 (base.modZone 2 .drive fun x => { x with prewarm := t })).2.map fun r => r.1.body.map (·.val))
      = [some [1, 2, 0, 0], some [0, 0, 0, 0]] := by decide +kernel

/-! ### Witnesses: points and dishes -/

theorem witness_DishRequestsName :
    Witnessed (.shed 1 0) [(base, fun _ => (dishOf 0).isNone)] ∧ Witnessed (.resume 1 13) [(base, fun _ => (dishOf 13).isNone)]
    ∧ Witnessed (.prewarm 1 3 0) [(bare base, fun b => dishOf 3 == some 2 && !b.configured 2)] :=
  ⟨witnessed (by decide +kernel), witnessed (by decide +kernel), witnessed (by decide +kernel)⟩
theorem witness_AddPointsAdmits :
    Witnessed (.addPoints 1 13 [⟨1010000, 0, 0⟩]) [(base, fun _ => (dishOf 13).isNone)]
    ∧ Witnessed (.addPoints 1 3 [⟨1010000, 360000, 0⟩])
      [(bare base, fun b => !b.configured 2), (clockless base, fun b => b.site.clock.isNone),
        (base, fun b => b.site.clock == some 1000000 && b.configured 2)]
    ∧ Witnessed (.addPoints 1 3 [⟨1010000, 359999, 90000⟩]) [(base, fun b => b.site.clock == some 1000000)] :=
  ⟨witnessed (by decide +kernel), witnessed (by decide +kernel), witnessed (by decide +kernel)⟩
/-- How many points were admitted, with which code, and whether the clamp episode of dish 3 is open. -/
def taken (ps : List PointParams) (b : Block) : Nat × Code × Bool :=
  let r := b.takePoints 2 1000000 0 false ps
  (r.2.1, r.2.2, (r.1.dish 2).clampOpen)
/-- Every point admitted, one of them clamped, none of them clamped after an open episode, and the first or the second
refused at and past the bounds of its time. -/
theorem witness_AddPointsAdmits_taken :
    [taken [] base, taken [⟨1010000, 0, 6000⟩, ⟨1600000, 0, 89500⟩] base, taken [⟨1010000, 0, 30000⟩, ⟨1020000, 0, 5999⟩] base,
        taken [⟨1010000, 0, 30000⟩] (base.modDish 2 fun x => { x with clampOpen := true }),
        taken [⟨1010000, 0, 0⟩, ⟨1010000, 0, 30000⟩] base, taken [⟨1600001, 0, 30000⟩] base]
      = [(0, .ok, false), (2, .ok, false), (2, .clamped, true), (1, .ok, false), (1, .outOfOrder, true), (0, .tooFar, false)]
    ∧ (base.takePoints 2 1000000 0 false [⟨1010000, 90, 0⟩, ⟨1020000, 90, 0⟩]).1.link.reports
      = [{ kind := .clamped, subject := 3, time := 1000000, pre := [f6 1010000, s4 90, s4 0, s4 90, s4 6000], prev := none
           post := [] }] := by decide +kernel
/-- Queues of the lengths given, at times from 1,000,001 on. -/
def queues (ns : Vector Nat 12) (b : Block) : Block :=
  allDishes.foldl (fun b d => b.setQueue d ((List.range ns[d]).map fun i => ⟨1000001 + i, 0, 30000, 0, false⟩)) b
/-- Early, too far, past the cap, the victim's own, another's under 32 free, and free; each within the law of the pool. -/
theorem witness_OfferedPoint :
    let low := queues #v[0, 0, 100, 0, 0, 0, 0, 0, 0, 119, 119, 110] base
    let own := queues #v[0, 0, 119, 119, 105, 105, 0, 0, 0, 0, 0, 0] base
    low.PointsLaw ∧ own.PointsLaw ∧ low.points.free ≤ 32 ∧ low.victim ≠ 2 ∧ own.points.free ≤ 32 ∧ own.victim = 3
    ∧ (low.queue 2).length < 120 ∧ 32 < base.points.free
    ∧ 120 ≤ ((queues #v[0, 0, 120, 0, 0, 0, 0, 0, 0, 0, 0, 0] base).queue 2).length
    ∧ (∃ x ∈ (low.queue 2).getLast?, 1000100 ≤ x.time) ∧ 1000000 + 600000 < 1600001 := by
  unfold Block.PointsLaw; decide +kernel
/-- The azimuth of dish 3 with its limits and its reported position. -/
def azLimits (lo hi pos : Int) : Block := base.modAxis 2 .az fun a =>
  { a with cfg := { a.cfg with lo := lo, hi := hi }, reported := a.reported.map fun r => { r with pos := pos } }
/-- The azimuth a point resolves to, and its clamped flag. -/
def resolved (b : Block) (sky el : Int) : Int × Bool := ((b.makePoint 2 ⟨1010000, sky, el⟩).az, (b.makePoint 2 ⟨1010000, sky, el⟩).clamped)
/-- Two candidates equally near, none that fits, nearer one limit and between both, and an elevation at and past its limit. -/
theorem witness_PointResolution_corners :
    [resolved (azLimits (-270000) 270000 0) 180000 30000, resolved (azLimits 0 100 40) 180000 30000,
        resolved (azLimits 0 100 50) 180000 30000, resolved base 0 89500, resolved base 0 89501]
      = [(180000, false), (0, true), (100, true), (0, false), (0, true)]
    ∧ (azLimits 0 100 50).azRef 2 = 50 ∧ (pointed (azLimits 0 100 50)).azRef 2 = 0
    ∧ (base.modAxis 2 .az fun a => { a with reported := none }).azRef 2 = 0
    ∧ (let low := queues #v[0, 0, 100, 0, 0, 0, 0, 0, 0, 119, 119, 110] base
       2 ≤ (low.queue low.victim).length) := by decide +kernel
theorem witness_PointResolution :
    (base.axis 2 .az).cfg.lo ≤ 90000 - 360000 ∧ 90000 - 360000 ≤ (base.axis 2 .az).cfg.hi := by decide +kernel
theorem witness_FlushPointsEmpties :
    Witnessed (.flushPoints 1 0) [(base, fun _ => (dishOf 0).isNone)]
    ∧ Witnessed (.flushPoints 1 3)
      [(modeIn .tracking (pointed base), fun b => (b.dish 2).mode == .tracking),
        (asks .track (modeIn .trackWait base), fun b => (b.dish 2).pendingReq == some .track),
        (pointed base, fun b => (b.dish 2).mode == .idle)] :=
  ⟨witnessed (by decide +kernel), witnessed (by decide +kernel)⟩
/-- Table 2-3 condition by condition, then BUSY, granted and queued. -/
theorem witness_TrackStart :
    Witnessed (.trackStart 1 3)
      [(modeIn .stowed base, fun b => (b.dish 2).mode != .idle), (clockless base, fun b => b.site.clock.isNone),
        (latched base, fun b => b.site.estop), (stormy base, fun b => b.weather.level == .stow),
        (lockOn .axisEl base, fun b => decide (0 < b.axisLocks 2 .el)), (base, fun b => (b.queue 2).isEmpty),
        (axesIn .faulted (pointed base), fun b => b.outOfService 2),
        (asks .hold (pointed base), fun b => (b.dish 2).pendingReq == some .hold && (b.trackRefused 2).isNone),
        (queued 20 (pointed base), fun b => decide (20 ≤ b.account.waitq.length) && (b.trackRefused 2).isNone),
        (pointed base, fun b => b.motionFits (b.trackWants 2) && (b.trackRefused 2).isNone),
        (queued 19 (pointed base), fun b => decide (b.account.waitq.length < 20) && (b.trackRefused 2).isNone),
        (short (pointed base), fun b => !b.motionFits (b.trackWants 2) && (b.trackRefused 2).isNone)] :=
  witnessed (by decide +kernel)
theorem witness_TrackStopAndPark :
    Witnessed (.trackStop 1 3)
      [(asks .track (modeIn .trackWait base), fun b => (b.dish 2).mode == .trackWait),
        (modeIn .tracking base, fun b => (b.dish 2).mode == .tracking), (base, fun b => (b.dish 2).mode == .idle)]
    ∧ Witnessed (.parkDish 1 3)
      [(asks .hold base, fun b => (b.dish 2).mode == .idle), (modeIn .slewing base, fun b => (b.dish 2).mode == .slewing)] :=
  ⟨witnessed (by decide +kernel), witnessed (by decide +kernel)⟩
/-- The azimuth of dish 3 changed in a block whose axes of that dish are in a state. -/
def azIn (x : AxisState) (f : Axis → Axis) (b : Block := base) : Block := (axesIn x b).modAxis 2 .az f
/-- What an answer reports of an axis. -/
def told (released : Bool) (pos rate : Int := 0) (code : FaultCode := .none) (test : TestResult := .none)
    (driveOn : Bool := true) : AxisReport :=
  { pos := pos, rate := rate, released := released, driveOn := driveOn, code := code, test := test }
/-- The state of the azimuth of dish 3, and whether it holds a claim, after an answer. -/
def heardAs (r : AxisReport) (b : Block) : AxisState × Bool :=
  (((b.axisAnswer 2 .az r).axis 2 .az).state, ((b.axisAnswer 2 .az r).claim 2 .az).isSome)
/-- The azimuth of dish 3 with a claim of 100 W. -/
def paid (b : Block) : Block := b.setClaim 2 .az (some ⟨.motion, 100⟩)
/-- Every row of the two tables has an axis in it; each clause on an answer has one that meets it: a move at its start
time and its tolerance and one past either, a stop to brake and to hold, an engagement with a need, without one, under a
lock and under the latch. -/
theorem witness_AxisTables :
    base.axisLocks 2 .az = 0 ∧ base.site.estop = false
    ∧ ([.moving, .held, .testing, .releasing, .braked, .stopping, .engaging, .faulted, .offline, .locked] :
      List AxisState).all (fun x => ((axesIn x base).axis 2 .az).state == x) = true
    ∧ (((base.modAxis 2 .az fun a => { a with stage := .beacon }).axis 2 .az).stage ≠ .none)
    ∧ (let move := fun start => azIn .moving fun a => { a with order := .move 20 50 start }
       let stop := fun i n => azIn .stopping fun a => { a with intent := i, need := n }
       let need : Option Need := some ⟨.hold, none⟩
       let share : Option Need := some ⟨.track, some 100⟩
       let eng := fun n => paid (azIn .engaging fun a => { a with need := n })
       [heardAs (told false (code := .drive)) (axesIn .offline base), heardAs (told false) (paid (axesIn .offline base)),
        heardAs (told true) (paid (axesIn .offline base)), heardAs (told true) (axesIn .faulted base),
        heardAs (told true (code := .limit)) (axesIn .held base), heardAs (told false) (axesIn .held base),
        heardAs (told true) (axesIn .locked base), heardAs (told false (test := .pass)) (axesIn .testing base),
        heardAs (told false (test := .fail)) (axesIn .testing base), heardAs (told false) (axesIn .testing base),
        heardAs (told true) (axesIn .releasing base), heardAs (told true (driveOn := false)) (axesIn .releasing base),
        heardAs (told true) (move 1000000), heardAs (told true) (move 1000001), heardAs (told true (pos := -1)) (move 0),
        heardAs (told true) (azIn .moving fun a => { a with order := .track [] }), heardAs (told true (rate := 1)) (stop .hold need),
        heardAs (told true) (stop .brake none), heardAs (told true) (paid (stop .hold need)),
        heardAs (told true) (paid (stop .hold share)), heardAs (told true) (eng need), heardAs (told false) (eng none),
        heardAs (told false) (latched (eng need)), heardAs (told false) (lockOn .axisAz (eng need)),
        heardAs (told false) (eng need), heardAs (told false) (axesIn .braked base)]
       = [(.faulted, false), (.braked, false), (.engaging, true), (.faulted, false), (.faulted, false), (.faulted, false),
        (.faulted, false), (.testing, false), (.faulted, false), (.testing, false), (.held, false), (.releasing, false),
        (.held, false), (.moving, false), (.moving, false), (.moving, false), (.stopping, false), (.engaging, false),
        (.held, true), (.held, true), (.engaging, true), (.braked, false), (.braked, false), (.locked, false),
        (.braked, true), (.braked, false)])
    ∧ (((axesIn .held base).axisRefused 2 .az).axis 2 .az).fault = some .refused
    ∧ (((axesIn .offline base).axisRefused 2 .az).axis 2 .az).fault = none := by decide +kernel
/-- A claim above P_hold, at it and below it of an axis that is held for its dish; and a BRAKED axis with no release under
way that its dish is parked with, with a need and a claim and without either. -/
theorem witness_AxisTables_claims :
    [151, 150, 149].map (fun n =>
        ((((axesIn .held base).setClaim 2 .az (some ⟨.motion, n⟩)).holdAfterEnd 2 .az).claim 2 .az).map (·.watts))
      = [some 150, some 150, some 149]
    ∧ [paid (base.modAxis 2 .az fun a => { a with need := some ⟨.hold, none⟩ }), base].map (fun b =>
        (((b.brakeInPlace 2 .az).axis 2 .az).need, (b.brakeInPlace 2 .az).claim 2 .az, decide (b.brakeInPlace 2 .az = b)))
      = [(none, none, false), (none, none, true)] := by decide +kernel
/-- What the azimuth of dish 3 makes of a hold of the dish: refused or not, its state, its stage, whether a need stands and
a claim. -/
structure NeedView where
  refused : Option DropReason
  state : AxisState
  stage : Stage
  need : Bool
  claim : Bool
  deriving DecidableEq
/-- The view after a need with a grant or without. -/
def needed (grant : Option Nat) (b : Block) : NeedView :=
  let r := b.deliverNeed 2 .az ⟨.hold, grant⟩
  let a := r.1.axis 2 .az
  ⟨r.2, a.state, a.stage, a.need.isSome, (r.1.claim 2 .az).isSome⟩
/-- A need refused for each reason, its claim given back, and taken in each kind of state. -/
theorem witness_AxisTables_needs :
    [needed none (lockOn .axisAz (paid base)), needed (some 100) (lockOn .axisAz (paid base)), needed (some 100) (latched (paid base)),
        needed (some 100) (paid (axesIn .offline base)), needed (some 100) (paid (axesIn .faulted base)), needed none (paid (axesIn .locked base)),
        needed (some 100) (paid base), needed none base, needed none (base.modAxis 2 .az fun a => { a with stage := .beacon }),
        needed none (axesIn .stopping base), needed (some 100) (paid (axesIn .engaging base))]
      = [⟨some .locked, .braked, .none, false, true⟩, ⟨some .locked, .braked, .none, false, false⟩,
        ⟨some .estop, .braked, .none, false, false⟩, ⟨some .offline, .offline, .none, false, false⟩,
        ⟨some .fault, .faulted, .none, false, false⟩, ⟨some .locked, .locked, .none, false, true⟩,
        ⟨none, .braked, .beacon, true, true⟩, ⟨none, .braked, .claim, true, false⟩, ⟨none, .braked, .beacon, true, false⟩,
        ⟨none, .stopping, .none, true, false⟩, ⟨none, .engaging, .none, true, true⟩] := by decide +kernel
/-- A park request set in TESTING is gone when the axis enters RELEASING, and stands when it enters HELD (R31). -/
theorem test_park_request_cleared :
    let asked := (axesIn .testing base).brakeInPlace 2 .az
    (asked.dish 2).parkReq.az = true ∧ ((asked.enter 2 .az .releasing).dish 2).parkReq.az = false
    ∧ ((asked.enter 2 .az .held).dish 2).parkReq.az = true := by decide +kernel
theorem witness_HoldDishHolds :
    Witnessed (.holdDish 1 3)
      [(modeIn .stowed base, fun b => (b.dish 2).mode != .idle), (latched base, fun b => b.site.estop),
        (stormy base, fun b => b.weather.level == .stow), (lockOn .dish base, fun b => decide (0 < b.axisLocks 2 .az)),
        (axesIn .offline base, fun b => b.outOfService 2),
        (axesIn .held base, fun b => b.bothHeld 2 && (b.holdRefused 2).isNone),
        (asks .hold base, fun b => (b.dish 2).pendingReq == some .hold && (b.holdRefused 2).isNone),
        (queued 20 base, fun b => decide (20 ≤ b.account.waitq.length) && (b.holdRefused 2).isNone),
        (base, fun b => b.motionFits (b.holdWants 2) && (b.holdRefused 2).isNone),
        (queued 19 base, fun b => decide (b.account.waitq.length < 20) && (b.holdRefused 2).isNone)] :=
  witnessed (by decide +kernel)

/-! ### Witnesses: groups -/

/-- Every slot holds a live group of no dish. -/
def fullTable (x : GroupState) (b : Block) : Block :=
  let g := { newGroup [] 0 0 .nearest false false 0 with state := x, finishOrder := some 1 }
  { b with planner := { b.planner with groups := vec8 fun _ => some g } }
theorem witness_FormGroupForms :
    Witnessed (.formGroup 1 [] 0 0 0 0 0 0) [(base, fun _ => !formOk [] 0 0 0 0)]
    ∧ Witnessed (.formGroup 1 [3] 359999 90000 2 1 1 6000)
      [(bare base, fun b => !b.configured 2), (base.modDish 2 fun x => { x with group := some 1 }, fun b => b.formSlot.isSome),
        (fullTable .formed base, fun b => b.formSlot.isNone), (base, fun b => b.formSlot == some 0),
        (fullTable .done base, fun b => b.formSlot == some 0)] :=
  ⟨witnessed (by decide +kernel), witnessed (by decide +kernel)⟩
/-- The check of a START_GROUP of slot 1 passes. -/
def startsOk (b : Block) : Bool := (b.group 0).any fun x => (b.startRefused x).isNone && (b.planGroup x).isSome
theorem witness_StartGroupStarts :
    Witnessed (.startGroup 1 9) [(base, fun _ => (groupOf 9).isNone)]
    ∧ Witnessed (.startGroup 1 1)
      [(base, fun b => (b.group 0).isNone),
        (grouped .waiting base, fun b => (b.group 0).any fun x => b.startRefused x == some .state),
        ((grouped .formed base).modGroup 0 fun x => { x with el := 0 },
          fun b => (b.group 0).any fun x => (b.startRefused x).isNone && (b.planGroup x).isNone),
        ((grouped .formed base).modAxis 2 .az fun a => { a with cfg := { a.cfg with v := 1 } },
          fun b => (b.group 0).any fun x => (b.planGroup x).any fun ms => decide (6000 < b.minDuration ms)),
        (coldGroup base, fun b => startsOk b && (b.group 0).any fun x => b.groupCold x && x.waitWarm),
        (queued 20 (grouped .formed base), startsOk), (grouped .formed base, startsOk),
        (short (grouped .formed base), startsOk)] :=
  ⟨witnessed (by decide +kernel), witnessed (by decide +kernel)⟩
/-- The state of group 1, its end reason, its members' states, and the mode of dish 3. -/
def groupView (b : Block) : Option (GroupState × Option EndReason × List MemberState) × Mode :=
  ((b.group 0).map fun x => (x.state, x.reason, x.members.map (·.state)), (b.dish 2).mode)
/-- Dishes 3 and 4 in group 1, planned over a distance of each azimuth, their axes HELD under it. -/
def gathered (st : GroupState) (b : Block) : Block :=
  let plan : Plan := { target := ⟨90000, 30000⟩, dist := ⟨90000, 0⟩ }
  let g := newGroup [2, 3] 90000 30000 .nearest true false 0
  let t := b.setGroup 0 (some { g with
    state := st, nStar := some 600, start := some 1000, members := g.members.map fun m => { m with plan := some plan } })
  [2, 3].foldl (fun u d => (u.bothAxes fun k s => s.modAxis d k fun a =>
    { a with state := .held, need := some ⟨.group 0, some 200⟩ }).modDish d fun x => { x with mode := .slewing, group := some 0 }) t
/-- A group still warming, one planned anew as its rule gives, and one that starts or does not. -/
theorem witness_StartGroupStarts_life :
    [groupView ((grouped .warming base).replan 0), groupView (((coldGroup base).modGroup 0 fun x => { x with state := .warming }).replan 0),
        groupView (((grouped .warming base).modGroup 0 fun x => { x with el := 0 }).replan 0), groupView ((queued 20 (grouped .warming base)).replan 0),
        groupView ((short (grouped .warming base)).replan 0),
        groupView (((grouped .warming base).modAxis 2 .az fun a => { a with cfg := { a.cfg with v := 1 } }).replan 0)]
      = [(some (.starting, none, [.planned]), .idle), (some (.warming, none, [.planned]), .idle),
        (some (.aborted, some .plan, [.planned]), .idle), (some (.aborted, some .busy, [.planned]), .idle),
        (some (.waiting, none, [.planned]), .idle), (some (.aborted, some .plan, [.planned]), .idle)]
    ∧ base.account.examineDue = false
    ∧ groupView ((gathered .starting base).startGroup 0 none) = (some (.running, none, [.moving, .moving]), .slewing)
    ∧ groupView (((gathered .starting base).modAxis 3 .el fun a => { a with state := .releasing }).startGroup 0 none)
      = (some (.starting, none, [.planned, .planned]), .slewing) :=
  ⟨by decide +kernel, by decide +kernel, by decide +kernel, by decide +kernel⟩
/-- Dish 3 TRACKING with a hold that waits, its azimuth MOVING under a share, its elevation HELD without a need. -/
def handing (b : Block) : Block :=
  let t := (headOf (.hold 2) [] (asks .hold (modeIn .tracking b))).modAxis 2 .az fun a =>
    { a with state := .moving, need := some ⟨.track, some 40⟩ }
  paid (t.modAxis 2 .el fun a => { a with state := .held })
/-- Dishes 3 and 4 in a STARTING group, dish 3 in SLEW_WAIT, their shares granted and not delivered. -/
def granted (b : Block) : Block :=
  let t := modeIn .slewWait (gathered .starting b)
  let share : PerAxis Share := ⟨{ rate := 40, claim := 100 }, { rate := 50, claim := 200 }⟩
  (t.modGroup 0 fun x => { x with members := x.members.map fun m => { m with grant := some share } }).modAxis 3 .az
    fun a => { a with state := .braked }
/-- The states, stages and needs of dish 3's axes. -/
def axesOf (b : Block) : List (AxisState × Stage × Option Need) :=
  [b.axis 2 .az, b.axis 2 .el].map fun a => (a.state, a.stage, a.need)
/-- A member handed over, with its report; shares delivered to axes BRAKED and STOPPING, and refused by each axis. -/
theorem witness_StartGroupStarts_handed :
    (let t := (handing base).handMembers 0 (newGroup [2] 90000 30000 .nearest false false 0)
     (t.dish 2).mode = .slewWait ∧ (t.dish 2).pendingReq = none ∧ t.waits (.hold 2) = false
     ∧ axesOf t = [(.stopping, .none, some ⟨.group 0, none⟩), (.held, .none, none)]
     ∧ (t.claim 2 .az).map (·.watts) = some 100)
    ∧ [reports (base.setMode 2 .slewWait .group), reports (base.setMode 2 .idle .group)]
      = [[(.dishMode, [3, 0, 5, 0, 0, 0, 0, 0])], []]
    ∧ [AxisState.braked, .stopping].map (fun x => axesOf ((axesIn x (granted base)).deliverGroup 0))
      = [[(.braked, .beacon, some ⟨.group 0, some 100⟩), (.braked, .beacon, some ⟨.group 0, some 200⟩)],
        [(.stopping, .none, some ⟨.group 0, some 100⟩), (.stopping, .none, some ⟨.group 0, some 200⟩)]]
    ∧ [granted base, lockOn .axisAz (granted base), lockOn .axisEl (granted base), axesIn .faulted (granted base),
        latched (granted base)].map (fun b =>
        (((b.deliverGroup 0).group 0).map fun x => (x.state, x.members.map (·.drop)), ((b.deliverGroup 0).dish 2).mode))
      = [(some (.starting, [none, none]), .slewWait), (some (.starting, [some .locked, none]), .idle),
        (some (.starting, [some .locked, none]), .idle), (some (.starting, [some .fault, none]), .idle),
        (some (.partly, [some .estop, some .estop]), .idle)] :=
  ⟨by decide +kernel, by decide +kernel, by decide +kernel, by decide +kernel⟩
/-- The check of a START_GROUP of slot 1 that refuses it. -/
def startCode (b : Block) : Option Code := (b.group 0).bind b.startRefused
/-- The level at WATCH. -/
def windy (b : Block) : Block := { b with weather := { b.weather with level := .watch } }
/-- Checks 2 to 9 one by one; under WATCH a target at the minimum and one below it. -/
theorem witness_StartGroupStarts_checks :
    let g := grouped .formed base
    [startCode (grouped .warming base), startCode (bare g), startCode (modeIn .slewing g), startCode (clockless g),
        startCode (latched g), startCode (stormy g), startCode (windy (g.modGroup 0 fun x => { x with el := 19999 })),
        startCode (windy (g.modGroup 0 fun x => { x with el := 20000 })), startCode (lockOn .axisEl g), startCode (axesIn .offline g),
        startCode (g.modAxis 2 .az fun a => { a with reported := none }), startCode g]
      = [some .state, some .noSuch, some .state, some .noTime, some .estop, some .wind, some .wind, none, some .locked,
        some .state, some .state, none] := by decide +kernel
/-- The candidate each preference takes; two candidates equally near, with the nearer to 0 and, those equal too, the
positive one taken; an elevation at its limit and past it; no candidate. -/
theorem witness_StartGroupStarts_wraps :
    let at_ := fun (b : Block) (az el : Int) (p : WrapPref) => (b.memberTarget 2 az el p).map (·.az)
    [at_ base 90000 30000 .positive, at_ base 90000 30000 .negative, at_ base 90000 30000 .nearest,
        at_ (azLimits (-270000) 270000 (-90000)) 90000 30000 .nearest, at_ (azLimits (-270000) 270000 0) 180000 30000 .nearest,
        at_ base 0 89500 .nearest, at_ base 0 89501 .nearest, at_ (azLimits 0 100 50) 180000 30000 .nearest]
      = [some 90000, some (-270000), some 90000, some 90000, some 180000, some 0, none, none]
    ∧ (let plans := fun (x : Group) => base.planGroup x
       (plans (newGroup [2, 3] 90000 30000 .nearest false false 0)).map (fun ms => (ms.map fun m => (m.1, m.2.dist.az), base.minDuration ms))
        = some ([(2, 90000), (3, 90000)], 600) ∧ plans (newGroup [2, 3] 90000 0 .nearest false false 0) = none
       ∧ base.minDuration [] = 20) := by decide +kernel
/-- Dish 4's member ARRIVED already. -/
def alone (b : Block) : Block := b.modGroup 0 fun x =>
  { x with members := x.members.map fun m => if m.dish = 3 then { m with state := .arrived } else m }
/-- The elevation of dish 3 reported under way. -/
def astir (b : Block) : Block :=
  b.modAxis 2 .el fun a => { a with reported := a.reported.map fun r => { r with rate := 1 } }
/-- A running group aborted with dish 3's azimuth in a state, with a share: the axis's state, need and claim. -/
def letGo (x : AxisState) : AxisState × Option Need × Option Nat :=
  let b := ((gathered .running base).modAxis 2 .az fun a => { a with state := x }).setClaim 2 .az (some ⟨.motion, 900⟩)
  let t := b.abortGroup 0 .request none
  ((t.axis 2 .az).state, (t.axis 2 .az).need, (t.claim 2 .az).map (·.watts))
/-- A member lost before the start, at it, and as the last one; a member that arrives alone, last, or not yet, with points
to track and without; and the axes an abort releases. -/
theorem witness_AbortGroupEnds_life :
    [groupView ((gathered .waiting base).groupLoses 0 2 .fault), groupView ((gathered .starting base).groupLoses 0 2 .locked),
        groupView ((alone (gathered .running base)).groupLoses 0 2 .offline),
        groupView ((alone (gathered .running base)).groupLoses 0 3 .offline), groupView ((gathered .formed base).groupLoses 0 2 .fault)]
      = [(some (.aborted, some .fault, [.dropped, .planned]), .idle), (some (.running, none, [.dropped, .moving]), .idle),
        (some (.partly, none, [.dropped, .arrived]), .idle), (some (.running, none, [.planned, .arrived]), .slewing),
        (some (.formed, none, [.planned, .planned]), .slewing)]
    ∧ [groupView ((gathered .running base).judgeMember 2), groupView ((alone (gathered .running base)).judgeMember 2),
        groupView ((astir (gathered .running base)).judgeMember 2), groupView ((pointed (gathered .running base)).judgeMember 2),
        groupView ((queued 19 (pointed (gathered .running base))).judgeMember 2),
        groupView ((queued 20 (pointed (gathered .running base))).judgeMember 2)]
      = [(some (.running, none, [.arrived, .planned]), .idle), (some (.done, none, [.arrived, .arrived]), .idle),
        (some (.running, none, [.planned, .planned]), .slewing), (some (.running, none, [.arrived, .planned]), .tracking),
        (some (.running, none, [.arrived, .planned]), .trackWait), (some (.running, none, [.arrived, .planned]), .idle)]
    ∧ [AxisState.moving, .stopping, .held, .testing, .releasing, .engaging, .braked].map letGo
      = [(.stopping, some ⟨.hold, none⟩, some 900), (.stopping, some ⟨.hold, none⟩, some 900),
        (.held, some ⟨.hold, none⟩, some 150), (.testing, some ⟨.hold, none⟩, some 150),
        (.releasing, some ⟨.hold, none⟩, some 150), (.engaging, some ⟨.hold, none⟩, some 150),
        (.braked, some ⟨.group 0, some 200⟩, some 900)] :=
  ⟨by decide +kernel, by decide +kernel, by decide +kernel⟩
theorem witness_AbortGroupEnds :
    Witnessed (.abortGroup 1 0) [(base, fun _ => (groupOf 0).isNone)]
    ∧ Witnessed (.abortGroup 1 1)
      [(base, fun b => (b.group 0).isNone), (grouped .done base, fun b => (b.group 0).any Group.finished),
        (grouped .formed base, fun b => (b.group 0).any fun x => x.state == .formed),
        (grouped .running base, fun b => (b.group 0).any fun x => x.state.live)] :=
  ⟨witnessed (by decide +kernel), witnessed (by decide +kernel)⟩
/-- The longest distance keeps the bound, and 90 degrees of azimuth at the defaults take 600 ds warm and 1,200 ds cold. -/
theorem witness_LeastDuration :
    (0 < 540000 ∧ 0 < (AxisCfg.default .az).v ∧ 0 < (AxisCfg.default .az).a ∧ 1600 * 540000 ≤ 2 ^ 64)
    ∧ axisMin (AxisCfg.default .az) false 90000 = 600 ∧ axisMin (AxisCfg.default .az) true 90000 = 1200 := by
  decide +kernel
/-- Shares with and without a distance, at a duration the axis can keep, and a group that a grant is written into. -/
theorem witness_SharesAtADuration :
    (shareAt (AxisCfg.default .az) 90000 900).rate = 1334 ∧ 40 * 90000 ≤ 900 * (3 * 2000)
    ∧ shareAt (AxisCfg.default .az) 0 900 = ⟨0, 150⟩
    ∧ ∃ x, (grouped .formed base).group 0 = some x ∧ (x.members.map (·.dish)).Nodup
      ∧ ∀ m ∈ x.members, m.state = .planned := by
  refine ⟨by decide +kernel, by decide +kernel, by decide +kernel, _, rfl, by decide +kernel, by decide +kernel⟩
/-- A stretch that fits at once, and one that fits at no duration. -/
theorem witness_StretchTakesTheLeast :
    (600 ≤ 6000 ∧ base.stretch [(2, base.planTo 2 ⟨90000, 30000⟩)] 600 6000 = some 600)
    ∧ 5990 ≤ 6000 ∧ (short base).stretch [(2, base.planTo 2 ⟨90000, 30000⟩)] 5990 6000 = none := by decide +kernel

/-! ### Witnesses: weather and protection -/

/-- The first weather entry in a state, with a reading. -/
def wxIn (x : WxState) (b : Block) : Block :=
  let r : Reading := { mean := 10, gust := 20, ambient := 0, precip := .none, clamp := false, expiry := 9 }
  b.setWx 0 { state := x, warm := 3, reading := some r, faults := 0 }
/-- Two ACTIVE entries with a wind, a level, and a host force. -/
def wind (lv : Level) (mean gust : Nat) (force : Bool) (b : Block) : Block :=
  let r : Reading := { mean := mean, gust := gust, ambient := 0, precip := .none, clamp := false, expiry := 9 }
  let t := (b.setWx 0 { state := .active, warm := 3, reading := some r, faults := 0 }).setWx 1
    { state := .active, warm := 3, reading := some r, faults := 0 }
  { t with weather := { t.weather with level := lv, force := force } }
/-- The timers of the level. -/
def timed (unknown : Option Nat) (hold : RelHold) (watchHold : Option Nat) (b : Block) : Block :=
  { b with weather := { b.weather with unknown := unknown, hold := hold, watchHold := watchHold } }
/-- The reply of STOW_NOW under a set force: level, force and the hold's state alone, running as at second 450 of Table 5-7
and complete as at second 1,500 (R97, Table 10-8). -/
theorem test_level_reply :
    [RelHold.running 150, .complete].map (fun h =>
        fieldBytes (timed none h none { base with weather := { base.weather with level := .stow, force := true } }).levelReply)
      = [[0x02, 0x01, 0x01], [0x02, 0x01, 0x02]] := by decide +kernel
/-- The timers of GET_WEATHER at reset, each its state and its elapsed seconds behind their presence byte: the unknown timer
running from 0, the release hold and the watch release hold stopped (R101, Table 5-4). -/
theorem test_weather_reply_timers :
    slice (fieldBytes State.reset.block.weatherReply) 142 12 = [0x01, 0x01, 0, 0, 0, 0, 0, 0, 0, 0, 0, 0] := by decide +kernel
/-- Level and cause after an evaluation. -/
def leveled (b : Block) : Level × LevelCause := (b.evaluate.weather.level, b.evaluate.weather.cause)

theorem witness_WeatherRequests :
    Witnessed (.weatherEnable 1 16) [(base, fun _ => (wxOf 16).isNone)]
    ∧ Witnessed (.weatherEnable 1 17)
      [(wxIn .disabled base, fun b => (b.wx 0).state == .disabled), (wxIn .active base, fun b => (b.wx 0).state == .active)]
    ∧ Witnessed (.weatherDisable 1 25) [(base, fun _ => (wxOf 25).isNone)]
    ∧ Witnessed (.weatherDisable 1 17)
      [(wxIn .disabled base, fun b => (b.wx 0).state == .disabled), (base, fun b => (b.wx 0).state == .warming),
        (wxIn .active base, fun b => (b.wx 0).state == .active)]
    ∧ Witnessed (.forgetWeather 1 0) [(base, fun _ => true)] ∧ Witnessed (.forgetWeather 1 1) [(wxIn .active base, fun _ => true)] :=
  ⟨witnessed (by decide +kernel), witnessed (by decide +kernel), witnessed (by decide +kernel),
    witnessed (by decide +kernel), witnessed (by decide +kernel), witnessed (by decide +kernel)⟩
/-- A heard weather node disabled reports its reach ahead of its entry; one not heard its entry alone. -/
theorem witness_WeatherRequests_reach :
    [(wxIn .active base).setNode (.wx 0) { base.node (.wx 0) with reach := .degraded, missA := 3 }, wxIn .active base].map
        (fun b => match exec (.weatherDisable 1 17) (st b) with
          | .next t => (reports t.block).map (·.1)
          | _ => [])
      = [[.nodeReach, .weatherNode], [.weatherNode]] := by decide +kernel
/-- The level's changes at their thresholds, one below each, and under a force. -/
theorem witness_LevelRules :
    Witnessed (.stowNow 1) [(base, fun _ => true)] ∧ Witnessed (.stowRelease 1) [(base, fun _ => true)]
    ∧ leveled (wind .calm 180 0 false base) = (.stow, .mean) ∧ leveled (wind .calm 179 240 false base) = (.stow, .gust)
    ∧ leveled (timed (some 60) .stopped none base) = (.stow, .unknown)
    ∧ leveled (timed (some 59) .stopped none base) = (.calm, .calmed)
    ∧ leveled (wind .watch 119 159 true base) = (.stow, .force) ∧ leveled (wind .calm 120 0 false base) = (.watch, .mean)
    ∧ leveled (wind .calm 119 160 false base) = (.watch, .gust) ∧ leveled (wind .calm 119 159 false base) = (.calm, .calmed)
    ∧ leveled (timed none .stopped (some 300) (wind .watch 99 129 false base)) = (.calm, .calmed)
    ∧ (leveled (timed none .stopped (some 299) (wind .watch 99 129 false base))).1 = .watch
    ∧ leveled (timed none (.running 1200) none (wind .stow 139 189 false base)) = (.watch, .release)
    ∧ (leveled (timed none (.running 1199) none (wind .stow 139 189 false base))).1 = .stow
    ∧ (leveled (timed none .complete none (wind .stow 139 189 true base))).1 = .stow :=
  ⟨witnessed (by decide +kernel), witnessed (by decide +kernel), by decide +kernel⟩
/-- Dish 3 in a mode with a context. -/
def saved (m : Mode) (b : Block) : Block :=
  (modeIn m b).modDish 2 fun x => { x with context := some ⟨.shed, .idle, some ⟨1000, 40000⟩, 0⟩ }
/-- Dish 3 STOWING, its elevation HELD under the STOW need at a position. -/
def rising (pos : Int) (b : Block) : Block :=
  (modeIn .stowing b).modAxis 2 .el fun a =>
    { a with state := .held, need := some ⟨.stow, some 1500⟩, reported := a.reported.map fun r => { r with pos := pos } }
/-- The mode of dish 3, the states and intents of its axes, and whether it waits for its stow claim. -/
def stowView (b : Block) : Mode × AxisState × AxisState × Bool :=
  ((b.dish 2).mode, (b.axis 2 .az).state, (b.axis 2 .el).state, b.account.stowq.contains 2)
/-- The stow move's last step short of the arrival tolerance, at a tenth of a second and with the clock unset. -/
theorem witness_LevelRules_moves :
    [stowView ((rising 88980 base).pursueStow 2), stowView ((rising 88979 base).pursueStow 2),
        stowView ((modeIn .stowing base).pursueStow 2), stowView ((modeIn .stowing base).finishStow 2),
        stowView ((rising 88980 base).finishStow 2)]
      = [(.stowing, .braked, .engaging, false), (.stowing, .braked, .moving, false), (.stowing, .braked, .braked, false),
        (.stowed, .braked, .braked, false), (.stowing, .braked, .held, false)]
    ∧ (base.axis 2 .el).cfg.tol = 20 ∧ 0 < (base.axis 2 .el).cfg.stowRate
    ∧ (((rising 88000 (clockless base)).pursueStow 2).axis 2 .el).order
      = .move 89000 (ceilDiv 10000 (base.axis 2 .el).cfg.stowRate) 0 := by decide +kernel
/-- The level entered and left; a dish taken into stow at and off its elevation, under a lock and under the latch; the
reasons that come and go; and what leaving STOW makes of a dish, with and without a context. -/
theorem witness_LevelRules_dishes :
    [stowView (wind .calm 180 0 false base).evaluate, stowView (wind .calm 180 0 false (modeIn .stowed base)).evaluate]
      = [(.stowing, .braked, .braked, false), (.stowed, .braked, .braked, false)]
    ∧ (timed none (.running 1200) none (wind .stow 139 189 false (modeIn .stowBlocked base))).evaluate.weather.level = .watch
    ∧ [stowView ((short (stormy base)).takeIntoStow 2), stowView ((short (stormy (axesIn .held base))).takeIntoStow 2),
        stowView ((modeIn .idle (rising 88980 base)).takeIntoStow 2), stowView ((lockOn .axisEl base).takeIntoStow 2),
        stowView ((latched base).takeIntoStow 2), stowView ((stormy base).takeIntoStow 2)]
      = [(.stowing, .braked, .braked, true), (.stowing, .engaging, .held, true), (.stowing, .braked, .engaging, false),
        (.stowBlocked, .braked, .braked, false), (.stowBlocked, .braked, .braked, false), (.stowing, .braked, .braked, false)]
    ∧ [(((stormy base).takeIntoStow 2).claim 2 .el).map (·.cls), (((short (stormy base)).takeIntoStow 2).claim 2 .el).map (·.cls)]
      = [some .stow, none]
    ∧ [stowView ((rising 88000 (latched base)).settleBlocks 2), stowView ((rising 88000 base).settleBlocks 2),
        stowView ((stormy (modeIn .stowBlocked base)).settleBlocks 2),
        stowView ((latched (modeIn .stowBlocked base)).settleBlocks 2)]
      = [(.stowBlocked, .braked, .engaging, false), (.stowing, .braked, .held, false), (.stowing, .braked, .braked, false),
        (.stowBlocked, .braked, .braked, false)]
    ∧ [stowView ((rising 88000 base).leaveStowDish 2), stowView ((modeIn .stowed base).leaveStowDish 2),
        stowView ((saved .stowBlocked { base with site := { base.site with cfg := { base.site.cfg with resume := .manual } } }
          ).leaveStowDish 2), stowView ((saved .stowed base).leaveStowDish 2), stowView (base.leaveStowDish 2)]
      = [(.idle, .braked, .engaging, false), (.idle, .braked, .braked, false), (.stowed, .braked, .braked, false),
        (.returning, .braked, .braked, false), (.idle, .braked, .braked, false)] := by decide +kernel
/-- The points of dish 3 by their elevations, its clamp episode and the CLAMPED reports after an evaluation. -/
def raisedAs (els : List Int) (opened : Bool) (hi : Int) (b : Block) : List (Int × Bool) × Bool × List (List Int) :=
  let u := (b.modAxis 2 .el fun a => { a with cfg := { a.cfg with hi := hi } }).modDish 2 fun x => { x with clampOpen := opened }
  let t := (u.setQueue 2 (els.map fun e => ⟨1010000, 0, e, 0, false⟩)).evaluate
  ((t.queue 2).map fun p => (p.el, p.clamped), (t.dish 2).clampOpen, ((reports t).filter fun r => r.1 == .clamped).map (·.2))
/-- Points at the watch minimum and below it as WATCH is entered from CALM, with the episode open and closed and under an
upper limit below the minimum; as it is entered from STOW; and as no level is entered. -/
theorem witness_LevelRules_raised :
    [raisedAs [20000, 19999, 10000] false 89500 (wind .calm 120 0 false base),
        raisedAs [19999] true 89500 (wind .calm 120 0 false base), raisedAs [19999] false 15000 (wind .calm 120 0 false base),
        raisedAs [20000] false 89500 (wind .calm 120 0 false base),
        raisedAs [19999] false 89500 (timed none (.running 1200) none (wind .stow 139 189 false base)),
        raisedAs [19999] false 89500 base]
      = [([(20000, false), (20000, true), (20000, true)], true, [[1010000, 0, 19999, 0, 20000]]),
        ([(20000, true)], true, []), ([(15000, true)], true, [[1010000, 0, 19999, 0, 15000]]), ([(20000, false)], false, []),
        ([(20000, true)], true, [[1010000, 0, 19999, 0, 20000]]), ([(19999, false)], false, [])] := by decide +kernel
/-- Every row of Table 6-3, an IDLE dish with its axes HELD and braked, a RETURNING one with each intent. -/
theorem witness_LevelRules_contexts :
    let going := fun (w : Work) => modeIn .returning (base.modDish 2 fun x => { x with intent := some ⟨w, ⟨1000, 40000⟩⟩ })
    [axesIn .held base, base, modeIn .trackWait base, modeIn .tracking base, modeIn .slewWait base, modeIn .slewing base,
        going .idle, going .tracking].map (fun b => b.contextNow 2 .wind)
      = [⟨.wind, .idle, some ⟨0, 30000⟩, 1000000⟩, ⟨.wind, .idle, none, 1000000⟩, ⟨.wind, .tracking, none, 1000000⟩,
        ⟨.wind, .tracking, none, 1000000⟩, ⟨.wind, .idle, none, 1000000⟩, ⟨.wind, .idle, none, 1000000⟩,
        ⟨.wind, .idle, some ⟨1000, 40000⟩, 1000000⟩, ⟨.wind, .tracking, none, 1000000⟩] := by decide +kernel
theorem witness_ShedAndResume :
    Witnessed (.shed 1 3)
      [(modeIn .stowed base, fun b => b.shedRefused 2 == some .state),
        (modeIn .stowing base, fun b => b.shedRefused 2 == some .wind), (clockless base, fun b => b.shedRefused 2 == some .noTime),
        (latched base, fun b => b.shedRefused 2 == some .estop), (stormy base, fun b => b.shedRefused 2 == some .wind),
        (lockOn .axisAz base, fun b => b.shedRefused 2 == some .locked),
        (axesIn .offline base, fun b => b.shedRefused 2 == some .state),
        (queued 20 base, fun b => (b.shedRefused 2).isNone), (short base, fun b => (b.shedRefused 2).isNone),
        (base, fun b => (b.shedRefused 2).isNone && (b.askMove 2 ⟨0, 15000⟩).toOption.isSome),
        (base.modAxis 2 .el fun a => { a with cfg := { a.cfg with v := 1 } },
          fun b => (b.shedRefused 2).isNone && (b.askMove 2 ⟨0, 15000⟩).toOption.isNone)]
    ∧ Witnessed (.resume 1 3)
      [(base, fun b => b.resumeChecked 2 == some .state), (stormy (saved .stowed base), fun b => b.resumeChecked 2 == some .wind),
        (latched (saved .stowed base), fun b => b.resumeChecked 2 == some .estop),
        (lockOn .dish (saved .stowed base), fun b => b.resumeChecked 2 == some .locked),
        (queued 20 (saved .shedDwell base), fun b => b.resumeChecked 2 == some .busy),
        (saved .shedDwell base, fun b => (b.resumeChecked 2).isNone)]
    ∧ Witnessed (.clearContext 1 3)
      [(base, fun b => (b.dish 2).context.isNone), (saved .shedding base, fun b => (b.dish 2).mode == .shedding),
        (saved .stowed base, fun b => (b.dish 2).context.isSome && b.weather.level != .stow),
        (stormy (saved .stowed base), fun b => b.weather.level == .stow)] :=
  ⟨witnessed (by decide +kernel), witnessed (by decide +kernel), witnessed (by decide +kernel)⟩
/-- Dish 3's mode, whether a context and an intent stand, the phase of its move, and its axes' states. -/
structure MoveView where
  mode : Mode
  context : Bool
  intent : Bool
  phase : Option Phase
  az : AxisState
  el : AxisState
  deriving DecidableEq
/-- The view of a block. -/
def moveView (b : Block) : MoveView :=
  ⟨(b.dish 2).mode, (b.dish 2).context.isSome, (b.dish 2).intent.isSome, (b.move 2).map (·.phase), (b.axis 2 .az).state,
    (b.axis 2 .el).state⟩
/-- A context of a dish that tracked, or that held without a position. -/
def savedAs (w : Work) (b : Block) : Block := (modeIn .stowed b).modDish 2 fun x => { x with context := some ⟨.wind, w, none, 0⟩ }
/-- A resume that returns at once, waits, is BUSY and is not planned; to IDLE without a position; to a track with a point at
the clock and with none left. -/
theorem witness_ShedAndResume_resume :
    [moveView (base.resumeDish 2), moveView ((saved .stowed base).resumeDish 2), moveView ((queued 19 (saved .stowed base)).resumeDish 2),
        moveView ((queued 20 (saved .stowed base)).resumeDish 2),
        moveView (((saved .stowed base).modAxis 2 .el fun a => { a with cfg := { a.cfg with v := 1 } }).resumeDish 2),
        moveView ((savedAs .idle base).resumeDish 2),
        moveView ((savedAs .tracking (base.setQueue 2 [⟨1000000, 0, 30000, 0, false⟩])).resumeDish 2),
        moveView ((savedAs .tracking (base.setQueue 2 [⟨999999, 0, 30000, 0, false⟩])).resumeDish 2)]
      = [⟨.idle, false, false, none, .braked, .braked⟩, ⟨.returning, false, true, some .starting, .braked, .braked⟩,
        ⟨.returning, false, true, some .waiting, .braked, .braked⟩, ⟨.idle, false, false, none, .braked, .braked⟩,
        ⟨.idle, false, false, none, .braked, .braked⟩, ⟨.idle, false, false, none, .braked, .braked⟩,
        ⟨.returning, false, true, some .starting, .braked, .braked⟩, ⟨.idle, false, false, none, .braked, .braked⟩] := by
  decide +kernel
/-- What a resume's return would be refused for. -/
theorem witness_ShedAndResume_refused :
    [(saved .stowed base).resumeRefused 2, (queued 20 (saved .stowed base)).resumeRefused 2,
        ((saved .stowed base).modAxis 2 .el fun a => { a with cfg := { a.cfg with v := 1 } }).resumeRefused 2,
        (queued 20 (savedAs .idle base)).resumeRefused 2, (queued 20 (savedAs .tracking base)).resumeRefused 2,
        base.resumeRefused 2]
      = [none, some .busy, some .tooLong, none, none, none] := by decide +kernel
/-- Dish 3 in a mode under an internal move of its azimuth, its axes HELD under it. -/
def inMove (m : Mode) (w : Work) (ph : Phase) (b : Block) : Block :=
  let move : InternalMove :=
    { plan := { target := ⟨1000, 30000⟩, dist := ⟨1000, 0⟩ }, n0 := 20, nStar := some 30, grant := none, phase := ph
      start := if ph = .running then some 1000000 else none, arrived := .both false }
  ((b.bothAxes fun k s => s.modAxis 2 k fun a => { a with state := .held, need := some ⟨.internal, some 200⟩ }).setMove 2
    (some move)).modDish 2 fun x => { x with mode := m, intent := some ⟨w, ⟨1000, 30000⟩⟩ }
/-- A move that starts or still waits for an axis; a shed and returns that arrive, at the start time and before it; moves
delivered, refused and lost. -/
theorem witness_ShedAndResume_moves :
    [moveView ((inMove .returning .idle .starting base).startMove 2),
        moveView (((inMove .returning .idle .starting base).modAxis 2 .el fun a => { a with state := .releasing }).startMove 2),
        moveView ((inMove .shedding .idle .running base).judgeMove 2), moveView ((inMove .returning .idle .running base).judgeMove 2),
        moveView ((inMove .returning .idle .running { base with site := { base.site with clock := some 999999 } }).judgeMove 2),
        moveView ((inMove .returning .tracking .running base).judgeMove 2),
        moveView ((inMove .returning .tracking .running (pointed base)).judgeMove 2),
        moveView ((inMove .returning .tracking .running (queued 19 (pointed base))).judgeMove 2),
        moveView ((inMove .returning .tracking .running (queued 20 (pointed base))).judgeMove 2)]
      = [⟨.returning, false, true, some .running, .moving, .held⟩, ⟨.returning, false, true, some .starting, .held, .releasing⟩,
        ⟨.shedDwell, false, false, none, .engaging, .engaging⟩, ⟨.idle, false, false, none, .held, .held⟩,
        ⟨.returning, false, true, some .running, .held, .held⟩, ⟨.idle, false, false, none, .held, .held⟩,
        ⟨.tracking, false, false, none, .held, .held⟩, ⟨.trackWait, false, false, none, .held, .held⟩,
        ⟨.idle, false, false, none, .held, .held⟩]
    ∧ [moveView ((inMove .returning .idle .waiting base).beginMove 2 (some 30)), moveView ((inMove .returning .idle .waiting base).beginMove 2 none),
        moveView ((latched (inMove .returning .idle .waiting base)).beginMove 2 (some 30)),
        moveView ((saved .shedding (inMove .shedding .idle .running base)).loseMove 2),
        moveView ((inMove .returning .idle .running base).loseMove 2), moveView (base.loseMove 2)]
      = [⟨.returning, false, true, some .starting, .held, .held⟩, ⟨.returning, false, true, some .waiting, .held, .held⟩,
        ⟨.idle, false, false, none, .held, .held⟩, ⟨.idle, false, false, none, .held, .held⟩,
        ⟨.idle, false, false, none, .held, .held⟩, ⟨.idle, false, false, none, .braked, .braked⟩] := by decide +kernel
/-- A shed lost while an axis MOVES under a park request: stopped, the axis keeps no request and the dish its other one. -/
theorem witness_ShedAndResume_parked :
    let b := ((saved .shedding (inMove .shedding .idle .running base)).modAxis 2 .az fun a => { a with state := .moving }).modDish 2
      fun x => { x with parkReq := ⟨true, true⟩ }
    ((b.loseMove 2).dish 2).parkReq = ⟨false, true⟩ ∧ ((b.loseMove 2).axis 2 .az).state = .stopping
    ∧ ((b.loseMove 2).dish 2).context = none ∧ ((b.loseMove 2).dish 2).mode = .idle := by decide +kernel
/-- A WAITING return whose axes were LOCKED when it was asked ends when one becomes OFFLINE, and when a count rises (R65,
R116); nothing new ends nothing; tracking and a pending track end. -/
theorem witness_ShedAndResume_lost :
    let waits := inMove .returning .idle .waiting base
    let offline := axesIn .offline waits
    [moveView (Block.reactLost (axesIn .locked waits) offline 2), moveView (Block.reactLost offline offline 2),
        moveView (Block.reactLost offline (lockOn .axisEl offline) 2),
        moveView (Block.reactLost (modeIn .tracking base) (axesIn .faulted (modeIn .tracking base)) 2),
        moveView (Block.reactLost (asks .track (modeIn .trackWait base)) (lockOn .dish (asks .track (modeIn .trackWait base))) 2)]
      = [⟨.idle, false, false, none, .offline, .offline⟩, ⟨.returning, false, true, some .waiting, .offline, .offline⟩,
        ⟨.idle, false, false, none, .offline, .offline⟩, ⟨.idle, false, false, none, .faulted, .faulted⟩,
        ⟨.idle, false, false, none, .braked, .braked⟩]
    ∧ (waits.dish 2).group = none := by decide +kernel
/-- 52 LINK entries of other holders. -/
def manyLocks : Block :=
  let e := fun (n : Nat) =>
    ({ num := n + 1, kind := .axisAz, dish := 1, holder := n + 1, key := false, engaged := false, placed := 0
       stored := true } : LockEntry)
  { base with lockout := { base.lockout with entries := (List.range 52).map e, next := 53 } }
theorem witness_LockRequests :
    Witnessed (.placeLock 1 5 3 5) [(base, fun _ => (lockKindOf 5).isNone)]
    ∧ Witnessed (.placeLock 1 4 13 5) [(base, fun _ => (dishOf 13).isNone)]
    ∧ Witnessed (.placeLock 1 4 3 0) [(base, fun b => b.configured 2)]
    ∧ Witnessed (.placeLock 1 4 3 5)
      [(bare base, fun b => b.placeRefused .dish 2 5 == some .noSuch),
        (lockOn .dish base, fun b => b.placeRefused .dish 2 5 == some .duplicate),
        (manyLocks, fun b => b.placeRefused .dish 2 5 == some .tableFull), (base, fun b => (b.placeRefused .dish 2 5).isNone),
        (lockOn .axisAz base, fun b => (b.placeRefused .dish 2 5).isNone)]
    ∧ Witnessed (.removeLock 1 0 5) [(base, fun _ => true)]
    ∧ Witnessed (.removeLock 1 1 5)
      [(base, fun b => (b.lockEntry 1).isNone), (lockOn .dish base, fun b => (b.lockEntry 1).any fun e => e.holder == 5)]
    ∧ Witnessed (.removeLock 1 1 6) [(lockOn .dish base, fun b => (b.lockEntry 1).any fun e => e.holder == 5)] :=
  ⟨witnessed (by decide +kernel), witnessed (by decide +kernel), witnessed (by decide +kernel),
    witnessed (by decide +kernel), witnessed (by decide +kernel), witnessed (by decide +kernel),
    witnessed (by decide +kernel)⟩
/-- Runs of the key switch of dish 3. -/
def keyRuns (lockRun remoteRun : Nat) (b : Block) : Block := b.setKey 2 ⟨some (decide (0 < lockRun)), lockRun, remoteRun⟩
/-- Dish 3's KEY entry, just created. -/
def keyed : Block := (keyRuns 2 0 base).keyAnswer 2 true
/-- What tells the lock entries apart. -/
def lockView (b : Block) : List (Nat × Bool × Nat × LockKind × Nat) :=
  b.lockout.entries.map fun e => (e.num, e.key, e.holder, e.kind, e.dish.val + 1)
/-- The KEY entry comes with the third LOCKOUT answer and goes with the third REMOTE one. -/
theorem witness_LockRequests_keys :
    [lockView ((keyRuns 1 0 base).keyAnswer 2 true), lockView keyed, lockView (keyed.keyAnswer 2 true),
        lockView ((keyRuns 0 1 keyed).keyAnswer 2 false), lockView ((keyRuns 0 2 keyed).keyAnswer 2 false),
        lockView ((keyRuns 2 0 (lockOn .dish base)).keyAnswer 2 true), lockView ((keyRuns 2 0 keyed).keyAnswer 2 true)]
      = [[], [(1, true, 0, .dish, 3)], [(1, true, 0, .dish, 3)], [(1, true, 0, .dish, 3)], [],
        [(1, false, 5, .dish, 3), (2, true, 0, .dish, 3)], [(1, true, 0, .dish, 3)]] := by decide +kernel
/-- A lock write met by one that waits, queued behind one in progress, begun at once, and without room. -/
theorem witness_LockRequests_writes :
    let ask : LockAsk := ⟨7, 1, true⟩
    let kinds := fun (b : Block) => (b.site.running.map (·.req.kind), b.site.waiting.map fun w => (w.kind, w.locks.length))
    [kinds ((writes true [.lock, .full] base).askLock ask), kinds ((writes true [.full, .counts] base).askLock ask),
        kinds (base.askLock ask), kinds ((writes true [.full, .counts, .full] base).askLock ask)]
      = [(some .counts, [(.lock, 1), (.full, 0)]), (some .counts, [(.lock, 1), (.full, 0), (.counts, 0)]), (some .lock, []),
        (some .counts, [(.full, 0), (.counts, 0), (.full, 0)])]
    ∧ ((writes true [.full, .counts, .full] base).askLock ask).site.storeFault = true := by decide +kernel
/-- What the rise and the fall of a count make of an axis in each state, and of a zone. -/
theorem witness_LockRequests_counts :
    let rise := fun (x : AxisState) => (((lockOn .axisAz (paid (axesIn x base))).lockRise 2 .az).axis 2 .az).state
    let fall := fun (x : AxisState) => (((axesIn x base).lockFall 2 .az).axis 2 .az).state
    ([.braked, .testing, .releasing, .held, .moving, .stopping, .engaging, .locked, .faulted, .offline] : List AxisState).map rise
      = [.locked, .locked, .engaging, .engaging, .stopping, .stopping, .engaging, .locked, .faulted, .offline]
    ∧ [fall .locked, fall .offline] = [.braked, .offline] ∧ (base.axis 2 .az).stage = .none
    ∧ 0 < (lockOn .axisAz base).axisLocks 2 .az
    ∧ [(((lockOn .zoneSurf base).zoneLockRise 2 .surf).zone 2 .surf).mode, (((bare base).zoneLockRise 2 .surf).zone 2 .surf).mode,
        (((base.modZone 2 .surf fun x => { x with fault := true }).zoneLockRise 2 .surf).zone 2 .surf).mode,
        (((base.modZone 2 .surf fun x => { x with mode := .locked }).zoneLockFall 2 .surf).zone 2 .surf).mode]
      = [.locked, .off, .fault, .idle]
    ∧ ((base.placeLock .zoneSurf 2 5 false).1.axis 2 .az).state = .braked
    ∧ ((base.placeLock .axisAz 2 5 false).1.axis 2 .az).state = .locked
    ∧ (((lockOn .axisAz (axesIn .locked base)).takeLock
        { num := 1, kind := .axisAz, dish := 2, holder := 5, key := false, engaged := false, placed := 0, stored := true }
        ).axis 2 .az).state = .braked := by decide +kernel
/-- The surface of dish 3 at fault, its contactor reported. -/
def zoneFault (on_ : Bool) (b : Block) : Block := b.modZone 2 .surf fun x => { x with fault := true, reported := some on_ }
theorem witness_ServiceResets :
    Witnessed (.resetFault 1 ⟨0, 1⟩) [(base, fun _ => (axisOf 1).isNone)]
    ∧ Witnessed (.resetFault 1 ⟨0, 6⟩)
      [(bare base, fun b => !b.configured 2), (base, fun b => !b.axisMends 2 .az), (axesIn .faulted base, fun b => b.axisMends 2 .az),
        (lockOn .axisAz (axesIn .faulted (inMove .returning .idle .waiting base)), fun b =>
          b.axisMends 2 .az && moveView (b.mendAxis 2 .az) == ⟨.idle, false, false, none, .locked, .faulted⟩)]
    ∧ Witnessed (.resetFault 1 ⟨1, 26⟩) [(base, fun _ => (zoneOf 26).isNone)]
    ∧ Witnessed (.resetFault 1 ⟨1, 6⟩)
      [(bare base, fun b => !b.configured 2), (zoneFault true base, fun b => !b.zoneMends 2 .surf),
        (zoneFault false base, fun b => b.zoneMends 2 .surf)]
    ∧ Witnessed (.resetFault 1 ⟨2, 6⟩) [(base, fun _ => true)] ∧ Witnessed (.resetWear 1 1) [(base, fun _ => (axisOf 1).isNone)]
    ∧ Witnessed (.resetWear 1 25)
      [(base.modAxis 11 .el fun a => { a with state := .held }, fun b => (b.axis 11 .el).state == .held),
        (base, fun b => (b.axis 11 .el).state == .braked)] :=
  ⟨witnessed (by decide +kernel), witnessed (by decide +kernel), witnessed (by decide +kernel),
    witnessed (by decide +kernel), witnessed (by decide +kernel), witnessed (by decide +kernel),
    witnessed (by decide +kernel)⟩
/-- A running group whose member's azimuth has the group's need. -/
def moving (b : Block) : Block :=
  (grouped .running b).modAxis 2 .az fun a => { a with state := .moving, need := some ⟨.group 0, some 100⟩ }
theorem witness_EstopLatch :
    (((moving base).setMark .input true).group 0).map (fun y => (y.state, y.members.map fun m => (m.state, m.drop)))
      = some (.aborted, [(.dropped, some .estop)])
    ∧ (st base).started
    ∧ Witnessed (.clearEstop 1)
      [({ base with site := { base.site with marks := base.site.marks.put .input true } }, fun b => b.site.marks.any),
        (base, fun b => !b.site.marks.any && !b.site.estop), (latched base, fun b => b.site.estop)]
    ∧ base.site.marks.get (.cabinet 11) = false ∧ (base.site.marks.put (.cabinet 11) true).get (.cabinet 11) = true
    ∧ ((axesIn .held base).axis 2 .az).state = .held ∧ ((axesIn .testing base).axis 2 .az).state = .testing
    ∧ ∃ x, (grouped .running base).group 0 = some x ∧ x.state.live = true :=
  ⟨by decide +kernel, base_started, witnessed (by decide +kernel), by decide +kernel, by decide +kernel, by decide +kernel,
    by decide +kernel, _, rfl, rfl⟩

/-- Every row of Table 6-7 and, for an axis with a need and a claim of 100 W, of R20; a move that waits for its power. -/
theorem witness_EstopLatch_rows :
    let stop := fun (b : Block) => b.setMark .input true
    let mode := fun (m : Mode) (r : Option DishReq) (b : Block) =>
      let t := stop ((modeIn m b).modDish 2 fun x => { x with pendingReq := r })
      ((t.dish 2).mode, (t.dish 2).pendingReq, ((t.settleBlocks 2).dish 2).mode)
    let axis := fun (b : Block) =>
      let t := stop (paid (b.modAxis 2 .az fun a => { a with need := some ⟨.hold, none⟩ }))
      let a := t.axis 2 .az
      (a.state, a.stage, a.need.isSome, a.opDue, (t.claim 2 .az).isSome)
    let shed := stop ((headOf (.internal 2) [] (modeIn .shedding base)).setMove 2 (some
      { plan := { target := ⟨1000, 30000⟩, dist := ⟨1000, 0⟩ }, n0 := 20, nStar := none, grant := none, phase := .waiting
        start := none, arrived := .both false }))
    [mode .idle (some .hold) base, mode .trackWait (some .track) base, mode .stowed none (stormy base), mode .stowed none base,
        mode .stowing none (stormy base), mode .stowBlocked none (stormy base)]
      = [(.idle, none, .idle), (.idle, none, .idle), (.stowed, none, .stowed), (.idle, none, .idle),
        (.stowing, none, .stowBlocked), (.stowBlocked, none, .stowBlocked)]
    ∧ [Mode.tracking, .slewWait, .slewing, .shedding, .shedDwell, .returning].all
        (fun m => mode m none base == (.idle, none, .idle)) = true
    ∧ [axis (base.modAxis 2 .az fun a => { a with stage := .beacon }), axis base, axis (axesIn .testing base),
        axis (axesIn .engaging base), axis (axesIn .moving base)]
      = [(.braked, .none, false, none, false), (.braked, .none, false, none, true), (.braked, .none, false, none, false),
        (.engaging, .none, false, none, true), (.engaging, .none, false, some 8000, true)]
    ∧ shed.move 2 = none ∧ shed.waits (.internal 2) = false
    ∧ (stop (stormy (examined true 150 base))).account.stowq = [] := by decide +kernel

/-! ### Witnesses: field lines and timers -/

/-- A visit of cabinet 3 with what it does on its lines. -/
def visiting (a b : LinePhase) (t : Block) : Block :=
  t.setVisit (some { node := .cab 2, a := a, b := b, sentAt := 5000, answers := [], heardA := true, heardB := false })
/-- Line A in a state after a run of failed echoes. -/
def lineIn (x : LineState) (run : Nat) (b : Block) : Block :=
  b.setLine .a { b.line .a with state := x, echoRun := run, breakStart := if x = .brk then some 4000 else none }
/-- A running group with a start and a duration. -/
def running (b : Block) : Block := (grouped .running b).modGroup 0 fun x => { x with start := some 900000, nStar := some 20 }
/-- An answer of cabinet 3 to its last order, with a status number. -/
def answerOf (seq status : Byte) : List Byte := withCrc ([3, seq, status, 0, 28] ++ List.replicate 28 0)

/-- An answer of a cabinet that shows its axes braked, its contactors, its drives' temperature and its two switches. -/
def cabSays (acc : Acceptance) (on_ : Bool) (driveTemp : Int) (lockout estop : Bool) : Answer :=
  ⟨acc, .cab { az := told false, el := told false (pos := 30000), surfTemp := 40, driveTemp := driveTemp, surfOn := on_
               driveOn := on_, lockout := lockout, estop := estop }⟩
/-- A reading a weather node answers. -/
def wxSays (acc : Acceptance) (mean : Nat) (fault : Bool) : Answer :=
  ⟨acc, .wx { mean := mean, gust := 20, ambient := 0, precip := some .none, fault := fault }⟩
/-- The node of cabinet 3 before its visit settles, and the visit it is in. -/
def settling (r : Reach) (miss : Nat) (heardA : Bool) (answers : List Answer) (b : Block) : Block :=
  let t := b.setNode (.cab 2) { b.node (.cab 2) with reach := r, missA := miss, missB := 2 }
  t.setVisit (some
    { node := .cab 2, a := .window, b := .window, sentAt := 5000, answers := answers, heardA := heardA, heardB := false })
/-- The reach and the counts of cabinet 3 after the visit. -/
def settledAs (b : Block) : Reach × Nat × Nat :=
  let x := b.endVisit.node (.cab 2)
  (x.reach, x.missA, x.missB)
/-- What an answer of cabinet 3 leaves: its stop mark, its azimuth, its surface's mismatch, its cold flag, its key's run. -/
def handedAs (a : Answer) (b : Block) : Bool × AxisState × Option Nat × Bool × Nat :=
  let t := b.hand (.cab 2) a
  (t.site.marks.get (.cabinet 2), (t.axis 2 .az).state, (t.zone 2 .surf).mismatch, t.cold 2, t.lockout.keys[2].lockRun)
/-- Node 17 reached. -/
def near17 (b : Block) : Block := b.setNode (.wx 0) { b.node (.wx 0) with reach := .reachable }
/-- The queue of dish 3 and its mode after the beginning of a cycle. -/
def consumedAs (times : List Nat) (b : Block) : List Nat × Mode :=
  let t := ((modeIn .tracking b).setQueue 2 (times.map fun t => ⟨t, 0, 30000, 0, false⟩)).beginCycle
  ((t.queue 2).map (·.time), (t.dish 2).mode)
/-- A queue that runs out and one that does not; a visit's four ends of reach; answers handed, refused, of a cabinet that is
away, two in one visit; the temperatures where the cold flag falls, stands and rises; a reading taken, at the target, a
fault, and one of a disabled entry; a polarity that waits. -/
theorem witness_CycleEvents_handed :
    [consumedAs [999999, 1000000, 1000001] base, consumedAs [999999, 1000000] base] =
      [([1000000, 1000001], .tracking), ([], .idle)]
    ∧ [settledAs (settling .reachable 2 false [] base), settledAs (settling .reachable 1 false [] base),
        settledAs (settling .unreachable 3 true [] base), settledAs (settling .unknown 2 false [] base),
        settledAs (settling .unknown 1 true [] base),
        settledAs (settling .unknown 0 true [cabSays .accepted false 0 false false] base)]
      = [(.unreachable, 3, 3), (.degraded, 2, 3), (.degraded, 0, 3), (.unreachable, 3, 3), (.unknown, 0, 3),
        (.degraded, 0, 3)]
    ∧ [handedAs (cabSays .accepted false (-101) true false) base, handedAs (cabSays .accepted true (-100) true true) base,
        handedAs (cabSays .accepted true (-100) false false) (cold base),
        handedAs (cabSays .accepted true (-80) false false) (cold base),
        handedAs (cabSays .refused true (-80) true true) base, handedAs (cabSays .accepted true (-80) true true) (away base)]
      = [(false, .braked, none, true, 1), (true, .braked, some 5000, false, 1), (false, .braked, some 5000, true, 0),
        (false, .braked, some 5000, false, 0), (true, .faulted, none, false, 0), (true, .braked, none, false, 0)]
    ∧ (base.handAll (.cab 2) [cabSays .accepted false 0 false true, cabSays .accepted false 0 false false]).site.estop = true
    ∧ [(wxIn .warming base, wxSays .accepted 10 false), (wxIn .active base, wxSays .accepted 751 false),
        (wxIn .active base, wxSays .accepted 10 true), (wxIn .disabled base, wxSays .accepted 10 false),
        (wxIn .active base, wxSays .refused 10 true)].map
        (fun p => let e := ((near17 p.1).hand (.wx 0) p.2).wx 0; (e.state, e.warm, e.reading.map (·.mean), e.faults))
      = [(.warming, 4, some 10, 0), (.active, 3, some 750, 0), (.warming, 0, none, 1), (.disabled, 3, some 10, 0),
        (.active, 3, some 10, 0)]
    ∧ ((base.setLine .a { base.line .a with newPol := some true }).beginCycle.line .a).inverted = true
    ∧ (base.node (.cab 2)).reach ≠ .unreachable := by
  decide +kernel
/-- The visit of a cabinet that has left the set: its answers' stop flags, and no other part. -/
theorem witness_CycleEvents_left :
    [bare (settling .unknown 2 true [cabSays .accepted true 0 true true, cabSays .refused true 0 true false] base),
        bare (settling .unknown 2 true [cabSays .accepted true 0 true true] base)].map
        (fun b => (b.endVisit.site.estop, b.endVisit.site.marks.get (.cabinet 2), (b.endVisit.zone 2 .surf).reported,
          b.endVisit.lockout.keys[2].lockRun, (b.endVisit.node (.cab 2)).missA))
      = [(true, false, none, 0, 2), (true, true, none, 0, 2)] := by decide +kernel
theorem witness_CycleEvents :
    base.field.visit = none ∧ base.field.todo = [] ∧ (visiting .sending .unused base).field.visit.isSome = true
    ∧ (toVisit [.cab 2] base).field.todo ≠ [] ∧ ((toVisit [.cab 2] base).field.todo.dropWhile fun r => !base.inCycle r) ≠ []
    ∧ ((toVisit [.cab 2] (bare base)).field.todo.dropWhile fun r => !(bare base).inCycle r) = []
    ∧ base.lineCarries .a = true ∧ (lineIn .brk 0 base).lineCarries .a = false ∧ base.inCycle (.cab 2) = true
    ∧ (base.group 0).bind Group.deadline = none ∧ ((running base).group 0).bind Group.deadline = some 912000
    ∧ [({ base with field := { base.field with successor := true } }).nextCycle.field.successor,
        (toVisit [.cab 2] { base with field := { base.field with successor := true } }).nextCycle.field.successor]
      = [false, true] := by
  decide +kernel
/-- The lag timer and episode of dish 3's azimuth MOVING under TRACK, by the position answered and the cycle's site time: half
way between the positions 0 and 1,000 of two points, and before both. -/
def lagOf (pos : Int) (now : Option Nat) (lag : Option LagRun) : Option LagRun × Bool :=
  let q : List Point := [⟨1000000, 0, 30000, 0, false⟩, ⟨1000100, 0, 30000, 1000, false⟩]
  let u := (({ base with field := { base.field with cycleTime := now } }).setQueue 2 q).modAxis 2 .az fun a =>
    { a with state := .moving, order := .track [], lag := lag, lagOpen := true }
  let a := (u.judgeLag 2 .az (told true (pos := pos))).axis 2 .az
  (a.lag, a.lagOpen)
theorem witness_CycleEvents_lag :
    [lagOf 550 (some 1000050) (some ⟨4000, 7⟩), lagOf 551 (some 1000050) none, lagOf 449 (some 1000050) (some ⟨4000, 7⟩),
        lagOf 551 (some 999999) (some ⟨4000, 7⟩), lagOf 551 none (some ⟨4000, 7⟩)]
      = [(none, false), (some ⟨5000, 500⟩, true), (some ⟨4000, 500⟩, true), (none, true), (none, true)]
    ∧ (base.axis 2 .az).cfg.lagTol = 50
    ∧ ((base.setQueue 2 ([1000000, 1000001, 1000002, 1000003, 1000004].map fun t => ⟨t, 0, 30000, 5, false⟩)).trackPoints 2 .az).map
        (fun p => (p.time, p.pos)) = [(1000001, 5), (1000002, 5), (1000003, 5)] := by decide +kernel
theorem witness_LineEvents :
    ((visiting .sending .unused base).field.visit.map fun v => v.phase .a) = some .sending
    ∧ ((visiting .window .unused base).field.visit.map fun v => v.phase .a) = some .window
    ∧ ((lineIn .up 3 base).line .a).echoRun < 4 ∧ 4 ≤ ((lineIn .up 4 base).line .a).echoRun
    ∧ ((lineIn .down 0 base).line .a).state = .down ∧ ((lineIn .brk 0 base).line .a).breakStart = some 4000
    ∧ (base.line .a).breakStart = none ∧ readAnswer (.cab 2) [] = none
    ∧ (readAnswer (.cab 2) (answerOf 0 9)).map (fun f => (f.addr, f.answered, f.status)) = some (3, 0, 9)
    ∧ (base.node (.cab 2)).seq = 0 ∧ (base.node (.cab 2)).lastStatus = none := by decide +kernel
theorem witness_AxisTimers :
    let due := fun x => (axesIn x base).modAxis 2 .az fun a =>
      { a with opDue := some 6000, parkDue := some 6000, holdDue := some 6000, lag := some ⟨4000, 0⟩ }
    (base.axis 2 .az).opDue = none ∧ (base.axis 2 .az).parkDue = none ∧ (base.axis 2 .az).holdDue = none
    ∧ (base.axis 2 .az).lag = none ∧ ((due .testing).axis 2 .az).opDue = some 6000
    ∧ ((due .releasing).axis 2 .az).state = .releasing ∧ ((due .engaging).axis 2 .az).state = .engaging
    ∧ ((due .held).axis 2 .az).parkDue = some 6000 ∧ ((due .offline).axis 2 .az).holdDue = some 6000
    ∧ ((due .moving).axis 2 .az).lag = some ⟨4000, 0⟩ ∧ ((due .moving).axis 2 .az).lagOpen = false
    ∧ ((base.modAxis 2 .az fun a => { a with stage := .beacon }).axis 2 .az).stage = .beacon := by decide +kernel
/-- The beacon asserted for exactly its interval, and a millisecond less: the azimuth of dish 3, which waits on it. -/
theorem witness_AxisTimers_beacon :
    let lit := fun (since : Nat) =>
      { base.modAxis 2 .az (fun a => { a with stage := .beacon }) with
        site := { base.site with beacon := true, beaconSince := some since } }
    [((lit 0).settleBeacon.axis 2 .az).state, ((lit 1).settleBeacon.axis 2 .az).state] = [.releasing, .braked]
    ∧ base.site.cfg.warn = 5 ∧ base.site.tb = 5000 ∧ base.site.startup ≠ .starting := by decide +kernel
/-- The park timer started, running on and stopped; and a step whose event finds the interval met. -/
theorem witness_AxisTimers_park :
    let park := fun (m : Mode) (x : AxisState) (n : Option Need) (due : Option Nat) =>
      (((((modeIn m (axesIn x base)).modAxis 2 .az fun a => { a with need := n, parkDue := due })).settlePark 2 .az).axis 2 .az).parkDue
    [park .idle .held none none, park .idle .held (some ⟨.hold, none⟩) (some 7), park .idle .held (some ⟨.stow, none⟩) (some 7),
        park .shedDwell .held none (some 7), park .idle .braked none (some 7)] = [some 35000, some 7, none, none, none]
    ∧ (let lit := { base.modAxis 2 .az (fun a => { a with stage := .beacon }) with
         site := { base.site with beacon := true, beaconSince := some 1 } }
       (match step { st lit with pending := [.beaconIntervalMet] } with
       | .next t => (t.block.axis 2 .az).state == .releasing && t.block.site.beacon && t.block.site.tb == 5001
       | _ => false) = true) := by decide +kernel
theorem witness_OtherTimers :
    (base.wx 0).reading = none ∧ (wxIn .active base).wx 0 ≠ base.wx 0 ∧ ((wxIn .warming base).wx 0).reading.isSome = true
    ∧ base.weather.unknown = none ∧ (timed (some 3) (.running 4) (some 5) base).weather.unknown = some 3
    ∧ (timed (some 3) (.running 4) (some 5) base).weather.hold = .running 4
    ∧ (timed (some 3) (.running 4) (some 5) base).weather.watchHold = some 5 ∧ base.heater.clear = none
    ∧ ({ base with heater := { base.heater with clear := some 599 } }).heater.clear ≠ none
    ∧ ((base.modZone 2 .drive fun x => { x with prewarm := some 9000 }).zone 2 .drive).prewarm = some 9000
    ∧ ((base.modDish 2 fun x => { x with dwell := .running 9000 }).dish 2).dwell = .running 9000
    ∧ base.site.cfg.resume = .auto ∧ (base.zone 2 .surf).mismatch = none
    ∧ ((base.modZone 2 .surf fun x => { x with mismatch := some 4000 }).zone 2 .surf).mismatch = some 4000 := by
  decide +kernel
/-- An episode that clears, the surface of dish 3 at the shed threshold or a minute below it, automatic sheds on. -/
def clearing (n minutes : Nat) (b : Block) : Block :=
  let t := b.modZone 2 .surf fun x => { x with meltMin := minutes }
  { t with heater := { t.heater with episode := true, clear := some n }
           site := { t.site with cfg := { t.site.cfg with autoShed := true } } }
/-- Whether the episode runs, and dish 3's mode and deferral. -/
def shedView (b : Block) : Bool × Mode × Bool := (b.heater.episode, (b.dish 2).mode, (b.dish 2).deferred)
/-- The sweep at a reading's expiry and a second before; the level's timers counted, kept and stopped; a release hold at its
time; the clear timer at its 600th tick; sheds made, not made and deferred at an episode's end, and made as CALM is entered. -/
theorem witness_OtherTimers_ticks :
    let sec := fun (n : Nat) (b : Block) => { b with weather := { b.weather with sec := n } }
    let full := (base.site.cfg.shedThreshold, base.site.cfg.relHold)
    [((sec 9 (wxIn .active base)).sweep.wx 0).state, ((sec 8 (wxIn .active base)).sweep.wx 0).state,
        ((sec 9 (wxIn .warming base)).sweep.wx 0).state] = [.warming, .active, .warming]
    ∧ ((sec 9 (wxIn .warming base)).sweep.wx 0).reading = none
    ∧ (let u := (Block.advanceTimers (timed (some 3) (.running 4) none base) (timed (some 3) (.running 4) (some 0) base)).weather
       (u.unknown, u.hold, u.watchHold) = (some 4, .running 5, some 0))
    ∧ [(timed none (.running 1199) none (wind .stow 139 189 true base)).settleTimers.weather.hold,
        (timed none (.running 1200) none (wind .stow 139 189 true base)).settleTimers.weather.hold,
        (timed none .complete none (wind .stow 140 189 true base)).settleTimers.weather.hold] = [.running 1199, .complete, .stopped]
    ∧ full = (full.1, 1200)
    ∧ [(clearing 598 full.1 base), (clearing 599 full.1 base), (clearing 599 (full.1 - 1) base),
        (clearing 599 full.1 (stormy base)), (clearing 599 full.1 (latched base))].map (fun b => shedView (Block.advanceClear b b))
      = [(true, .idle, false), (false, .shedding, false), (false, .idle, false), (false, .idle, true), (false, .idle, false)]
    ∧ shedView ((base.modDish 2 fun x => { x with deferred := true }).deferredSheds) = (false, .shedding, false) := by
  decide +kernel

end Sys2Proof.Machine.Test
end

-- ==== Settling: what the end of an event leaves ====
section
/-! What the settling of an event leaves, read off the blot of Laws/Still.lean. -/

open Sys2Proof

namespace Sys2Proof.Machine

/-- An event's end keeps everything that settling never touches. -/
theorem still_finish (b : Block) : b.finish.still = b.still := by
  unfold Block.finish
  split <;> simp

/-- Blocks of one blot have each axis of one blot. -/
theorem axis_still_of_still {b c : Block} (h : b.still = c.still) (d : DishId) (k : AxisKind) :
    (b.axis d k).still = (c.axis d k).still := by
  have e := congrArg (fun x : Block => (x.axes[d]).get k) h
  simp only [Block.still, Fin.getElem_fin, Vector.getElem_map] at e
  cases k <;> exact e

/-- Blocks of one blot have each dish of one blot. -/
theorem dish_still_of_still {b c : Block} (h : b.still = c.still) (d : DishId) : (b.dish d).still = (c.dish d).still := by
  have e := congrArg (fun x : Block => x.dishes[d]) h
  simp only [Block.still, Fin.getElem_fin, Vector.getElem_map] at e
  exact e

/-- Blocks of one blot have each zone of one blot. -/
theorem zone_still_of_still {b c : Block} (h : b.still = c.still) (d : DishId) (z : ZoneKind) :
    (b.zone d z).still = (c.zone d z).still := by
  have e := congrArg (fun x : Block => (x.heater.zones[d]).get z) h
  simp only [Block.still, Fin.getElem_fin, Vector.getElem_map] at e
  cases z <;> exact e

/-- Settles O4: the blot of an event's end is the blot of its beginning, and every field named stands in the blot. -/
theorem settlingFrame : Obligations.SettlingFrame := by
  intro b
  have same := still_finish b
  have heater := congrArg Block.heater same
  have account := congrArg Block.account same
  have lockout := congrArg Block.lockout same
  have link := congrArg Block.link same
  have site := congrArg Block.site same
  refine ⟨(congrArg Block.points same :), (congrArg Block.weather same :), (congrArg Block.field same :),
    (congrArg Account.breq account :), (congrArg Account.floor account :), (congrArg Heater.cold heater :),
    (congrArg Heater.snowForce heater :), (congrArg Heater.episode heater :), (congrArg Heater.clear heater :),
    (congrArg Heater.serving heater :), (congrArg Heater.slot heater :), (congrArg Lockout.next lockout :),
    (congrArg Lockout.keys lockout :), (congrArg Link.rx link :), (congrArg Link.rxBytes link :),
    (congrArg Link.counters link :),
    (congrArg Link.rate link :), (congrArg Link.out link :), (congrArg Link.nextId link :), (congrArg Link.mask link :),
    (congrArg Site.cfg site :), (congrArg Site.clock site :), (congrArg Site.tb site :), (congrArg Site.estop site :),
    (congrArg Site.marks site :), (congrArg Site.startup site :), (congrArg Site.store site :),
    (congrArg Site.running site :),
    (congrArg Site.waiting site :), (congrArg Site.storeFault site :), fun d k => ?_, fun d => ?_, fun d z => ?_⟩
  · have axis := axis_still_of_still same d k
    exact ⟨(congrArg Axis.cfg axis :), (congrArg Axis.reported axis :), (congrArg Axis.releases axis :),
      (congrArg Axis.verify axis :), (congrArg Axis.fault axis :), (congrArg Axis.holdDue axis :)⟩
  · have dish := dish_still_of_still same d
    exact ⟨(congrArg Dish.trims dish :), (congrArg Dish.clampOpen dish :), (congrArg Dish.deferred dish :)⟩
  · have zone := zone_still_of_still same d z
    exact (congrArg (fun x : Zone => { x with
      duty := (b.zone d z).duty, commanded := (b.zone d z).commanded, mode := (b.zone d z).mode }) zone :)

end Sys2Proof.Machine
end

-- ==== Ranges: the parameters of the settings requests ====
section
/-! The range checks of CONFIG_AXIS and CONFIG_SITE, as the inequalities they stand for. -/

open Sys2Proof

namespace Sys2Proof.Machine

/-- An integer lies within a range. -/
theorem within_iff (lo hi x : Int) : within lo hi x = true ↔ lo ≤ x ∧ x ≤ hi := by simp [within]

/-- A natural number lies within a range. -/
theorem withinN_iff (lo hi x : Nat) : withinN lo hi x = true ↔ lo ≤ x ∧ x ≤ hi := by simp [withinN]

/-- The link rates are the four of R167. -/
theorem rateOf_isSome_iff (n : Nat) :
    (rateOf n).isSome = true ↔ n = 57600 ∨ n = 115200 ∨ n = 230400 ∨ n = 460800 := by
  unfold rateOf
  repeat' split
  all_goals simp [*]

/-- CONFIG_AXIS takes the parameters of Table 1-2 under the conditions of R2. -/
theorem axisParamsOk_iff (p : AxisParams) (k : AxisKind) : axisParamsOk p k = true ↔
    (1 ≤ p.v ∧ p.v ≤ 20000) ∧ (1 ≤ p.a ∧ p.a ≤ 20000) ∧ p.pmax ≤ 30000 ∧ p.phold ≤ 5000 ∧ p.ptrack ≤ 10000
    ∧ p.pstow ≤ 30000 ∧ (1 ≤ p.parkDelay ∧ p.parkDelay ≤ 600) ∧ (1000 ≤ p.wear ∧ p.wear ≤ 1000000)
    ∧ (1 ≤ p.tol ∧ p.tol ≤ 1000) ∧ (1 ≤ p.lagTol ∧ p.lagTol ≤ 10000) ∧ p.lo < p.hi ∧ p.phold ≤ p.ptrack
    ∧ (k = .az → -270000 ≤ p.lo ∧ p.hi ≤ 270000 ∧ p.stowRate = 0 ∧ p.pstow = 0)
    ∧ (k = .el → 0 ≤ p.lo ∧ p.hi ≤ 90000 ∧ (14 ≤ p.stowRate ∧ p.stowRate ≤ 20000) ∧ p.lo ≤ 15000 ∧ 89000 ≤ p.hi) := by
  unfold axisParamsOk
  cases k with
  | az =>
    simp only [Bool.and_eq_true, decide_eq_true_iff, within_iff, withinN_iff]
    simp only [hwLo, hwHi, reduceCtorEq, forall_const, false_implies, and_true]
    omega
  | el =>
    simp only [Bool.and_eq_true, decide_eq_true_iff, within_iff, withinN_iff]
    simp only [hwLo, hwHi, shedEl, stowEl, reduceCtorEq, forall_const, false_implies, true_and]
    omega

/-- Settles O21: each range check is its inequalities. -/
theorem parameterRanges : Obligations.ParameterRanges := by
  refine ⟨axisParamsOk_iff, fun p => ?_⟩
  unfold siteParamsOk
  simp only [Bool.and_eq_true, decide_eq_true_eq, within_iff, withinN_iff, rateOf_isSome_iff, List.contains_iff_mem,
    List.mem_cons, List.not_mem_nil, or_false, and_assoc, Nat.zero_le, true_and]

end Sys2Proof.Machine
end

-- ==== Requests: what a request taken answers; CONFIG_AXIS ====
section
/-! What a request the link takes at once does, by the form of its owner's answer; records replaced twice and as they
stood; and CONFIG_AXIS from these. -/

open Sys2Proof

namespace Sys2Proof.Machine

/-! ### The forms of an owner's answer (R170, R171) -/

section Owner
variable {s : State} {c : Instr} {own : Nat → Block → Answered}

/-- A request whose owner answers at once. -/
theorem request_replies (h : s.takes c) {b : Block} {code : Code} {body : List Fld} {after : After}
    (e : own s.block.link.nextId (s.found c) = (b, some (⟨code, body⟩, after))) :
    s.request c own = .next (s.replies b code body after) := by
  rw [request_taken own h, e]

/-- A request whose owner refuses it. -/
theorem request_refused (h : s.takes c) {code : Code}
    (e : own s.block.link.nextId (s.found c) = refuse (s.found c) code) :
    s.request c own = .next (s.refuses c code) := request_replies h e

/-- A request whose reply waits. -/
theorem request_waits (h : s.takes c) {b : Block} (e : own s.block.link.nextId (s.found c) = (b, none)) :
    s.request c own = .next (s.ends b) := by
  rw [request_taken own h, e]

end Owner

/-! ### A record replaced twice, or by itself -/

/-- An axis pair whose place is replaced twice holds the later value. -/
@[simp] theorem PerAxis.set_set {α : Type} (p : PerAxis α) (k : AxisKind) (x y : α) :
    (p.set k x).set k y = p.set k y := by cases k <;> rfl

/-- An axis pair whose place is replaced by what stands there is unchanged. -/
@[simp] theorem PerAxis.set_get {α : Type} (p : PerAxis α) (k : AxisKind) : p.set k (p.get k) = p := by
  cases k <;> rfl

/-- A zone pair whose place is replaced twice holds the later value. -/
@[simp] theorem PerZone.set_set {α : Type} (p : PerZone α) (k : ZoneKind) (x y : α) :
    (p.set k x).set k y = p.set k y := by cases k <;> rfl

/-- A zone pair whose place is replaced by what stands there is unchanged. -/
@[simp] theorem PerZone.set_get {α : Type} (p : PerZone α) (k : ZoneKind) : p.set k (p.get k) = p := by
  cases k <;> rfl

/-- A table whose place is replaced by what stands there is unchanged. -/
theorem vec_set_self {α : Type} {n : Nat} (v : Vector α n) (i : Fin n) : v.set i v[i] = v := by
  ext j hj
  rw [Vector.getElem_set]
  split
  · next e => subst e; rfl
  · rfl

/-- An axis replaced twice is replaced by the later. -/
@[simp] theorem setAxis_setAxis (b : Block) (d : DishId) (k : AxisKind) (x y : Axis) :
    (b.setAxis d k x).setAxis d k y = b.setAxis d k y := by
  unfold Block.setAxis
  simp [Vector.set_set]

/-- An axis replaced by itself. -/
@[simp] theorem setAxis_self (b : Block) (d : DishId) (k : AxisKind) : b.setAxis d k (b.axis d k) = b := by
  unfold Block.setAxis Block.axis
  rw [PerAxis.set_get, vec_set_self]

/-- A zone replaced twice is replaced by the later. -/
@[simp] theorem setZone_setZone (b : Block) (d : DishId) (z : ZoneKind) (x y : Zone) :
    (b.setZone d z x).setZone d z y = b.setZone d z y := by
  unfold Block.setZone
  simp [Vector.set_set]

/-- A zone replaced by itself. -/
@[simp] theorem setZone_self (b : Block) (d : DishId) (z : ZoneKind) : b.setZone d z (b.zone d z) = b := by
  unfold Block.setZone Block.zone
  rw [PerZone.set_get, vec_set_self]

/-- A dish replaced twice is replaced by the later. -/
@[simp] theorem setDish_setDish (b : Block) (d : DishId) (x y : Dish) :
    (b.setDish d x).setDish d y = b.setDish d y := by
  unfold Block.setDish
  simp [Vector.set_set]

/-- A dish replaced by itself. -/
@[simp] theorem setDish_self (b : Block) (d : DishId) : b.setDish d (b.dish d) = b := by
  unfold Block.setDish Block.dish
  rw [vec_set_self]

/-- A change of an axis is its replacement. -/
theorem modAxis_eq (b : Block) (d : DishId) (k : AxisKind) (f : Axis → Axis) :
    b.modAxis d k f = b.setAxis d k (f (b.axis d k)) := rfl

/-! ### CONFIG_AXIS (R2, R10, R67) -/

/-- The states that take CONFIG_AXIS are those of R2. -/
theorem takesConfig_iff (a : Axis) : a.takesConfig = true ↔
    a.state = .offline ∨ a.state = .locked ∨ a.state = .faulted ∨ (a.state = .braked ∧ a.stage = .none) := by
  cases state : a.state <;> simp [Axis.takesConfig, state]

/-- A verify flag judged anew, on the axis record (R10). -/
theorem judgeWear_eq (b : Block) (d : DishId) (k : AxisKind) :
    let a := b.axis d k
    let worn := verifyOf a.releases a.cfg.wear
    let put := b.setAxis d k { a with verify := worn }
    b.judgeWear d k =
      if worn = true ∧ a.verify = false then put.tell .wear (axisNum d k) [f4 a.releases] else put := by
  simp [Block.judgeWear, modAxis_eq]

/-- A new axis configuration, with the verify flag it gives and the report where the flag becomes set. -/
theorem configureAxis_eq (b : Block) (d : DishId) (k : AxisKind) (cfg : AxisCfg) :
    let a := b.axis d k
    let worn := decide (cfg.wear < a.releases)
    let put := b.setAxis d k { a with cfg := cfg, verify := worn }
    b.configureAxis d k cfg =
      (if worn = true ∧ a.verify = false then put.tell .wear (axisNum d k) [f4 a.releases] else put).recomputeFloor := by
  simp [Block.configureAxis, modAxis_eq, judgeWear_eq, verifyOf]

/-- Settles O22, by the owner's checks in their order. -/
theorem configAxisTakesEffect : Obligations.ConfigAxisTakesEffect := by
  intro s tag subj p taken
  refine ⟨fun unnamed => ?_, fun d k named => ?_⟩
  · exact request_refused taken (by simp [ownConfigAxis, unnamed])
  · have state := takesConfig_iff (s.block.axis d k)
    refine ⟨fun busy => ?_, fun free bad => ?_, fun free good => ?_⟩
    · rw [← state, Bool.not_eq_true] at busy
      exact request_refused taken (by simp [ownConfigAxis, named, busy])
    · rw [← state] at free
      exact request_refused taken (by simp [ownConfigAxis, named, free, bad])
    · rw [← state] at free
      refine request_replies taken ?_
      have owned : ownConfigAxis subj p (s.found (.configAxis tag subj p))
          = done ((s.found (.configAxis tag subj p)).configureAxis d k (axisParamsCfg p)) := by
        simp [ownConfigAxis, named, free, good]
      rw [owned, configureAxis_eq]
      rfl

end Sys2Proof.Machine
end

-- ==== Reset: the records after a reset ====
section
/-! Every record as a reset leaves it, read place by place, and the laws of the records at power-on. -/

open Sys2Proof

namespace Sys2Proof.Machine

/-! ### Tables given by their entries -/

/-- A twelve-place table read at a place. -/
@[simp] theorem vec12_get {α : Type} (f : DishId → α) (d : DishId) : (vec12 f)[d] = f d := by
  fin_cases d <;> rfl

/-- An eight-place table read at a place. -/
@[simp] theorem vec8_get {α : Type} (f : Fin 8 → α) (g : Fin 8) : (vec8 f)[g] = f g := by
  fin_cases g <;> rfl

/-! ### The records after a reset -/

section
variable (st : Store)

@[simp] theorem axis_afterReset (d : DishId) (k : AxisKind) : (Block.afterReset st).axis d k = Axis.reset k := by
  unfold Block.axis Block.afterReset
  simp only [vec12_get]
  cases k <;> rfl
@[simp] theorem claim_afterReset (d : DishId) (k : AxisKind) : (Block.afterReset st).claim d k = none := by
  unfold Block.claim Block.afterReset
  simp only [vec12_get]
  cases k <;> rfl
@[simp] theorem zone_afterReset (d : DishId) (z : ZoneKind) : (Block.afterReset st).zone d z = Zone.reset z := by
  unfold Block.zone Block.afterReset
  simp only [vec12_get]
  cases z <;> rfl
@[simp] theorem dish_afterReset (d : DishId) : (Block.afterReset st).dish d = Dish.reset := vec12_get ..
@[simp] theorem queue_afterReset (d : DishId) : (Block.afterReset st).queue d = [] := vec12_get ..
@[simp] theorem move_afterReset (d : DishId) : (Block.afterReset st).move d = none := vec12_get ..
@[simp] theorem cold_afterReset (d : DishId) : (Block.afterReset st).cold d = false := vec12_get ..
@[simp] theorem group_afterReset (g : GroupId) : (Block.afterReset st).group g = none := vec8_get ..
@[simp] theorem wx_afterReset (n : WeatherId) :
    (Block.afterReset st).wx n = { state := .warming, warm := 0, reading := none, faults := 0 } := vec8_get ..
@[simp] theorem node_afterReset (r : NodeRef) : (Block.afterReset st).node r = Node.reset := by
  cases r
  · exact vec12_get ..
  · exact vec8_get ..
@[simp] theorem line_afterReset (l : Line) : (Block.afterReset st).line l = LineRec.reset := by cases l <;> rfl

/-- No stop mark stands after a reset. -/
theorem marks_afterReset : (Block.afterReset st).site.marks.any = false := by
  simp [StopMarks.any, Block.afterReset, allDishes, vec12]

/-- A reset brings every record to the value its chapter states. -/
theorem afterReset_atReset : (Block.afterReset st).AtReset := by
  refine ⟨fun d k => ⟨?_, claim_afterReset st d k, rfl⟩, fun d => ⟨?_, queue_afterReset st d, move_afterReset st d,
    cold_afterReset st d⟩, rfl, group_afterReset st, rfl, rfl, rfl, fun n => ?_, ?_, fun d z => ⟨?_, rfl⟩, rfl, rfl, rfl,
    rfl, fun d => vec12_get _ d, fun d k => ?_, fun d z => ?_, fun r => ?_, fun l => ?_, rfl, rfl, rfl, rfl, rfl, rfl,
    rfl, rfl, rfl, marks_afterReset st, rfl, rfl, rfl, rfl, rfl, rfl, rfl⟩
  · rw [axis_afterReset]
    cases k <;> simp [Axis.AtReset, Axis.reset]
  · rw [dish_afterReset]
    simp [Dish.AtReset, Dish.reset, PerAxis.both]
  · rw [wx_afterReset]
    simp
  · simp [Weather.AtReset, Block.afterReset]
  · rw [zone_afterReset]
    simp [Zone.AtReset, Zone.reset]
  · show ((vec12 fun _ => PerAxis.both false)[d]).get k = false
    rw [vec12_get]
    cases k <;> rfl
  · show ((vec12 fun _ => PerZone.both false)[d]).get z = false
    rw [vec12_get]
    cases z <;> rfl
  · rw [node_afterReset]
    simp [Node.AtReset, Node.reset]
  · rw [line_afterReset]
    simp [LineRec.AtReset, LineRec.reset]

/-- After a reset the event's end finds nothing to send. -/
theorem finish_afterReset : (Block.afterReset st).finish = Block.afterReset st := rfl

end

/-- Settles O3: RESET leaves the records after reset over the store as it stood. -/
theorem resetCommand : Obligations.ResetCommand :=
  fun s => ⟨{ s with block := Block.afterReset s.block.site.store }, rfl, afterReset_atReset _, rfl, rfl⟩

/-! ### The laws at power-on -/

/-- No axis claims after a reset. -/
theorem claimTotal_afterReset (st : Store) : (Block.afterReset st).claimTotal = 0 := by
  simp [Block.claimTotal, Block.claimWatts]

/-- No zone heats after a reset. -/
theorem heatTotal_afterReset (st : Store) : (Block.afterReset st).heatTotal = 0 := by
  simp [Block.heatTotal, Zone.watts, Zone.reset, dutyWatts, ceilDiv]

/-- Settles O2: the records stand at their reset values, and each law holds of them. -/
theorem resetState : Obligations.ResetState := by
  refine ⟨afterReset_atReset _, rfl, ?points, ?account, ?support, ?lock, ?link, ?write, ?outputs, ?engaged⟩
  case points =>
    refine ⟨?_, fun d => ?_⟩
    · simp [State.reset, allDishes]; rfl
    · simp [State.reset]
  case account =>
    simp only [Block.AccountLaw, State.reset, claimTotal_afterReset, heatTotal_afterReset]
    decide
  case support =>
    refine ⟨?_, ?_, ?_, fun _ => ⟨claim_afterReset _, fun d z => ?_, ?_⟩⟩
    · simp [State.reset, Block.afterReset]
    · simp [State.reset]
    · simp [State.reset, Zone.reset]
    · simp [State.reset, Zone.reset]
    · simp [State.reset, Block.afterReset]
  case lock =>
    simp [Block.LockLaw, State.reset, Block.afterReset, Store.erased, LocksLawful]
  case link =>
    simp [Block.LinkLaw, State.reset, Block.afterReset, Block.pendingCount, Block.answerCount]
  case write =>
    simp [Block.WriteLaw, State.reset, Block.afterReset]
  case outputs =>
    simp [Block.OutputsLaw, State.reset, Block.afterReset]
  case engaged =>
    intro started
    exact absurd rfl started

end Sys2Proof.Machine
end

-- ==== Axis operations: what each leaves and what each makes of its axis ====
section
/-! One rule per operation on one axis: what it leaves of the machine, what the axis becomes, what its claim becomes. -/

open Sys2Proof

namespace Sys2Proof.Machine

/-! ### What stands beside the axes, the dishes' park requests and the account's own doings -/

/-- The records no operation on one axis touches, and what is read from them. -/
abbrev Block.Outer (b c : Block) : Prop :=
  b.points = c.points ∧ b.planner = c.planner ∧ b.weather = c.weather ∧ b.heater = c.heater ∧ b.lockout = c.lockout
  ∧ b.field = c.field ∧ b.site = c.site ∧ b.queue = c.queue ∧ b.group = c.group ∧ b.move = c.move ∧ b.zone = c.zone
  ∧ b.cold = c.cold ∧ b.wx = c.wx ∧ b.node = c.node ∧ b.line = c.line ∧ b.configured = c.configured
  ∧ b.heard = c.heard ∧ b.axisLocks = c.axisLocks ∧ b.zoneLocks = c.zoneLocks ∧ b.dishLocked = c.dishLocked
  ∧ b.account.stowq = c.account.stowq ∧ b.account.breq = c.account.breq ∧ b.account.floor = c.account.floor
  ∧ b.link.out = c.link.out ∧ b.link.nextId = c.link.nextId ∧ b.link.mask = c.link.mask

/-- The axis records stand. -/
abbrev Block.SameAxes (b c : Block) : Prop := b.axes = c.axes ∧ b.axis = c.axis

/-- The dish records stand. -/
abbrev Block.SameDishes (b c : Block) : Prop := b.dishes = c.dishes ∧ b.dish = c.dish

/-- The claims stand. -/
abbrev Block.SameClaims (b c : Block) : Prop := b.account.claims = c.account.claims ∧ b.claim = c.claim

/-- The wait queue stands. -/
abbrev Block.SameQueue (b c : Block) : Prop := b.account.waitq = c.account.waitq ∧ b.waits = c.waits

/-- Every record but the report queue stands. -/
abbrev Block.SameRecords (b c : Block) : Prop :=
  b.Outer c ∧ b.SameAxes c ∧ b.SameDishes c ∧ b.SameClaims c ∧ b.SameQueue c ∧ b.account = c.account

/-- What is read from equal axes is equal. -/
theorem sameAxes_of_axes {b c : Block} (h : b.axes = c.axes) : b.SameAxes c :=
  ⟨h, by funext d k; simp only [Block.axis, h]⟩

/-- What is read from equal dishes is equal. -/
theorem sameDishes_of_dishes {b c : Block} (h : b.dishes = c.dishes) : b.SameDishes c :=
  ⟨h, by funext d; simp only [Block.dish, h]⟩

/-- What is read from equal claims is equal. -/
theorem sameClaims_of_claims {b c : Block} (h : b.account.claims = c.account.claims) : b.SameClaims c :=
  ⟨h, by funext d k; simp only [Block.claim, h]⟩

/-- What is read from an equal wait queue is equal. -/
theorem sameQueue_of_waitq {b c : Block} (h : b.account.waitq = c.account.waitq) : b.SameQueue c :=
  ⟨h, by funext w; simp only [Block.waits, h]⟩

/-- The blot of Laws/Beside.lean holds every record that an operation on one axis leaves. -/
theorem outer_of_beside {b c : Block} (h : b.beside = c.beside) : b.Outer c := by
  have link (f : Link → Link) : f b.beside.link = f c.beside.link := by rw [h]
  obtain ⟨planner, points, weather, heater, lockout, field, site⟩ := records_of_beside h
  have wx : b.wx = c.wx := by funext n; simp only [Block.wx, weather]
  have node : b.node = c.node := by funext r; cases r <;> simp only [Block.node, field]
  have locks : b.axisLocks = c.axisLocks := by funext d k; simp only [Block.axisLocks, lockout]
  refine ⟨points, planner, weather, heater, lockout, field, site, ?_, ?_, ?_, ?_, ?_, wx, node, ?_, ?_, ?_, locks, ?_, ?_,
    (congrArg (fun x : Block => x.account.stowq) h :), (congrArg (fun x : Block => x.account.breq) h :),
    (congrArg (fun x : Block => x.account.floor) h :), (congrArg (fun x : Block => x.link.out) h :),
    (congrArg (fun x : Block => x.link.nextId) h :), (congrArg (fun x : Block => x.link.mask) h :)⟩
  · funext d; simp only [Block.queue, points]
  · funext g; simp only [Block.group, planner]
  · funext d; simp only [Block.move, planner]
  · funext d z; simp only [Block.zone, heater]
  · funext d; simp only [Block.cold, heater]
  · funext l; cases l <;> simp only [Block.line, field]
  · funext d; simp only [Block.configured, field]
  · funext d; simp only [Block.heard, node]
  · funext d z; simp only [Block.zoneLocks, lockout]
  · funext d; simp only [Block.dishLocked, locks]

/-! ### Reports -/

/-- A report leaves every record. -/
@[simp] theorem report_records (b : Block) (kind : RepKind) (n : Nat) (pre post : List Fld) (prev : Option Fld) :
    (b.report kind n pre prev post).SameRecords b := by
  refine ⟨outer_of_beside (beside_report ..), ?_⟩
  obtain ⟨q, l, h⟩ := report_eq b kind n pre post prev
  rw [h]
  exact ⟨⟨rfl, rfl⟩, ⟨rfl, rfl⟩, ⟨rfl, rfl⟩, ⟨rfl, rfl⟩, rfl⟩

/-- A report without a previous state leaves every record. -/
@[simp] theorem tell_records (b : Block) (kind : RepKind) (n : Nat) (fs : List Fld) :
    (b.tell kind n fs).SameRecords b := report_records ..

/-- An axis's report leaves every record. -/
@[simp] theorem tellAxis_records (b : Block) (d : DishId) (k : AxisKind) (prev : AxisState) :
    (b.tellAxis d k prev).SameRecords b := report_records ..

/-! ### Replacements -/

@[simp] theorem beside_setAxis (b : Block) (d : DishId) (k : AxisKind) (x : Axis) :
    (b.setAxis d k x).beside = b.beside := rfl
@[simp] theorem beside_tell (b : Block) (kind : RepKind) (n : Nat) (fs : List Fld) :
    (b.tell kind n fs).beside = b.beside := beside_report ..


/-- An axis replaced leaves the rest. -/
@[simp] theorem setAxis_outer (b : Block) (d : DishId) (k : AxisKind) (x : Axis) :
    (b.setAxis d k x).Outer b ∧ (b.setAxis d k x).SameQueue b := ⟨outer_of_beside (b := b.setAxis d k x) rfl, rfl, rfl⟩

/-- A claim replaced leaves the rest. -/
@[simp] theorem setClaim_outer (b : Block) (d : DishId) (k : AxisKind) (x : Option Claim) :
    (b.setClaim d k x).Outer b ∧ (b.setClaim d k x).SameQueue b := ⟨outer_of_beside rfl, rfl, rfl⟩

/-- An examination called for leaves the rest. -/
@[simp] theorem callExamine_outer (b : Block) : b.callExamine.Outer b ∧ b.callExamine.SameQueue b :=
  ⟨outer_of_beside rfl, rfl, rfl⟩

/-- A park request set or cleared leaves the rest. -/
@[simp] theorem park_outer (b : Block) (d : DishId) (k : AxisKind) (v : Bool) :
    let t := b.modDish d fun x => { x with parkReq := x.parkReq.set k v }
    t.Outer b ∧ t.SameAxes b ∧ t.SameQueue b ∧ t.SameClaims b ∧ t.account = b.account :=
  ⟨outer_of_beside (beside_park ..), ⟨rfl, rfl⟩, ⟨rfl, rfl⟩, ⟨rfl, rfl⟩, rfl⟩

/-! ### The account -/

/-- The lag followed leaves everything but B_eff. -/
@[simp] theorem followLag_kept (b : Block) :
    b.followLag.Outer b ∧ b.followLag.SameAxes b ∧ b.followLag.SameDishes b ∧ b.followLag.SameClaims b
    ∧ b.followLag.SameQueue b := by
  refine ⟨outer_of_beside (beside_followLag b), ?_⟩
  unfold Block.followLag Block.tellBudget
  simp only []
  split
  · split
    · exact ⟨⟨rfl, rfl⟩, ⟨rfl, rfl⟩, ⟨rfl, rfl⟩, ⟨rfl, rfl⟩⟩
    · exact ⟨sameAxes_of_axes (by simp), sameDishes_of_dishes (by simp), sameClaims_of_claims (by simp),
        sameQueue_of_waitq (by simp)⟩
  · exact ⟨⟨rfl, rfl⟩, ⟨rfl, rfl⟩, ⟨rfl, rfl⟩, ⟨rfl, rfl⟩⟩

/-- A release leaves everything but the claim, B_eff and the call for an examination (R71). -/
@[simp] theorem releaseClaim_kept (b : Block) (d : DishId) (k : AxisKind) :
    (b.releaseClaim d k).Outer b ∧ (b.releaseClaim d k).SameAxes b ∧ (b.releaseClaim d k).SameDishes b
    ∧ (b.releaseClaim d k).SameQueue b := by
  refine ⟨outer_of_beside (beside_releaseClaim b d k), ?_⟩
  have axes : (b.releaseClaim d k).axes = b.axes := by unfold Block.releaseClaim; (repeat' split) <;> simp
  have dishes : (b.releaseClaim d k).dishes = b.dishes := by unfold Block.releaseClaim; (repeat' split) <;> simp
  have waitq : (b.releaseClaim d k).account.waitq = b.account.waitq := by
    unfold Block.releaseClaim; (repeat' split) <;> simp
  exact ⟨sameAxes_of_axes axes, sameDishes_of_dishes dishes, sameQueue_of_waitq waitq⟩

/-- A release removes the claim and no other (R71). -/
@[simp] theorem claim_releaseClaim (b : Block) (d e : DishId) (k j : AxisKind) :
    (b.releaseClaim d k).claim e j = if d = e ∧ k = j then none else b.claim e j := by
  unfold Block.releaseClaim
  split
  · next h =>
    split
    · next same => obtain ⟨rfl, rfl⟩ := same; exact h
    · rfl
  · split <;> simp

/-- A reduction leaves everything but the claim, B_eff and the call for an examination (R71). -/
@[simp] theorem reduceClaim_kept (b : Block) (d : DishId) (k : AxisKind) (w : Nat) :
    (b.reduceClaim d k w).Outer b ∧ (b.reduceClaim d k w).SameAxes b ∧ (b.reduceClaim d k w).SameDishes b
    ∧ (b.reduceClaim d k w).SameQueue b := by
  have beside : (b.reduceClaim d k w).beside = b.beside := by unfold Block.reduceClaim; (repeat' split) <;> simp
  have axes : (b.reduceClaim d k w).axes = b.axes := by unfold Block.reduceClaim; (repeat' split) <;> simp
  have dishes : (b.reduceClaim d k w).dishes = b.dishes := by unfold Block.reduceClaim; (repeat' split) <;> simp
  have waitq : (b.reduceClaim d k w).account.waitq = b.account.waitq := by
    unfold Block.reduceClaim; (repeat' split) <;> simp
  exact ⟨outer_of_beside beside, sameAxes_of_axes axes, sameDishes_of_dishes dishes, sameQueue_of_waitq waitq⟩

/-- A reduction lowers the claim to the figure, keeps its class, and leaves every other claim (R71). -/
@[simp] theorem claim_reduceClaim (b : Block) (d e : DishId) (k j : AxisKind) (w : Nat) :
    (b.reduceClaim d k w).claim e j
      = if d = e ∧ k = j then (b.claim d k).map fun c => { c with watts := min c.watts w } else b.claim e j := by
  unfold Block.reduceClaim
  by_cases same : d = e ∧ k = j
  · obtain ⟨rfl, rfl⟩ := same
    cases h : b.claim d k with
    | none => simp [h]
    | some c =>
      by_cases lower : w < c.watts
      · simp [lower, Nat.min_eq_right lower.le]
      · simp [lower, h, Nat.min_eq_left (Nat.not_lt.mp lower)]
  · rw [if_neg same]
    split
    · rfl
    · split <;> simp [same]

/-- A claim lowered to the hold figure of its axis (R3). -/
theorem reduceToHold_eq (b : Block) (d : DishId) (k : AxisKind) :
    b.reduceToHold d k = b.reduceClaim d k (b.axis d k).cfg.phold := rfl

/-- A withdrawal leaves everything but the wait queue and the call for an examination (R75). -/
@[simp] theorem withdraw_kept (b : Block) (w : Waiter) :
    (b.withdraw w).Outer b ∧ (b.withdraw w).SameAxes b ∧ (b.withdraw w).SameDishes b ∧ (b.withdraw w).SameClaims b := by
  refine ⟨outer_of_beside (beside_withdraw b w), ?_⟩
  unfold Block.withdraw
  split <;> exact ⟨⟨rfl, rfl⟩, ⟨rfl, rfl⟩, ⟨rfl, rfl⟩⟩

/-! ### Entering a state (R1, R3) -/

/-- What an axis keeps as it enters a state. -/
@[simp] theorem entered_fields (a : Axis) (st : AxisState) :
    (a.entered st).state = st ∧ (a.entered st).need = a.need ∧ (a.entered st).intent = a.intent
    ∧ (a.entered st).order = a.order ∧ (a.entered st).reported = a.reported ∧ (a.entered st).releases = a.releases
    ∧ (a.entered st).verify = a.verify ∧ (a.entered st).opDue = a.opDue ∧ (a.entered st).holdDue = a.holdDue
    ∧ (a.entered st).fault = a.fault ∧ (a.entered st).cfg = a.cfg
    ∧ (a.entered st).stage = (if st = .braked then a.stage else .none)
    ∧ (a.entered st).parkDue = (if st = .held then a.parkDue else none) :=
  ⟨rfl, rfl, rfl, rfl, rfl, rfl, rfl, rfl, rfl, rfl, rfl, rfl, rfl⟩

/-- An axis with another order: leaving a TRACK order ends the lag (R4, R22). -/
def Axis.ordered (a : Axis) (o : Order) : Axis :=
  match o with
  | .track _ => { a with order := o }
  | _ => { a with order := o, lag := none, lagOpen := false }

/-- What an axis keeps under another order. -/
@[simp] theorem ordered_fields (a : Axis) (o : Order) :
    (a.ordered o).order = o ∧ (a.ordered o).state = a.state ∧ (a.ordered o).stage = a.stage
    ∧ (a.ordered o).need = a.need ∧ (a.ordered o).intent = a.intent ∧ (a.ordered o).reported = a.reported
    ∧ (a.ordered o).releases = a.releases ∧ (a.ordered o).verify = a.verify ∧ (a.ordered o).parkDue = a.parkDue
    ∧ (a.ordered o).opDue = a.opDue ∧ (a.ordered o).holdDue = a.holdDue ∧ (a.ordered o).fault = a.fault
    ∧ (a.ordered o).cfg = a.cfg := by
  cases o <;> exact ⟨rfl, rfl, rfl, rfl, rfl, rfl, rfl, rfl, rfl, rfl, rfl, rfl, rfl⟩

/-- An order replaced, on the axis record. -/
theorem setOrder_eq (b : Block) (d : DishId) (k : AxisKind) (o : Order) :
    b.setOrder d k o = b.setAxis d k ((b.axis d k).ordered o) := by
  cases o <;> rfl

/-- The need removed, on the axis record. -/
theorem dropNeed_eq (b : Block) (d : DishId) (k : AxisKind) :
    b.dropNeed d k = b.setAxis d k { b.axis d k with need := none } := rfl

/-- A hold of the dish recorded, on the axis record. -/
theorem needHold_eq (b : Block) (d : DishId) (k : AxisKind) :
    b.needHold d k = b.setAxis d k { b.axis d k with need := some ⟨.hold, none⟩ } := rfl

/-- An axis's entry into a state leaves everything but the axis, its park request and the report queue. -/
@[simp] theorem enter_kept (b : Block) (d : DishId) (k : AxisKind) (st : AxisState) :
    (b.enter d k st).Outer b ∧ (b.enter d k st).SameClaims b ∧ (b.enter d k st).SameQueue b
    ∧ (b.enter d k st).account = b.account := by
  refine ⟨outer_of_beside (beside_enter b d k st), ?_⟩
  have account : (b.enter d k st).account = b.account := by
    unfold Block.enter
    simp only []
    repeat' split
    all_goals simp [modAxis_eq]
  exact ⟨sameClaims_of_claims (by rw [account]), sameQueue_of_waitq (by rw [account]), account⟩

/-- An axis as it enters a state, and every other axis as it was. -/
@[simp] theorem axis_enter (b : Block) (d e : DishId) (k j : AxisKind) (st : AxisState) :
    (b.enter d k st).axis e j = if d = e ∧ k = j then (b.axis d k).entered st else b.axis e j := by
  unfold Block.enter
  simp only []
  repeat' split
  all_goals simp [modAxis_eq, *]

end Sys2Proof.Machine
end

-- ==== Axis operations put together from entering, ordering and the claim ====
section
/-! The operations of Machine/Axis.lean that enter a state, each as what its axis, its claim and the rest become. -/

open Sys2Proof

namespace Sys2Proof.Machine

variable (b : Block) (d e : DishId) (k j : AxisKind)

/-! ### Engaging, stopping, moving -/

/-- An engagement is an order of BRAKE, 3 s and the entry (R16). -/
theorem engage_eq : b.engage d k = (b.setAxis d k
    { (b.axis d k).ordered .brake with opDue := some (b.site.tb + 3000) }).enter d k .engaging := by
  simp [Block.engage, setOrder_eq, modAxis_eq]

@[simp] theorem engage_kept :
    (b.engage d k).Outer b ∧ (b.engage d k).SameClaims b ∧ (b.engage d k).SameQueue b
    ∧ (b.engage d k).account = b.account := by
  refine ⟨outer_of_beside (beside_engage b d k), ?_⟩
  have account : (b.engage d k).account = b.account := by simp [engage_eq]
  exact ⟨sameClaims_of_claims (by rw [account]), sameQueue_of_waitq (by rw [account]), account⟩

@[simp] theorem axis_engage : (b.engage d k).axis e j = if d = e ∧ k = j then
    { (b.axis d k).ordered .brake with opDue := some (b.site.tb + 3000) }.entered .engaging else b.axis e j := by
  simp only [engage_eq, axis_enter, axis_setAxis]
  split <;> simp [*]

/-- A stop is an order of STOP, the intent and the entry (R14). -/
theorem stopAxis_eq (i : AfterStop) : b.stopAxis d k i = (b.setAxis d k
    { (b.axis d k).ordered .stop with intent := i }).enter d k .stopping := by
  simp [Block.stopAxis, setOrder_eq, modAxis_eq]

@[simp] theorem stopAxis_kept (i : AfterStop) :
    (b.stopAxis d k i).Outer b ∧ (b.stopAxis d k i).SameClaims b ∧ (b.stopAxis d k i).SameQueue b
    ∧ (b.stopAxis d k i).account = b.account := by
  refine ⟨outer_of_beside (beside_stopAxis b d k i), ?_⟩
  have account : (b.stopAxis d k i).account = b.account := by simp [stopAxis_eq]
  exact ⟨sameClaims_of_claims (by rw [account]), sameQueue_of_waitq (by rw [account]), account⟩

@[simp] theorem axis_stopAxis (i : AfterStop) : (b.stopAxis d k i).axis e j = if d = e ∧ k = j then
    { (b.axis d k).ordered .stop with intent := i }.entered .stopping else b.axis e j := by
  simp only [stopAxis_eq, axis_enter, axis_setAxis]
  split <;> simp [*]

@[simp] theorem orderMove_kept (t : Int) (n s : Nat) :
    (b.orderMove d k t n s).Outer b ∧ (b.orderMove d k t n s).SameClaims b ∧ (b.orderMove d k t n s).SameQueue b
    ∧ (b.orderMove d k t n s).account = b.account := by
  refine ⟨outer_of_beside (beside_orderMove b d k t n s), ?_⟩
  have account : (b.orderMove d k t n s).account = b.account := by simp [Block.orderMove, setOrder_eq]
  exact ⟨sameClaims_of_claims (by rw [account]), sameQueue_of_waitq (by rw [account]), account⟩

@[simp] theorem axis_orderMove (t : Int) (n s : Nat) : (b.orderMove d k t n s).axis e j = if d = e ∧ k = j then
    ((b.axis d k).ordered (.move t n s)).entered .moving else b.axis e j := by
  simp only [Block.orderMove, setOrder_eq, axis_enter, axis_setAxis]
  split <;> simp [*]

/-! ### A release ended, a need withdrawn (R5) -/

@[simp] theorem endRelease_kept :
    (b.endRelease d k).Outer b ∧ (b.endRelease d k).SameClaims b ∧ (b.endRelease d k).SameDishes b := by
  refine ⟨outer_of_beside (beside_endRelease b d k), ?_⟩
  simp only [Block.endRelease, modAxis_eq, Block.SameClaims, Block.SameDishes, withdraw_kept]
  exact ⟨⟨rfl, rfl⟩, rfl, rfl⟩

@[simp] theorem axis_endRelease : (b.endRelease d k).axis e j =
    if d = e ∧ k = j then { b.axis d k with need := none, stage := .none } else b.axis e j := by
  simp [Block.endRelease, modAxis_eq]

@[simp] theorem waits_endRelease : (b.endRelease d k).waits (.axis d k) = false := waits_withdraw ..

@[simp] theorem withdrawNeed_kept : (b.withdrawNeed d k).Outer b ∧ (b.withdrawNeed d k).SameDishes b := by
  refine ⟨outer_of_beside (beside_withdrawNeed b d k), sameDishes_of_dishes ?_⟩
  unfold Block.withdrawNeed
  simp only []
  split <;> simp [dropNeed_eq]

/-- A need withdrawn from an axis that is BRAKED with a release ends the release, its claim given back. -/
theorem withdrawNeed_release (h : (b.axis d k).state = .braked ∧ (b.axis d k).stage ≠ .none) :
    b.withdrawNeed d k = (b.endRelease d k).releaseClaim d k := by
  unfold Block.withdrawNeed
  exact if_pos h

/-- A need withdrawn from any other axis is removed and no more. -/
theorem withdrawNeed_other (h : ¬((b.axis d k).state = .braked ∧ (b.axis d k).stage ≠ .none)) :
    b.withdrawNeed d k = b.setAxis d k { b.axis d k with need := none } := by
  unfold Block.withdrawNeed
  exact if_neg h

/-- After a withdrawal the axis has no need, and on its brake no stage. -/
@[simp] theorem axis_withdrawNeed : (b.withdrawNeed d k).axis e j = if d = e ∧ k = j then
    { b.axis d k with
      need := none, stage := if (b.axis d k).state = .braked then .none else (b.axis d k).stage } else b.axis e j := by
  by_cases h : (b.axis d k).state = .braked ∧ (b.axis d k).stage ≠ .none
  · rw [withdrawNeed_release b d k h]
    simp [h.1]
  · rw [withdrawNeed_other b d k h, axis_setAxis]
    split
    · by_cases braked : (b.axis d k).state = .braked
      · have none : (b.axis d k).stage = .none := by simpa [braked] using h
        simp [none]
      · simp [braked]
    · rfl

/-! ### Faulted, offline, at rest (R3, R17, R21) -/

@[simp] theorem beside_faultAxis (r : FaultReason) : (b.faultAxis d k r).beside = b.beside := by
  simp [Block.faultAxis]

@[simp] theorem faultAxis_outer (r : FaultReason) : (b.faultAxis d k r).Outer b :=
  outer_of_beside (beside_faultAxis b d k r)

/-- A fault takes the axis out of service (R17). -/
@[simp] theorem axis_faultAxis (r : FaultReason) : (b.faultAxis d k r).axis e j = if d = e ∧ k = j then
    { (b.axis d k).ordered .brake with
      opDue := none, parkDue := none, holdDue := none, stage := .none, need := none, fault := some r
      }.entered .faulted else b.axis e j := by
  simp only [Block.faultAxis, setOrder_eq, modAxis_eq, axis_enter, axis_setAxis, releaseClaim_kept, withdraw_kept]
  split <;> simp [*]

/-- A fault gives the axis's claim back and no other. -/
@[simp] theorem claim_faultAxis (r : FaultReason) :
    (b.faultAxis d k r).claim e j = if d = e ∧ k = j then none else b.claim e j := by
  simp [Block.faultAxis, setOrder_eq, modAxis_eq]

/-- A fault withdraws the axis's own request. -/
@[simp] theorem waits_faultAxis (r : FaultReason) : (b.faultAxis d k r).waits (.axis d k) = false := by
  simp only [Block.faultAxis, setOrder_eq, modAxis_eq, enter_kept, setAxis_outer, releaseClaim_kept]
  exact waits_withdraw ..

@[simp] theorem beside_offlineAxis : (b.offlineAxis d k).beside = b.beside := by
  simp [Block.offlineAxis]

@[simp] theorem offlineAxis_kept : (b.offlineAxis d k).Outer b ∧ (b.offlineAxis d k).SameClaims b := by
  refine ⟨outer_of_beside (beside_offlineAxis b d k), sameClaims_of_claims ?_⟩
  simp [Block.offlineAxis, modAxis_eq]

/-- An axis goes offline, its claim kept for the hold (R21). -/
@[simp] theorem axis_offlineAxis : (b.offlineAxis d k).axis e j = if d = e ∧ k = j then
    { b.axis d k with
      opDue := none, stage := .none, need := none, holdDue := some (b.site.tb + 10000) }.entered .offline
    else b.axis e j := by
  simp only [Block.offlineAxis, modAxis_eq, axis_enter, axis_setAxis, withdraw_kept]
  split <;> simp [*]

/-- The state in which an axis rests on its brake. -/
def Block.restState (b : Block) (d : DishId) (k : AxisKind) : AxisState :=
  if 0 < b.axisLocks d k then .locked else .braked

theorem rest_eq : b.rest d k = ((b.setOrder d k .none).releaseClaim d k).enter d k (b.restState d k) := by
  unfold Block.rest Block.restState
  simp only []
  split <;> rfl

@[simp] theorem beside_rest : (b.rest d k).beside = b.beside := by simp [rest_eq]

@[simp] theorem rest_outer : (b.rest d k).Outer b ∧ (b.rest d k).SameQueue b := by
  refine ⟨outer_of_beside (beside_rest b d k), sameQueue_of_waitq ?_⟩
  simp [rest_eq, setOrder_eq]

/-- An axis comes to rest under no order. -/
@[simp] theorem axis_rest : (b.rest d k).axis e j = if d = e ∧ k = j then
    ((b.axis d k).ordered .none).entered (b.restState d k) else b.axis e j := by
  simp only [rest_eq, setOrder_eq, axis_enter, axis_setAxis, releaseClaim_kept]
  split <;> simp [*]

/-- An axis at rest has no claim. -/
@[simp] theorem claim_rest : (b.rest d k).claim e j = if d = e ∧ k = j then none else b.claim e j := by
  simp [rest_eq, setOrder_eq]

@[simp] theorem beside_abandonTest : (b.abandonTest d k).beside = b.beside := by simp [Block.abandonTest]

@[simp] theorem abandonTest_outer : (b.abandonTest d k).Outer b ∧ (b.abandonTest d k).SameQueue b := by
  refine ⟨outer_of_beside (beside_abandonTest b d k), sameQueue_of_waitq ?_⟩
  simp [Block.abandonTest, modAxis_eq]

/-- A test abandoned leaves the axis at rest. -/
@[simp] theorem axis_abandonTest : (b.abandonTest d k).axis e j = if d = e ∧ k = j then
    ({ b.axis d k with opDue := none, need := none }.ordered .none).entered (b.restState d k) else b.axis e j := by
  simp only [Block.abandonTest, modAxis_eq, axis_rest, axis_setAxis, Block.restState, setAxis_outer]
  split <;> simp [*]

@[simp] theorem claim_abandonTest :
    (b.abandonTest d k).claim e j = if d = e ∧ k = j then none else b.claim e j := by
  simp [Block.abandonTest, modAxis_eq]

end Sys2Proof.Machine
end

-- ==== The tables of chapter 1: tracking ended, parked, answered, needed, refused ====
section
/-! What each state of an axis becomes at the end of its dish's tracking (R29), at a park (R31), on an answer (R4 to R21),
on a need (R5) and on a refusal (R17): one equation per row, and the statement from the rows. -/

open Sys2Proof

namespace Sys2Proof.Machine

section Rows
variable {b : Block} {d : DishId} {k : AxisKind}

/-! ### R29's table -/

/-- An axis without a lock is lost by its state alone. -/
theorem axisLost_of_unlocked (h : b.axisLocks d k = 0) : b.axisLost d k = (b.axis d k).state.lost := by
  simp [Block.axisLost, h]

/-- A MOVING axis stops to hold. -/
theorem holdAfterEnd_moving (free : b.axisLost d k = false) (e : b.site.estop = false)
    (h : (b.axis d k).state = .moving) : b.holdAfterEnd d k = (b.needHold d k).stopAxis d k .hold := by
  simp [Block.holdAfterEnd, free, e, h]

/-- An axis HELD, or on the release path, falls to P_hold. -/
theorem holdAfterEnd_held (free : b.axisLost d k = false) (e : b.site.estop = false)
    (h : (b.axis d k).state = .held ∨ (b.axis d k).state = .testing ∨ (b.axis d k).state = .releasing
      ∨ ((b.axis d k).state = .braked ∧ (b.axis d k).stage ≠ .none)) :
    b.holdAfterEnd d k = (b.needHold d k).reduceToHold d k := by
  rcases h with h | h | h | ⟨h, staged⟩ <;> simp [Block.holdAfterEnd, *]

/-- A STOPPING axis stops to hold. -/
theorem holdAfterEnd_stopping (free : b.axisLost d k = false) (e : b.site.estop = false)
    (h : (b.axis d k).state = .stopping) :
    b.holdAfterEnd d k = b.setAxis d k { b.axis d k with need := some ⟨.hold, none⟩, intent := .hold } := by
  simp [Block.holdAfterEnd, free, e, h, needHold_eq, modAxis_eq]

/-- An ENGAGING axis engages under a hold of the dish. -/
theorem holdAfterEnd_engaging (free : b.axisLost d k = false) (e : b.site.estop = false)
    (h : (b.axis d k).state = .engaging) : b.holdAfterEnd d k = b.needHold d k := by
  simp [Block.holdAfterEnd, free, e, h]

/-- A lost axis, and a braked one without a release, are left. -/
theorem holdAfterEnd_left (h : (b.axis d k).state.lost = true ∨ ((b.axis d k).state = .braked ∧ (b.axis d k).stage = .none)) :
    b.holdAfterEnd d k = b := by
  obtain lost | ⟨braked, unstaged⟩ := h
  · simp [Block.holdAfterEnd, Block.axisLost, lost]
  · simp [Block.holdAfterEnd, braked, unstaged]

/-! ### Answers (R4, R8 to R21) -/

/-- A DRIVE or LIMIT code as a reason. -/
theorem reason_eq (c : FaultCode) :
    c.reason = if c = .drive then some .drive else if c = .limit then some .limit else none := by
  cases c <;> rfl

/-- The brake has changed unbidden. -/
theorem unbidden_iff (st : AxisState) (released : Bool) : unbidden st released = true ↔
    (released = false ∧ (st = .held ∨ st = .moving ∨ st = .stopping))
    ∨ (released = true ∧ (st = .braked ∨ st = .locked ∨ st = .testing)) := by
  cases st <;> simp [unbidden]

/-- What a fault makes of an axis: the fields the tables name. -/
theorem faultAxis_fails (why : FaultReason) :
    let u := (b.faultAxis d k why).axis d k
    u.state = .faulted ∧ u.fault = some why ∧ u.order = .brake ∧ u.need = none ∧ u.opDue = none ∧ u.stage = .none
    ∧ (b.faultAxis d k why).claim d k = none := by
  simp

/-- The block with an answer's fields taken (R4). -/
def Block.taking (b : Block) (d : DishId) (k : AxisKind) (r : AxisReport) : Block :=
  b.setAxis d k { b.axis d k with reported := some r }

@[simp] theorem axis_taking (r : AxisReport) :
    (b.taking d k r).axis d k = { b.axis d k with reported := some r } := by simp [Block.taking]

@[simp] theorem taking_kept (r : AxisReport) : (b.taking d k r).Outer b ∧ (b.taking d k r).SameClaims b :=
  ⟨(setAxis_outer ..).1, rfl, rfl⟩

/-- An OFFLINE axis is heard again. -/
theorem axisAnswer_offline {r : AxisReport} (h : (b.axis d k).state = .offline) :
    b.axisAnswer d k r = (b.taking d k r).heardAgain d k r := by
  simp [Block.axisAnswer, modAxis_eq, h, Block.taking]

/-- A FAULTED axis stays. -/
theorem axisAnswer_faulted {r : AxisReport} (h : (b.axis d k).state = .faulted) :
    b.axisAnswer d k r = b.taking d k r := by
  simp [Block.axisAnswer, modAxis_eq, h, Block.taking]

/-- A fault code faults an axis in service. -/
theorem axisAnswer_code {r : AxisReport} {why : FaultReason} (off : (b.axis d k).state ≠ .offline)
    (fit : (b.axis d k).state ≠ .faulted) (h : r.code.reason = some why) :
    b.axisAnswer d k r = (b.taking d k r).faultAxis d k why := by
  simp [Block.axisAnswer, modAxis_eq, h, off, fit, Block.taking]

/-- A brake that has changed unbidden faults an axis in service. -/
theorem axisAnswer_unbidden {r : AxisReport} (off : (b.axis d k).state ≠ .offline)
    (fit : (b.axis d k).state ≠ .faulted) (good : r.code.reason = none)
    (h : unbidden (b.axis d k).state r.released = true) :
    b.axisAnswer d k r = (b.taking d k r).faultAxis d k .drive := by
  simp [Block.axisAnswer, modAxis_eq, h, off, fit, good, Block.taking]

/-- Without a fault an axis in service takes the answer by its state. -/
theorem axisAnswer_quiet {r : AxisReport} (off : (b.axis d k).state ≠ .offline)
    (fit : (b.axis d k).state ≠ .faulted) (good : r.code.reason = none)
    (h : unbidden (b.axis d k).state r.released = false) :
    b.axisAnswer d k r = (b.taking d k r).answerByState d k r := by
  simp [Block.axisAnswer, modAxis_eq, h, off, fit, good, Block.taking]

/-- A COUNTS write asked for changes the writes alone. -/
theorem askCounts_eq (b : Block) :
    ∃ w r, b.askCounts = { b with site := { b.site with waiting := w, running := r } } := by
  unfold Block.askCounts Block.beginWrite Block.setWaiting
  repeat' split
  all_goals exact ⟨_, _, rfl⟩

/-- A COUNTS write asked for leaves the axes, the dishes and the account. -/
@[simp] theorem askCounts_kept (b : Block) :
    b.askCounts.SameAxes b ∧ b.askCounts.SameDishes b ∧ b.askCounts.SameClaims b ∧ b.askCounts.SameQueue b
    ∧ b.askCounts.account = b.account := by
  obtain ⟨w, r, h⟩ := askCounts_eq b
  rw [h]
  exact ⟨⟨rfl, rfl⟩, ⟨rfl, rfl⟩, ⟨rfl, rfl⟩, ⟨rfl, rfl⟩, rfl⟩

/-- A verify flag judged anew leaves everything but the flag. -/
@[simp] theorem judgeWear_kept (b : Block) (d : DishId) (k : AxisKind) :
    (b.judgeWear d k).Outer b ∧ (b.judgeWear d k).SameDishes b ∧ (b.judgeWear d k).SameClaims b
    ∧ (b.judgeWear d k).SameQueue b ∧ (b.judgeWear d k).account = b.account := by
  have beside : (b.judgeWear d k).beside = b.beside := by
    rw [judgeWear_eq]; split <;> simp
  have dishes : (b.judgeWear d k).dishes = b.dishes := by rw [judgeWear_eq]; split <;> simp
  have account : (b.judgeWear d k).account = b.account := by rw [judgeWear_eq]; split <;> simp
  exact ⟨outer_of_beside beside, sameDishes_of_dishes dishes, sameClaims_of_claims (by rw [account]),
    sameQueue_of_waitq (by rw [account]), account⟩

/-- A verify flag judged anew, on its axis. -/
@[simp] theorem axis_judgeWear (b : Block) (d e : DishId) (k j : AxisKind) : (b.judgeWear d k).axis e j =
    if d = e ∧ k = j then { b.axis d k with verify := verifyOf (b.axis d k).releases (b.axis d k).cfg.wear }
    else b.axis e j := by
  rw [judgeWear_eq]; split <;> simp

/-- A release confirmed: HELD under HOLD, the count and its verify flag judged (R9, R10). -/
theorem releaseConfirmed_row (b : Block) (d : DishId) (k : AxisKind) :
    let a := b.axis d k
    let t := b.releaseConfirmed d k
    let u := t.axis d k
    u.state = .held ∧ u.order = .hold ∧ u.opDue = none ∧ u.releases = min (a.releases + 1) 4294967295
    ∧ u.verify = decide (a.cfg.wear < u.releases) ∧ u.need = a.need ∧ u.reported = a.reported ∧ u.cfg = a.cfg
    ∧ t.claim d k = b.claim d k := by
  simp only [Block.releaseConfirmed, setOrder_eq, modAxis_eq]
  split <;> simp [verifyOf]

/-- An engagement confirmed for an axis that is not to go on: at rest without a need (R16). -/
theorem engageConfirmed_rest (h : 0 < b.axisLocks d k ∨ (b.axis d k).need = none ∨ b.site.estop = true) :
    b.engageConfirmed d k = (b.setAxis d k { b.axis d k with opDue := none, need := none }).rest d k := by
  simp [Block.engageConfirmed, modAxis_eq, dropNeed_eq, h]

/-- An engagement confirmed for an axis with a need: BRAKED, and on its way to a release (R16). -/
theorem axis_engageConfirmed (h : ¬(0 < b.axisLocks d k ∨ (b.axis d k).need = none ∨ b.site.estop = true)) :
    (b.engageConfirmed d k).axis d k =
      { ({ b.axis d k with opDue := none }.ordered .none).entered .braked with
        stage := if (b.claim d k).isSome then .beacon else .claim }
    ∧ (b.engageConfirmed d k).claim d k = b.claim d k := by
  simp [Block.engageConfirmed, modAxis_eq, setOrder_eq, h]

/-- An answer to a MOVING axis under MOVE (R13). -/
theorem answerByState_moving {r : AxisReport} {target : Int} {dur start : Nat} (h : (b.axis d k).state = .moving)
    (order : (b.axis d k).order = .move target dur start) :
    b.answerByState d k r = if b.reached start && (b.axis d k).near target && r.rate == 0 then b.arrive d k else b := by
  simp only [Block.answerByState, h, order]

/-- A stop completed to brake (R14). -/
theorem stopComplete_brake (h : (b.axis d k).intent = .brake) : b.stopComplete d k = b.engage d k := by
  simp [Block.stopComplete, h]

/-- A stop completed to hold: HELD under HOLD, the claim kept for a need with a grant and lowered otherwise (R14). -/
theorem stopComplete_hold (h : (b.axis d k).intent = .hold) :
    let t := b.stopComplete d k
    t.axis d k = ((b.axis d k).ordered .hold).entered .held
    ∧ t.claim d k = if ((b.axis d k).need.bind (·.grant)).isSome then b.claim d k
        else (b.claim d k).map fun c => { c with watts := min c.watts (b.axis d k).cfg.phold } := by
  simp only [Block.stopComplete, h, setOrder_eq]
  split <;> simp [reduceToHold_eq]

/-- A move arrived: HELD under HOLD, the claim lowered (R13). -/
theorem arrive_row (b : Block) (d : DishId) (k : AxisKind) :
    let t := b.arrive d k
    t.axis d k = ((b.axis d k).ordered .hold).entered .held
    ∧ t.claim d k = (b.claim d k).map fun c => { c with watts := min c.watts (b.axis d k).cfg.phold } := by
  simp [Block.arrive, setOrder_eq, reduceToHold_eq]

/-- An axis heard again with a fault code (R21). -/
theorem heardAgain_code {r : AxisReport} {why : FaultReason} (h : r.code.reason = some why) :
    b.heardAgain d k r = b.faultAxis d k why := by
  simp [Block.heardAgain, h]

/-- An axis heard again on its brake (R21). -/
theorem heardAgain_set {r : AxisReport} (h : r.code.reason = none) (set : r.released = false) :
    b.heardAgain d k r = (b.setAxis d k { b.axis d k with holdDue := none }).rest d k := by
  simp [Block.heardAgain, h, set, modAxis_eq]

/-- An axis heard again released (R21). -/
theorem heardAgain_released {r : AxisReport} (h : r.code.reason = none) (released : r.released = true) :
    b.heardAgain d k r = ((b.setAxis d k { b.axis d k with holdDue := none }).reduceToHold d k).engage d k := by
  simp [Block.heardAgain, h, released, modAxis_eq]

/-- What an axis heard again becomes keeps its report and its settings. -/
theorem heardAgain_keeps (b : Block) (d : DishId) (k : AxisKind) (r : AxisReport) :
    ((b.heardAgain d k r).axis d k).reported = (b.axis d k).reported
    ∧ ((b.heardAgain d k r).axis d k).cfg = (b.axis d k).cfg := by
  unfold Block.heardAgain
  simp only [modAxis_eq, reduceToHold_eq]
  repeat' split
  all_goals simp

/-- What an axis becomes by an answer keeps its report and its settings. -/
theorem answerByState_keeps (b : Block) (d : DishId) (k : AxisKind) (r : AxisReport) :
    ((b.answerByState d k r).axis d k).reported = (b.axis d k).reported
    ∧ ((b.answerByState d k r).axis d k).cfg = (b.axis d k).cfg := by
  obtain ⟨_, _, _, _, _, _, reported, cfg, _⟩ := releaseConfirmed_row b d k
  have stopped : ((b.stopComplete d k).axis d k).reported = (b.axis d k).reported
      ∧ ((b.stopComplete d k).axis d k).cfg = (b.axis d k).cfg := by
    cases h : (b.axis d k).intent with
    | brake => simp [stopComplete_brake h]
    | hold => simp [(stopComplete_hold h).1]
  have engaged : ((b.engageConfirmed d k).axis d k).reported = (b.axis d k).reported
      ∧ ((b.engageConfirmed d k).axis d k).cfg = (b.axis d k).cfg := by
    by_cases h : 0 < b.axisLocks d k ∨ (b.axis d k).need = none ∨ b.site.estop = true
    · simp [engageConfirmed_rest h]
    · simp [(axis_engageConfirmed h).1]
  unfold Block.answerByState
  simp only [modAxis_eq]
  repeat' split
  all_goals simp [reported, cfg, stopped, engaged, (arrive_row b d k).1]

/-- An answer leaves the axis its report and its settings (R4). -/
theorem axisAnswer_keeps (b : Block) (d : DishId) (k : AxisKind) (r : AxisReport) :
    ((b.axisAnswer d k r).axis d k).reported = some r ∧ ((b.axisAnswer d k r).axis d k).cfg = (b.axis d k).cfg := by
  have taken : ((b.taking d k r).axis d k).reported = some r ∧ ((b.taking d k r).axis d k).cfg = (b.axis d k).cfg := by
    simp [Block.taking]
  by_cases off : (b.axis d k).state = .offline
  · rw [axisAnswer_offline off]
    exact (heardAgain_keeps _ d k r).imp (·.trans taken.1) (·.trans taken.2)
  by_cases fit : (b.axis d k).state = .faulted
  · rw [axisAnswer_faulted fit]
    exact taken
  cases code : r.code.reason with
  | some why =>
    rw [axisAnswer_code off fit code]
    simp
  | none =>
    cases unasked : unbidden (b.axis d k).state r.released with
    | true =>
      rw [axisAnswer_unbidden off fit code unasked]
      simp
    | false =>
      rw [axisAnswer_quiet off fit code unasked]
      exact (answerByState_keeps _ d k r).imp (·.trans taken.1) (·.trans taken.2)

/-- A site time has been reached, or the clock is unset. -/
theorem reached_iff (b : Block) (t : Nat) : b.reached t = true ↔ ∀ now, b.site.clock = some now → t ≤ now := by
  unfold Block.reached
  cases b.site.clock <;> simp

/-- The answer just taken shows the axis at a target. -/
theorem near_taking (r : AxisReport) (target : Int) :
    ((b.taking d k r).axis d k).near target = true ↔ (r.pos - target).natAbs ≤ (b.axis d k).cfg.tol := by
  simp [Axis.near, absDiff]

/-! ### Needs (R5) -/

/-- Why an axis refuses a need (R5, R60). -/
def Block.needRefused (b : Block) (d : DishId) (k : AxisKind) : Option DropReason :=
  if 0 < b.axisLocks d k then some .locked
  else if b.site.estop = true then some .estop
  else if (b.axis d k).state = .offline then some .offline
  else if (b.axis d k).state = .faulted then some .fault
  else if (b.axis d k).state = .locked then some .locked
  else none

/-- An axis under a need taken. -/
def Axis.needing (a : Axis) (n : Need) : Axis :=
  { a with
    need := some n
    stage := if a.state = .braked then if n.grant.isSome then .beacon else if a.stage = .none then .claim else a.stage
      else a.stage
    intent := if a.state = .stopping then .hold else a.intent }

/-- The axes that take a need (R5). -/
theorem needRefused_none : b.needRefused d k = none ↔ b.axisLocks d k = 0 ∧ b.site.estop = false
    ∧ (b.axis d k).state ≠ .offline ∧ (b.axis d k).state ≠ .faulted ∧ (b.axis d k).state ≠ .locked := by
  unfold Block.needRefused
  repeat' split
  all_goals simp_all [Nat.pos_iff_ne_zero]

/-- A need refused: the whole claim of one that carries a grant is given back. -/
theorem deliverNeed_refused {why : DropReason} (n : Need) (h : b.needRefused d k = some why) :
    b.deliverNeed d k n = (if n.grant.isSome then b.releaseClaim d k else b, some why) := by
  unfold Block.needRefused at h
  unfold Block.deliverNeed
  repeat' split at h
  all_goals simp_all

/-- A need with a grant taken by a BRAKED axis: its own request is withdrawn, and it goes on to the beacon (R5). -/
theorem deliverNeed_granted (n : Need) (h : b.needRefused d k = none) (braked : (b.axis d k).state = .braked)
    (granted : n.grant.isSome = true) : b.deliverNeed d k n
      = (((b.setAxis d k { b.axis d k with need := some n }).withdraw (.axis d k)).setAxis d k
          ((b.axis d k).needing n), none) := by
  obtain ⟨unlocked, clear, -⟩ := needRefused_none.mp h
  simp [Block.deliverNeed, unlocked, clear, modAxis_eq, braked, granted, Axis.needing]

/-- Any other need taken is recorded on its axis and no more (R5). -/
theorem deliverNeed_recorded (n : Need) (h : b.needRefused d k = none)
    (other : ¬((b.axis d k).state = .braked ∧ n.grant.isSome = true)) :
    b.deliverNeed d k n = (b.setAxis d k ((b.axis d k).needing n), none) := by
  obtain ⟨unlocked, clear, off, fit, free⟩ := needRefused_none.mp h
  unfold Block.deliverNeed
  simp only [unlocked, clear, Nat.lt_irrefl, if_false, Bool.false_eq_true, modAxis_eq]
  cases state : (b.axis d k).state with
  | offline => exact absurd state off
  | faulted => exact absurd state fit
  | locked => exact absurd state free
  | braked =>
    have bare : n.grant.isSome = false := by simpa [state] using other
    by_cases unstaged : (b.axis d k).stage = .none <;> simp [Axis.needing, state, bare, unstaged]
  | stopping => simp [Axis.needing, state]
  | testing | releasing | held | moving | engaging => simp [Axis.needing, state]

/-- A need taken is on its axis alone; claims and dishes stand. -/
theorem deliverNeed_taken (n : Need) (h : b.needRefused d k = none) :
    (b.deliverNeed d k n).2 = none
    ∧ (∀ e j, (b.deliverNeed d k n).1.axis e j = if d = e ∧ k = j then (b.axis d k).needing n else b.axis e j)
    ∧ (b.deliverNeed d k n).1.Outer b ∧ (b.deliverNeed d k n).1.SameClaims b ∧ (b.deliverNeed d k n).1.SameDishes b := by
  by_cases granted : (b.axis d k).state = .braked ∧ n.grant.isSome = true
  · rw [deliverNeed_granted n h granted.1 granted.2]
    refine ⟨rfl, fun e j => ?_, outer_of_beside (by simp), sameClaims_of_claims (by simp), sameDishes_of_dishes (by simp)⟩
    simp only [axis_setAxis, withdraw_kept]
    split <;> rfl
  · rw [deliverNeed_recorded n h granted]
    exact ⟨rfl, fun e j => axis_setAxis .., outer_of_beside rfl, ⟨rfl, rfl⟩, ⟨rfl, rfl⟩⟩

end Rows

/-- Settles O43. -/
theorem axisTables : Obligations.AxisTables := by
  refine ⟨?hold, ?brake, ?answer, ?need, ?refused⟩
  case hold =>
    intro b d k unlocked clear
    have lost : b.axisLost d k = (b.axis d k).state.lost := axisLost_of_unlocked unlocked
    refine ⟨fun h => ?_, fun h => ?_, fun h => ?_, fun h => ?_, fun h => holdAfterEnd_left ?_⟩
    · rw [holdAfterEnd_moving (by rw [lost, h]; rfl) clear h]
      simp [needHold_eq]
    · have free : b.axisLost d k = false := by
        obtain h | h | h | h := h <;> simp [lost, h, AxisState.lost]
      rw [holdAfterEnd_held free clear h]
      simp [needHold_eq, reduceToHold_eq]
    · rw [holdAfterEnd_stopping (by rw [lost, h]; rfl) clear h]
      simp
    · rw [holdAfterEnd_engaging (by rw [lost, h]; rfl) clear h]
      simp [needHold_eq, h]
    · obtain h | h | h | h := h <;> simp [h, AxisState.lost]
  case brake =>
    intro b d k
    refine ⟨fun h => ?_, fun h => ?_, fun h => ?_, fun h staged => ?_, fun h unstaged => ⟨?_, ?_, fun free idle => ?_⟩,
      fun h => ?_, fun h => ?_, fun h => ?_⟩
    · simp [Block.brakeInPlace, h, Block.orderBrake, dropNeed_eq]
    · simp [Block.brakeInPlace, h, dropNeed_eq]
    · simp [Block.brakeInPlace, h, modAxis_eq]
    · simp [Block.brakeInPlace, h]
    · simp [Block.brakeInPlace, h, ← unstaged]
    · simp [Block.brakeInPlace, h]
    · have need : b.withdrawNeed d k = b := by
        rw [withdrawNeed_other b d k (by simp [unstaged]), ← free, setAxis_self]
      simp [Block.brakeInPlace, h, need, Block.releaseClaim, idle]
    · obtain h | h := h <;> simp [Block.brakeInPlace, h, dropNeed_eq, Block.modDish]
    · simp [Block.brakeInPlace, h, dropNeed_eq]
    · obtain h | h | h := h <;> simp [Block.brakeInPlace, h]
  case refused =>
    intro b d k
    refine ⟨fun h => ?_, fun fit heard => ?_⟩
    · simp [Block.axisRefused, h]
    · have : b.axisRefused d k = b.faultAxis d k .refused := by simp [Block.axisRefused, fit, heard]
      rw [this]
      exact faultAxis_fails .refused
  case need =>
    intro b d k n
    have refused : b.needRefused d k = none ↔ ¬(0 < b.axisLocks d k ∨ b.site.estop = true ∨ ((b.axis d k).state = .offline
        ∨ (b.axis d k).state = .faulted ∨ (b.axis d k).state = .locked)) := by
      rw [needRefused_none]
      simp only [not_or, Nat.not_lt, Nat.le_zero, Bool.not_eq_true, ne_eq]
    refine ⟨fun stop => ?_, fun locked => ?_, fun unlocked latched => ?_, fun unlocked clear => ⟨fun h => ?_, fun h => ?_,
      fun h => ?_⟩, fun go => ?_⟩
    · obtain ⟨why, h⟩ := Option.ne_none_iff_exists'.mp fun h => refused.mp h stop
      rw [deliverNeed_refused n h]
      refine ⟨fun bare => by simp [bare], fun granted => ?_⟩
      simp [Option.isSome_iff_ne_none.mpr granted]
    · rw [deliverNeed_refused (why := .locked) n (by simp [Block.needRefused, locked])]
    · rw [deliverNeed_refused (why := .estop) n (by simp [Block.needRefused, unlocked, latched])]
    · rw [deliverNeed_refused (why := .offline) n (by simp [Block.needRefused, unlocked, clear, h])]
    · rw [deliverNeed_refused (why := .fault) n (by simp [Block.needRefused, unlocked, clear, h])]
    · rw [deliverNeed_refused (why := .locked) n (by simp [Block.needRefused, unlocked, clear, h])]
    · obtain ⟨taken, axis, -, claims, -⟩ := deliverNeed_taken n (refused.mpr go)
      refine ⟨taken, claims.1, fun e j other => ?_, fun h granted => ⟨?_, ?_⟩, fun h bare => ?_, fun h => ?_,
        fun braked stopping => ?_⟩
      · rw [axis, if_neg (by rintro ⟨rfl, rfl⟩; exact other rfl)]
      · simp [axis, Axis.needing, h, Option.isSome_iff_ne_none.mpr granted]
      · rw [deliverNeed_granted n (refused.mpr go) h (Option.isSome_iff_ne_none.mpr granted)]
        simp only [setAxis_outer]
        exact waits_withdraw ..
      · simp [axis, Axis.needing, h, bare]
      · simp [axis, Axis.needing, h]
      · simp [axis, Axis.needing, braked, stopping]
  case answer =>
    intro b d k r
    obtain ⟨reported, cfg⟩ := axisAnswer_keeps b d k r
    simp only [← reason_eq]
    refine ⟨reported, cfg, fun h => ⟨fun why code => ?_, fun code set => ?_, fun code released => ?_⟩,
      fun h => axisAnswer_faulted h, fun off fit => ⟨fun why code => ?_, fun code unasked => ?_⟩,
      fun h quiet => ?testing, fun h quiet => ?releasing, fun h quiet => ?moving, fun h quiet => ?stopping,
      fun h quiet => ?engaging, fun h quiet => ?still⟩
    · rw [axisAnswer_offline h, heardAgain_code code]
      exact faultAxis_fails why
    · rw [axisAnswer_offline h, heardAgain_set code set]
      simp [Block.restState]
    · rw [axisAnswer_offline h, heardAgain_released code released]
      simp [reduceToHold_eq]
    · rw [axisAnswer_code off fit code]
      exact faultAxis_fails why
    · rw [axisAnswer_unbidden off fit code ((unbidden_iff ..).mpr unasked)]
      exact faultAxis_fails .drive
    all_goals
      obtain ⟨code, bidden⟩ := quiet
      rw [← unbidden_iff, Bool.not_eq_true] at bidden
    case testing =>
      rw [axisAnswer_quiet (by simp [h]) (by simp [h]) code bidden]
      refine ⟨fun pass => ?_, fun fail => ?_, fun untold => ?_⟩
      · simp [Block.answerByState, h, pass, modAxis_eq]
      · have : (b.taking d k r).answerByState d k r = (b.taking d k r).faultAxis d k .brakeSuspect := by
          simp [Block.answerByState, h, fail]
        rw [this]
        exact faultAxis_fails .brakeSuspect
      · simp [Block.answerByState, h, untold]; rfl
    case releasing =>
      rw [axisAnswer_quiet (by simp [h]) (by simp [h]) code bidden]
      refine ⟨fun released driven => ?_, fun waits => ?_⟩
      · have : (b.taking d k r).answerByState d k r = (b.taking d k r).releaseConfirmed d k := by
          simp [Block.answerByState, h, released, driven]
        rw [this]
        obtain ⟨held, order, due, count, verify, need, -, -, claim⟩ := releaseConfirmed_row (b.taking d k r) d k
        simp_all
      · obtain waits | waits := waits <;> simp [Block.answerByState, h, waits] <;> rfl
    case moving =>
      rw [axisAnswer_quiet (by simp [h]) (by simp [h]) code bidden]
      refine ⟨fun target dur start order => ⟨fun there => ?_, fun there => ?_⟩, fun pts order => ?_⟩
      · have arrived : ((b.taking d k r).reached start && ((b.taking d k r).axis d k).near target && r.rate == 0) = true := by
          simp only [Bool.and_eq_true, reached_iff, near_taking, beq_iff_eq, and_assoc]
          exact there
        rw [answerByState_moving (by simpa using h) (by simpa using order), if_pos arrived, (arrive_row ..).1,
          (arrive_row ..).2]
        simp
      · have away : ¬((b.taking d k r).reached start && ((b.taking d k r).axis d k).near target && r.rate == 0) = true := by
          simp only [Bool.and_eq_true, reached_iff, near_taking, beq_iff_eq, and_assoc]
          exact there
        rw [answerByState_moving (by simpa using h) (by simpa using order), if_neg away]
        rfl
      · simp [Block.answerByState, h, order]; rfl
    case stopping =>
      rw [axisAnswer_quiet (by simp [h]) (by simp [h]) code bidden]
      refine ⟨fun turns => ?_, fun rests brake => ?_, fun rests hold => ?_⟩
      · simp [Block.answerByState, h, turns]; rfl
      · simp [Block.answerByState, h, rests, stopComplete_brake, brake]
      · have : (b.taking d k r).answerByState d k r = (b.taking d k r).stopComplete d k := by
          simp [Block.answerByState, h, rests]
        obtain ⟨axis, claim⟩ := stopComplete_hold (b := b.taking d k r) (d := d) (k := k) (by simpa using hold)
        rw [this, axis, claim]
        refine ⟨by simp, by simp, by simp, ?_, fun bare => ?_⟩
        · rintro ⟨n, w, need, grant⟩
          simp [need, grant]
        · have : ((b.axis d k).need.bind (·.grant)).isSome = false := by
            cases need : (b.axis d k).need with
            | none => rfl
            | some n => simp [bare n need]
          simp [this]
    case engaging =>
      rw [axisAnswer_quiet (by simp [h]) (by simp [h]) code bidden]
      refine ⟨fun released => ?_, fun set ends => ?_, fun set unlocked need clear => ?_⟩
      · simp [Block.answerByState, h, released]; rfl
      · have : (b.taking d k r).answerByState d k r = (b.taking d k r).engageConfirmed d k := by
          simp [Block.answerByState, h, set]
        rw [this, engageConfirmed_rest (by simpa using ends)]
        simp [Block.restState]
      · have : (b.taking d k r).answerByState d k r = (b.taking d k r).engageConfirmed d k := by
          simp [Block.answerByState, h, set]
        obtain ⟨axis, claim⟩ := axis_engageConfirmed (b := b.taking d k r) (d := d) (k := k)
          (by simp [unlocked, need, clear])
        rw [this, axis, claim]
        cases held : b.claim d k <;> simp [held]
    case still =>
      obtain h | h | h := h <;> rw [axisAnswer_quiet (by simp [h]) (by simp [h]) code bidden] <;>
        simp [Block.answerByState, h] <;> rfl

end Sys2Proof.Machine
end

-- ==== Dishes, groups and moves: what their operations leave ====
section
/-! The operations on dishes, groups and internal moves: what each leaves of the axes, the claims and the ground they
stand on; and that what a lost axis sets off leaves the lost axes of the site as they stand (R29, R60, R65). -/

open Sys2Proof

namespace Sys2Proof.Machine

/-! ### The ground: points, weather, heat, locks, lines and the site -/

/-- The records that no change of a dish's work touches. -/
def Block.ground (b : Block) : PointStore × Weather × Heater × Lockout × FieldCtl × Site :=
  (b.points, b.weather, b.heater, b.lockout, b.field, b.site)

/-- The ground records, and what is read from them, are the same. -/
abbrev Block.SameGround (b c : Block) : Prop :=
  b.points = c.points ∧ b.weather = c.weather ∧ b.heater = c.heater ∧ b.lockout = c.lockout ∧ b.field = c.field
  ∧ b.site = c.site ∧ b.queue = c.queue ∧ b.zone = c.zone ∧ b.cold = c.cold ∧ b.wx = c.wx ∧ b.node = c.node
  ∧ b.line = c.line ∧ b.configured = c.configured ∧ b.heard = c.heard ∧ b.axisLocks = c.axisLocks
  ∧ b.zoneLocks = c.zoneLocks ∧ b.dishLocked = c.dishLocked

/-- What is read from equal ground is equal. -/
theorem sameGround_of_ground {b c : Block} (h : b.ground = c.ground) : b.SameGround c := by
  obtain ⟨points, weather, heater, lockout, field, site⟩ :
      b.points = c.points ∧ b.weather = c.weather ∧ b.heater = c.heater ∧ b.lockout = c.lockout ∧ b.field = c.field
        ∧ b.site = c.site := by simpa [Block.ground] using h
  have node : b.node = c.node := by funext r; cases r <;> simp only [Block.node, field]
  have locks : b.axisLocks = c.axisLocks := by funext d k; simp only [Block.axisLocks, lockout]
  refine ⟨points, weather, heater, lockout, field, site, ?_, ?_, ?_, ?_, node, ?_, ?_, ?_, locks, ?_, ?_⟩
  · funext d; simp only [Block.queue, points]
  · funext d z; simp only [Block.zone, heater]
  · funext d; simp only [Block.cold, heater]
  · funext n; simp only [Block.wx, weather]
  · funext l; cases l <;> simp only [Block.line, field]
  · funext d; simp only [Block.configured, field]
  · funext d; simp only [Block.heard, node]
  · funext d z; simp only [Block.zoneLocks, lockout]
  · funext d; simp only [Block.dishLocked, locks]

/-- An operation on one axis leaves the ground. -/
theorem ground_of_beside {b c : Block} (h : b.beside = c.beside) : b.ground = c.ground := by
  obtain ⟨planner, points, weather, heater, lockout, field, site⟩ := records_of_beside h
  simp only [Block.ground, points, weather, heater, lockout, field, site]

/-! ### Each operation -/

section
variable (b : Block) (d : DishId) (k : AxisKind) (g : GroupId)

@[simp] theorem ground_setDish (x : Dish) : (b.setDish d x).ground = b.ground := rfl
@[simp] theorem ground_modDish (f : Dish → Dish) : (b.modDish d f).ground = b.ground := rfl
@[simp] theorem ground_setGroup (x : Option Group) : (b.setGroup g x).ground = b.ground := rfl
@[simp] theorem ground_setMove (x : Option InternalMove) : (b.setMove d x).ground = b.ground := rfl
@[simp] theorem ground_modGroup (f : Group → Group) : (b.modGroup g f).ground = b.ground := rfl
@[simp] theorem ground_modAxis (f : Axis → Axis) : (b.modAxis d k f).ground = b.ground := rfl
@[simp] theorem ground_withdraw (w : Waiter) : (b.withdraw w).ground = b.ground := ground_of_beside (by simp)
@[simp] theorem ground_tell (kind : RepKind) (n : Nat) (fs : List Fld) : (b.tell kind n fs).ground = b.ground :=
  ground_of_beside (by simp)
@[simp] theorem ground_report (kind : RepKind) (n : Nat) (pre post : List Fld) (prev : Option Fld) :
    (b.report kind n pre prev post).ground = b.ground := ground_of_beside (by simp)
@[simp] theorem ground_holdAfterEnd : (b.holdAfterEnd d k).ground = b.ground := ground_of_beside (by simp)
@[simp] theorem ground_reduceToHold : (b.reduceToHold d k).ground = b.ground := ground_of_beside (by simp)
@[simp] theorem ground_orderMove (t : Int) (n s : Nat) : (b.orderMove d k t n s).ground = b.ground :=
  ground_of_beside (by simp)

/-- A fold of changes that each leave the ground leaves it. -/
theorem ground_each {α : Type} (xs : List α) (f : α → Block → Block) (h : ∀ x s, (f x s).ground = s.ground) :
    (b.each xs f).ground = b.ground := each_keeps _ _ _ h b

@[simp] theorem axes_modDish (f : Dish → Dish) : (b.modDish d f).axes = b.axes := rfl
@[simp] theorem account_modDish (f : Dish → Dish) : (b.modDish d f).account = b.account := rfl
@[simp] theorem moves_modDish (f : Dish → Dish) : (b.modDish d f).planner.moves = b.planner.moves := rfl
@[simp] theorem axes_modGroup (f : Group → Group) : (b.modGroup g f).axes = b.axes := rfl
@[simp] theorem account_modGroup (f : Group → Group) : (b.modGroup g f).account = b.account := rfl

/-- A dish enters a mode: its record, and the report of a change with its cause (R24). -/
theorem setMode_eq (m : Mode) (why : ModeCause) :
    let x := b.dish d
    let y := { x with
      mode := m
      blocks := if m = .stowBlocked then x.blocks else none
      intent := if m = .returning then x.intent else none
      dwell := if m = .shedDwell then x.dwell else .stopped }
    b.setMode d m why = if x.mode = m then b.setDish d y else (b.setDish d y).report .dishMode (dishNum d)
      [f1 m.ctorIdx] (some (f1 x.mode.ctorIdx)) (f1 why.ctorIdx :: fopt y.blocks [1, 1, 1, 1] Blocks.fields) := by
  simp [Block.setMode, Block.modDish, Block.tellMode]

@[simp] theorem setMode_kept (m : Mode) (why : ModeCause) :
    (b.setMode d m why).axes = b.axes ∧ (b.setMode d m why).account = b.account
    ∧ (b.setMode d m why).planner = b.planner ∧ (b.setMode d m why).ground = b.ground := by
  rw [setMode_eq]
  split <;> simp

@[simp] theorem dish_setMode (e : DishId) (m : Mode) (why : ModeCause) : (b.setMode d m why).dish e =
    if d = e then { b.dish d with
      mode := m
      blocks := if m = .stowBlocked then (b.dish d).blocks else none
      intent := if m = .returning then (b.dish d).intent else none
      dwell := if m = .shedDwell then (b.dish d).dwell else .stopped } else b.dish e := by
  rw [setMode_eq]
  split <;> simp

@[simp] theorem withdrawPending_kept :
    (b.withdrawPending d).axes = b.axes ∧ (b.withdrawPending d).account.claims = b.account.claims
    ∧ (b.withdrawPending d).planner = b.planner ∧ (b.withdrawPending d).ground = b.ground := by
  unfold Block.withdrawPending
  split <;> simp [Block.modDish]

@[simp] theorem losePending_kept (why : ModeCause) :
    (b.losePending d why).axes = b.axes ∧ (b.losePending d why).account.claims = b.account.claims
    ∧ (b.losePending d why).planner = b.planner ∧ (b.losePending d why).ground = b.ground := by
  unfold Block.losePending Block.tellMode
  split <;> simp

@[simp] theorem tellGroup_kept (m : Option Member) :
    (b.tellGroup g m).axes = b.axes ∧ (b.tellGroup g m).account = b.account ∧ (b.tellGroup g m).dishes = b.dishes
    ∧ (b.tellGroup g m).planner = b.planner ∧ (b.tellGroup g m).ground = b.ground := by
  unfold Block.tellGroup
  split <;> simp

@[simp] theorem modMember_kept (f : Member → Member) :
    (b.modMember g d f).axes = b.axes ∧ (b.modMember g d f).account = b.account
    ∧ (b.modMember g d f).dishes = b.dishes ∧ (b.modMember g d f).planner.moves = b.planner.moves
    ∧ (b.modMember g d f).ground = b.ground := by
  unfold Block.modMember
  simp [Block.modGroup, Block.setGroup]
  rfl

/-- A group's end leaves axes, account, moves and ground. -/
@[simp] theorem endGroup_kept (st : GroupState) (r : Option EndReason) (by_ : Option DishId) :
    (b.endGroup g st r by_).axes = b.axes ∧ (b.endGroup g st r by_).account = b.account
    ∧ (b.endGroup g st r by_).planner.moves = b.planner.moves ∧ (b.endGroup g st r by_).ground = b.ground := by
  unfold Block.endGroup
  split
  · exact ⟨rfl, rfl, rfl, rfl⟩
  · simp only [tellGroup_kept]
    exact ⟨(each_keeps Block.axes _ _ (fun _ _ => axes_modDish ..) _).trans rfl,
      (each_keeps Block.account _ _ (fun _ _ => account_modDish ..) _).trans rfl,
      (each_keeps (fun s => s.planner.moves) _ _ (fun _ _ => moves_modDish ..) _).trans rfl,
      (each_keeps Block.ground _ _ (fun _ _ => ground_modDish ..) _).trans rfl⟩

@[simp] theorem settleGroup_kept :
    (b.settleGroup g d).axes = b.axes ∧ (b.settleGroup g d).account = b.account
    ∧ (b.settleGroup g d).planner.moves = b.planner.moves ∧ (b.settleGroup g d).ground = b.ground := by
  unfold Block.settleGroup
  repeat' split
  all_goals simp

@[simp] theorem ground_orderMoves (m : Mover) (n s : Nat) : (b.orderMoves m n s).ground = b.ground := by
  unfold Block.orderMoves
  simp only []
  repeat' split
  all_goals simp

@[simp] theorem ground_startGroup (by_ : Option DishId) : (b.startGroup g by_).ground = b.ground := by
  unfold Block.startGroup
  split
  · split
    · simp only [tellGroup_kept]
      rw [ground_each]
      · simp
      · intro m s
        split <;> simp
    · rfl
  · rfl

@[simp] theorem ground_holdBoth : (b.holdBoth d).ground = b.ground := by simp [Block.holdBoth, Block.bothAxes]

@[simp] theorem ground_dropMember (r : DropReason) : (b.dropMember g d r).ground = b.ground := by
  simp [Block.dropMember]

@[simp] theorem ground_abortGroup (r : EndReason) (by_ : Option DishId) : (b.abortGroup g r by_).ground = b.ground := by
  unfold Block.abortGroup
  split
  · rfl
  · split
    · simp
    · unfold Block.releaseMembers
      rw [ground_each]
      · simp
      · intro m s
        split
        · simp only [Block.bothAxes, Block.cutEngaging, setMode_kept]
          repeat' split
          all_goals simp
        · rfl

@[simp] theorem ground_groupLoses (r : DropReason) : (b.groupLoses g d r).ground = b.ground := by
  unfold Block.groupLoses
  repeat' split
  all_goals simp

@[simp] theorem ground_endMove : (b.endMove d).ground = b.ground := by
  unfold Block.endMove
  split <;> simp

@[simp] theorem ground_loseMove : (b.loseMove d).ground = b.ground := by
  unfold Block.loseMove Block.clearContext
  simp only []
  repeat' split
  all_goals simp

@[simp] theorem ground_endTracking (why : ModeCause) : (b.endTracking d why).ground = b.ground := by
  simp [Block.endTracking]

/-- The part of a loss that does not bear on a group: the internal move, the tracking and the pending request. -/
def Block.loseWork (b : Block) (d : DishId) : Block :=
  (if ((b.loseMove d).dish d).mode = .tracking then (b.loseMove d).endTracking d .axis else b.loseMove d
    ).losePending d .axis

variable {b d} in
/-- A dish without a group loses its own work. -/
theorem loseDish_alone (r : DropReason) (h : (b.dish d).group = none) : b.loseDish d r = b.loseWork d := by
  simp [Block.loseDish, Block.loseWork, h]

variable {b d g} in
/-- A dish of a group loses it to its group first. -/
theorem loseDish_group (r : DropReason) (h : (b.dish d).group = some g) :
    b.loseDish d r = (b.groupLoses g d r).loseWork d := by
  simp [Block.loseDish, Block.loseWork, h]

/-- What a newly lost axis does to its dish's work leaves the ground. -/
@[simp] theorem ground_loseDish (r : DropReason) : (b.loseDish d r).ground = b.ground := by
  unfold Block.loseDish
  simp only [losePending_kept]
  repeat' split
  all_goals simp

/-- What the requesters of a dish do about lost axes leaves the ground. -/
@[simp] theorem ground_reactLost (b0 : Block) : (Block.reactLost b0 b d).ground = b.ground := by
  unfold Block.reactLost
  simp only []
  split <;> simp

end

/-- A fold of changes, each of which keeps a property for the things folded over, keeps it. -/
theorem each_holds_mem {α : Type} (P : Block → Prop) (xs : List α) (f : α → Block → Block)
    (h : ∀ x ∈ xs, ∀ s, P s → P (f x s)) (b : Block) (hb : P b) : P (b.each xs f) := by
  unfold Block.each
  induction xs generalizing b with
  | nil => exact hb
  | cons x xs ih =>
    exact ih (fun y mem => h y (List.mem_cons_of_mem _ mem)) _ (h x List.mem_cons_self b hb)

/-! ### A lost axis stands (R29, R60) -/

/-- An axis that is lost stands at a record, and with a claim where it is not ENGAGING. -/
structure Block.Stands (d : DishId) (k : AxisKind) (a : Axis) (c : Option Claim) (s : Block) : Prop where
  axis : s.axis d k = a
  claim : a.state ≠ .engaging → s.claim d k = c
  idle : a.state ≠ .held
  lost : s.axisLost d k = true

section
variable {d : DishId} {k : AxisKind} {a : Axis} {c : Option Claim} {b t : Block}

/-- Where axes, claims and the ground are unchanged a lost axis stands. -/
theorem stands_of_same (h : b.Stands d k a c) (axes : t.axes = b.axes)
    (claims : t.account.claims = b.account.claims) (ground : t.ground = b.ground) : t.Stands d k a c := by
  obtain ⟨axis, claim, idle, lost⟩ := h
  obtain ⟨-, -, -, -, -, -, -, -, -, -, -, -, -, -, locks, -⟩ := sameGround_of_ground ground
  have same : t.axis d k = b.axis d k := by rw [(sameAxes_of_axes axes).2]
  exact ⟨by rw [same, axis], fun h => by rw [(sameClaims_of_claims claims).2, claim h], idle, by
    rw [← lost, Block.axisLost, Block.axisLost, same, locks]⟩

/-- R29's table leaves a lost axis. -/
theorem stands_holdAfterEnd (h : b.Stands d k a c) (e : DishId) (j : AxisKind) :
    (b.holdAfterEnd e j).Stands d k a c := by
  by_cases same : e = d ∧ j = k
  · obtain ⟨rfl, rfl⟩ := same
    have left : b.holdAfterEnd e j = b := by simp [Block.holdAfterEnd, h.lost]
    rwa [left]
  · obtain ⟨axis, claim, idle, lost⟩ := h
    have record : (b.holdAfterEnd e j).axis d k = b.axis d k := by
      unfold Block.holdAfterEnd
      simp only []
      (repeat' split) <;> simp [needHold_eq, reduceToHold_eq, modAxis_eq, same]
    have share : (b.holdAfterEnd e j).claim d k = b.claim d k := by
      unfold Block.holdAfterEnd
      simp only []
      (repeat' split) <;> simp [needHold_eq, reduceToHold_eq, modAxis_eq, same]
    obtain ⟨-, -, -, -, -, -, -, -, -, -, -, -, -, -, locks, -⟩ := sameGround_of_ground (ground_holdAfterEnd b e j)
    exact ⟨record.trans axis, fun h => share.trans (claim h), idle, by
      rw [← lost, Block.axisLost, Block.axisLost, record, locks]⟩

/-- Both axes treated in turn, each treatment leaving a lost axis. -/
theorem stands_bothAxes (h : b.Stands d k a c) (f : AxisKind → Block → Block)
    (hf : ∀ j s, s.Stands d k a c → (f j s).Stands d k a c) : (b.bothAxes f).Stands d k a c :=
  hf .el _ (hf .az _ h)

/-- R29's table for both axes leaves a lost axis. -/
theorem stands_holdBoth (h : b.Stands d k a c) (e : DishId) : (b.holdBoth e).Stands d k a c :=
  stands_bothAxes h _ fun j _ hs => stands_holdAfterEnd hs e j

/-- A mode entered leaves a lost axis. -/
theorem stands_setMode (h : b.Stands d k a c) (e : DishId) (m : Mode) (why : ModeCause) :
    (b.setMode e m why).Stands d k a c := stands_of_same h (by simp) (by simp) (by simp)

/-- A member changed leaves a lost axis. -/
theorem stands_modMember (h : b.Stands d k a c) (g : GroupId) (e : DishId) (f : Member → Member) :
    (b.modMember g e f).Stands d k a c := stands_of_same h (by simp) (by simp) (by simp)

/-- A group's report leaves a lost axis. -/
theorem stands_tellGroup (h : b.Stands d k a c) (g : GroupId) (m : Option Member) : (b.tellGroup g m).Stands d k a c :=
  stands_of_same h (by simp) (by simp) (by simp)

/-- A settled group leaves a lost axis. -/
theorem stands_settleGroup (h : b.Stands d k a c) (g : GroupId) (e : DishId) : (b.settleGroup g e).Stands d k a c :=
  stands_of_same h (by simp) (by simp) (by simp)

/-- A pending request lost leaves a lost axis. -/
theorem stands_losePending (h : b.Stands d k a c) (e : DishId) (why : ModeCause) :
    (b.losePending e why).Stands d k a c := stands_of_same h (by simp) (by simp) (by simp)

/-- A move ordered on an axis that is not lost leaves a lost axis. -/
theorem stands_orderMove (h : b.Stands d k a c) (e : DishId) (j : AxisKind) (t : Int) (n s : Nat)
    (other : ¬(e = d ∧ j = k)) : (b.orderMove e j t n s).Stands d k a c := by
  obtain ⟨axis, claim, idle, lost⟩ := h
  have record : (b.orderMove e j t n s).axis d k = b.axis d k := by simp [other]
  obtain ⟨-, -, -, -, -, -, -, -, -, -, -, -, -, -, locks, -⟩ := sameGround_of_ground (ground_orderMove b e j t n s)
  exact ⟨record.trans axis, fun h => by simp [claim h], idle, by
    rw [← lost, Block.axisLost, Block.axisLost, record, locks]⟩

/-- A group's start leaves a lost axis: it starts only where every axis of its movers is HELD (R56). -/
theorem stands_startGroup (h : b.Stands d k a c) (g : GroupId) (by_ : Option DishId) :
    (b.startGroup g by_).Stands d k a c := by
  unfold Block.startGroup
  split
  · next x _ =>
    split
    · next ready =>
      have apart : ∀ m ∈ x.movers, m.1 ≠ d := by
        rintro m mem rfl
        have held := List.all_eq_true.mp ready.2 m mem
        obtain ⟨axis, -, idle, -⟩ := h
        cases k <;> simp_all [Block.heldFor]
      refine stands_tellGroup ?_ _ _
      refine each_holds_mem (Block.Stands d k a c) _ _ (fun m mem s hs => ?_) _ (stands_of_same h rfl rfl rfl)
      have moved : (s.orderMoves m (x.nStar.getD 20) b.moveStart).Stands d k a c := by
        have other (j) : ¬(m.1 = d ∧ j = k) := fun same => apart m mem same.1
        unfold Block.orderMoves
        simp only []
        repeat' split
        · exact hs
        · exact stands_orderMove hs _ _ _ _ _ (other _)
        · exact stands_orderMove hs _ _ _ _ _ (other _)
        · exact stands_orderMove (stands_orderMove hs _ _ _ _ _ (other _)) _ _ _ _ _ (other _)
      split
      · exact stands_modMember (stands_setMode moved _ _ _) _ _ _
      · exact stands_setMode moved _ _ _
    · exact h
  · exact h

/-- A member dropped leaves a lost axis (R60). -/
theorem stands_dropMember (h : b.Stands d k a c) (g : GroupId) (e : DishId) (r : DropReason) :
    (b.dropMember g e r).Stands d k a c := by
  unfold Block.dropMember
  exact stands_startGroup (stands_settleGroup (stands_setMode (stands_holdBoth (stands_modMember h g e _) e) e _ _) g e) g _

/-- A share cut to P_hold while its axis engages leaves a lost axis. -/
theorem stands_cutEngaging (h : b.Stands d k a c) (e : DishId) (j : AxisKind) :
    (b.cutEngaging e j).Stands d k a c := by
  unfold Block.cutEngaging
  split
  · next engaging =>
    obtain ⟨axis, claim, idle, lost⟩ := h
    have record : (b.reduceToHold e j).axis d k = b.axis d k := by simp [reduceToHold_eq]
    obtain ⟨-, -, -, -, -, -, -, -, -, -, -, -, -, -, locks, -⟩ := sameGround_of_ground (ground_reduceToHold b e j)
    refine ⟨record.trans axis, fun resting => ?_, idle, by rw [← lost, Block.axisLost, Block.axisLost, record, locks]⟩
    have other : ¬(e = d ∧ j = k) := by
      rintro ⟨rfl, rfl⟩
      exact resting (by rw [← axis, engaging])
    simp [reduceToHold_eq, other, claim resting]
  · exact h

/-- A group aborted leaves a lost axis (R61, R62). -/
theorem stands_abortGroup (h : b.Stands d k a c) (g : GroupId) (r : EndReason) (by_ : Option DishId) :
    (b.abortGroup g r by_).Stands d k a c := by
  unfold Block.abortGroup
  split
  · exact h
  · have ended : ((b.endGroup g .aborted (some r) by_).withdraw (.group g)).Stands d k a c :=
      stands_of_same h (by simp) (by simp) (by simp)
    split
    · exact ended
    · refine each_holds (Block.Stands d k a c) _ _ (fun m s hs => ?_) _ ended
      split
      · refine stands_setMode (stands_bothAxes (stands_holdBoth hs _) _ fun k u hu => ?_) _ _ _
        exact stands_cutEngaging hu _ _
      · exact hs

/-- What an axis lost does to its dish's group leaves a lost axis (R60, R61). -/
theorem stands_groupLoses (h : b.Stands d k a c) (g : GroupId) (e : DishId) (r : DropReason) :
    (b.groupLoses g e r).Stands d k a c := by
  unfold Block.groupLoses
  split
  · exact h
  · split
    · split
      · exact stands_dropMember h g e r
      · exact h
    · split
      · exact stands_dropMember h g e r
      · exact h
    · exact stands_abortGroup (stands_modMember h g e _) _ _ _
    · exact stands_abortGroup (stands_modMember h g e _) _ _ _
    · exact h

/-- An internal move lost leaves a lost axis (R65, R116). -/
theorem stands_loseMove (h : b.Stands d k a c) (e : DishId) : (b.loseMove e).Stands d k a c := by
  have ended : (b.endMove e).Stands d k a c := by
    unfold Block.endMove
    split
    · exact h
    · exact stands_holdBoth (stands_of_same h (by simp) (by simp) (by simp)) e
  unfold Block.loseMove
  simp only []
  repeat' split
  · exact h
  · have cleared : ((b.endMove e).clearContext e).Stands d k a c := stands_of_same ended rfl rfl rfl
    exact stands_setMode cleared _ _ _
  · exact stands_setMode ended _ _ _
  · exact ended

/-- What a newly lost axis does to its dish's work leaves a lost axis. -/
theorem stands_loseDish (h : b.Stands d k a c) (e : DishId) (r : DropReason) : (b.loseDish e r).Stands d k a c := by
  have worked {t : Block} (ht : t.Stands d k a c) : (t.loseWork e).Stands d k a c := by
    refine stands_losePending ?_ _ _
    split
    · exact stands_holdBoth (stands_setMode (stands_loseMove ht e) _ _ _) _
    · exact stands_loseMove ht e
  cases group : (b.dish e).group with
  | none =>
    rw [loseDish_alone r group]
    exact worked h
  | some g =>
    rw [loseDish_group r group]
    exact worked (stands_groupLoses h _ _ _)

/-- What the requesters of a dish do about lost axes leaves every lost axis. -/
theorem stands_reactLost (b0 : Block) (h : b.Stands d k a c) (e : DishId) : (Block.reactLost b0 b e).Stands d k a c := by
  unfold Block.reactLost
  simp only []
  split
  · exact h
  · exact stands_loseDish h _ _

end

/-! ### The move of a dish that loses an axis (R65) -/

/-- A mode entered leaves the internal moves. -/
@[simp] theorem move_setMode (b : Block) (d : DishId) (m : Mode) (why : ModeCause) :
    (b.setMode d m why).move = b.move := by
  funext e
  simp only [Block.move, setMode_kept]

/-- An internal move ended is gone. -/
theorem move_endMove (b : Block) (d : DishId) : (b.endMove d).move d = none := by
  obtain ⟨-, -, -, -, -, -, -, -, -, move, -⟩ := outer_of_beside (beside_endMove b d)
  rw [move]
  simp

/-- An internal move lost is gone. -/
theorem move_loseMove (b : Block) (d : DishId) : (b.loseMove d).move d = none := by
  unfold Block.loseMove
  split
  · next h => exact h
  · simp only []
    split
    · rw [move_setMode]
      exact move_endMove b d
    · rw [move_setMode]
      exact move_endMove b d
    · exact move_endMove b d

/-- Tracking ended leaves the internal moves. -/
@[simp] theorem move_endTracking (b : Block) (d : DishId) (why : ModeCause) :
    (b.endTracking d why).move = b.move := by
  have held (t : Block) (k : AxisKind) : (t.holdAfterEnd d k).move = t.move := by
    obtain ⟨-, -, -, -, -, -, -, -, -, move, -⟩ := outer_of_beside (beside_holdAfterEnd t d k)
    exact move
  simp [Block.endTracking, Block.holdBoth, Block.bothAxes, held]

/-- A dish that loses an axis has no internal move. -/
theorem move_loseDish (b : Block) (d : DishId) (r : DropReason) : (b.loseDish d r).move d = none := by
  have worked (t : Block) : (t.loseWork d).move d = none := by
    unfold Block.loseWork
    simp only [Block.move, losePending_kept]
    split
    · exact (congrFun (move_endTracking ..) d).trans (move_loseMove t d)
    · exact move_loseMove t d
  cases group : (b.dish d).group with
  | none => rw [loseDish_alone r group]; exact worked b
  | some g => rw [loseDish_group r group]; exact worked _

end Sys2Proof.Machine
end

-- ==== RESET_FAULT and RESET_WEAR ====
section
/-! The requests that return an axis or a zone to service and that set a release count to 0 (R11, R18, R135). -/

open Sys2Proof

namespace Sys2Proof.Machine

/-- The conditions under which a faulted axis is returned to service, as R18 gives them. -/
theorem axisMends_iff (b : Block) (d : DishId) (k : AxisKind) : b.axisMends d k = true ↔
    (b.axis d k).state = .faulted ∧ b.heard d = true
    ∧ ∃ r, (b.axis d k).reported = some r ∧ (r.code = .none ∨ r.code = .cleared) ∧ r.released = false := by
  cases report : (b.axis d k).reported <;> simp [Block.axisMends, report, and_assoc]

/-- The conditions under which a faulted zone is returned to service, as R135 gives them. -/
theorem zoneMends_iff (b : Block) (d : DishId) (z : ZoneKind) : b.zoneMends d z = true ↔
    (b.zone d z).fault = true ∧ b.heard d = true ∧ (b.zone d z).reported = some false := by
  simp [Block.zoneMends, and_assoc]

/-- A faulted axis on its way back to service: its reason removed, order NONE, its claim given back (R18). -/
def Block.freed (b : Block) (d : DishId) (k : AxisKind) : Block :=
  ((b.setAxis d k { b.axis d k with fault := none }).setOrder d k .none).releaseClaim d k

/-- Without a lock the axis comes to rest BRAKED, which is lost to nobody. -/
theorem mendAxis_unlocked (b : Block) (d : DishId) (k : AxisKind) (h : b.axisLocks d k = 0) :
    b.mendAxis d k = (b.freed d k).enter d k .braked := by
  have rested : (b.modAxis d k fun a => { a with fault := none }).rest d k = (b.freed d k).enter d k .braked := by
    simp [rest_eq, Block.restState, modAxis_eq, h, Block.freed]
  rw [Block.mendAxis, rested]
  refine reactLost_none _ _ _ fun j => ?_
  by_cases same : k = j
  · subst same
    simp [Block.newlyLost, Block.freed, setOrder_eq, h, AxisState.lost]
  · by_cases locks : b.axisLocks d j = 0 <;> simp [Block.newlyLost, Block.freed, setOrder_eq, same, locks]

/-- Under a lock the axis comes to rest LOCKED, and the requesters of its dish act. -/
theorem mendAxis_locked (b : Block) (d : DishId) (k : AxisKind) (h : 0 < b.axisLocks d k) :
    b.mendAxis d k = Block.reactLost b ((b.freed d k).enter d k .locked) d := by
  simp [Block.mendAxis, rest_eq, Block.restState, modAxis_eq, h, Block.freed]

/-- Where an axis is newly lost, its dish has no internal move when the requesters have acted. -/
theorem move_reactLost (b0 b : Block) (d : DishId) (k : AxisKind) (h : Block.newlyLost b0 b d k = true) :
    (Block.reactLost b0 b d).move d = none := by
  unfold Block.reactLost
  simp only []
  split
  · next empty =>
    have mem : k ∈ [AxisKind.az, AxisKind.el].filter fun j => Block.newlyLost b0 b d j :=
      List.mem_filter.mpr ⟨by cases k <;> simp, h⟩
    rw [empty] at mem
    exact absurd mem List.not_mem_nil
  · exact move_loseDish ..

/-- A faulted axis that comes to rest under a lock ends the internal move of its dish and stays LOCKED (R65, R116). -/
theorem mendAxis_ends (b : Block) (d : DishId) (k : AxisKind) (faulted : (b.axis d k).state = .faulted) :
    let u := Block.reactLost b ((b.freed d k).enter d k .locked) d
    u.move d = none ∧ (u.axis d k).state = .locked := by
  have rested : ((b.freed d k).enter d k .locked).Stands d k
      (({ b.axis d k with fault := none }.ordered .none).entered .locked) none :=
    ⟨by simp [Block.freed, setOrder_eq], fun _ => by simp [Block.freed], by simp,
      by simp [Block.axisLost, Block.freed, setOrder_eq, AxisState.lost]⟩
  refine ⟨move_reactLost _ _ _ k ?_, by rw [(stands_reactLost b rested d).axis]; rfl⟩
  simp [Block.newlyLost, rested.axis, faulted, AxisState.lost]

/-- A release count set to 0, reported under the state the axis has (R11). -/
theorem clearWear_eq (b : Block) (d : DishId) (k : AxisKind) : b.clearWear d k =
    ((b.setAxis d k { b.axis d k with releases := 0, verify := false }).askCounts).tellAxis d k (b.axis d k).state := by
  simp [Block.clearWear, modAxis_eq]

/-- Settles O55, by the owners' checks in their order. -/
theorem serviceResets : Obligations.ServiceResets := by
  intro s tag num
  refine ⟨fun taken => ⟨fun unnamed => ?_, fun d k named => ?axis⟩, fun taken => ⟨fun unnamed => ?_, fun d z named => ?zone⟩,
    fun form above taken => ?form, fun taken => ⟨fun unnamed => ?_, fun d k named => ?wear⟩⟩
  · exact request_refused taken (by simp [ownResetFault, ownResetAxis, unnamed])
  case axis =>
    have mends := axisMends_iff s.block d k
    let f := s.found (.resetFault tag ⟨0, num⟩)
    have owned (present : s.block.configured d = true) : ownResetFault ⟨0, num⟩ f
        = if s.block.axisMends d k then done (f.mendAxis d k) else refuse f .state := by
      simp [f, ownResetFault, ownResetAxis, named, present]
      rfl
    refine ⟨fun absent => ?_, fun present off => ?_, fun present on_ unlocked => ?_, fun present on_ locked => ?_⟩
    · exact request_refused taken (by simp [ownResetFault, ownResetAxis, named, absent])
    · exact request_refused taken ((owned present).trans (if_neg (mt mends.mp off)))
    · exact request_replies taken ((owned present).trans ((if_pos (mends.mpr on_)).trans
        (congrArg done (mendAxis_unlocked f d k unlocked))))
    · exact ⟨request_replies taken ((owned present).trans ((if_pos (mends.mpr on_)).trans
        (congrArg done (mendAxis_locked f d k locked)))), mendAxis_ends f d k on_.1⟩
  · exact request_refused taken (by simp [ownResetFault, ownResetZone, unnamed])
  case zone =>
    have mends := zoneMends_iff s.block d z
    let f := s.found (.resetFault tag ⟨1, num⟩)
    have owned (present : s.block.configured d = true) : ownResetFault ⟨1, num⟩ f
        = if s.block.zoneMends d z then done (f.mendZone d z) else refuse f .state := by
      simp [f, ownResetFault, ownResetZone, named, present]
      rfl
    refine ⟨fun absent => ?_, fun present off => ?_, fun present on_ => ?_⟩
    · exact request_refused taken (by simp [ownResetFault, ownResetZone, named, absent])
    · exact request_refused taken ((owned present).trans (if_neg (mt mends.mp off)))
    · exact request_replies taken ((owned present).trans (if_pos (mends.mpr on_)))
  case form =>
    obtain ⟨n, rfl⟩ : ∃ n, form = n + 2 := ⟨form - 2, by omega⟩
    exact request_refused taken rfl
  · exact request_refused taken (by simp [ownResetWear, unnamed])
  case wear =>
    refine ⟨fun loose free => ?_, fun braked => ?_⟩
    · refine request_refused taken ?_
      cases state : (s.block.axis d k).state <;> simp_all [ownResetWear]
    · refine request_replies taken ?_
      have owned : ownResetWear num (s.found (.resetWear tag num)) = done ((s.found (.resetWear tag num)).clearWear d k) := by
        obtain h | h := braked <;> simp [ownResetWear, named, h]
      rw [owned, clearWear_eq]
      rfl

end Sys2Proof.Machine
end

-- ==== The e-stop latch (R20, R63, R119, R180) ====
section
/-! The latch phase by phase: it is set and reported, the axes brake, the groups are aborted, the dishes change their
modes, the queues are emptied. Each phase says what it makes of its own records and what it leaves. -/

open Sys2Proof

namespace Sys2Proof.Machine

/-! ### Folds over different things -/

/-- In a fold over things told apart by a key, the step of one thing takes what the steps before it left, and what it
makes stands through the steps behind it. -/
theorem each_once {α κ : Type} (key : α → κ) (Before After : Block → Prop) (f : α → Block → Block) (x : α)
    (before : ∀ y s, key y ≠ key x → Before s → Before (f y s)) (own : ∀ s, Before s → After (f x s))
    (after : ∀ y s, key y ≠ key x → After s → After (f y s)) (xs : List α) (apart : (xs.map key).Nodup) (mem : x ∈ xs)
    (b : Block) (hb : Before b) : After (b.each xs f) := by
  obtain ⟨front, back, rfl⟩ := List.append_of_mem mem
  simp only [List.map_append, List.map_cons, List.nodup_append, List.nodup_cons, List.mem_cons, List.mem_map] at apart
  obtain ⟨-, ⟨behind, -⟩, ahead⟩ := apart
  have split : b.each (front ++ x :: back) f = (f x (b.each front f)).each back f := by
    simp [Block.each, List.foldl_append]
  rw [split]
  refine each_holds_mem After _ _ (fun y hy s hs => after y s ?_ hs) _ (own _ ?_)
  · exact fun same => behind ⟨y, hy, same⟩
  · exact each_holds_mem Before _ _ (fun y hy s hs => before y s (ahead _ ⟨y, hy, rfl⟩ _ (Or.inl rfl)) hs) _ hb

/-- The same in a fold over different things. -/
theorem each_at {α : Type} (Before After : Block → Prop) (f : α → Block → Block) (x : α)
    (before : ∀ y s, y ≠ x → Before s → Before (f y s)) (own : ∀ s, Before s → After (f x s))
    (after : ∀ y s, y ≠ x → After s → After (f y s)) (xs : List α) (apart : xs.Nodup) (mem : x ∈ xs)
    (b : Block) (hb : Before b) : After (b.each xs f) :=
  each_once id Before After f x before own after xs (by rwa [List.map_id]) mem b hb

/-- Every axis is among the 24, once. -/
theorem allAxes_nodup : allAxes.Nodup := by decide
theorem mem_allAxes (p : DishId × AxisKind) : p ∈ allAxes := by
  obtain ⟨d, k⟩ := p
  fin_cases d <;> cases k <;> decide

/-- Every dish is among the twelve, once. -/
theorem allDishes_nodup : allDishes.Nodup := by decide
theorem mem_allDishes (d : DishId) : d ∈ allDishes := by fin_cases d <;> decide

/-- Every group slot is among the eight, once. -/
theorem allGroups_nodup : allGroups.Nodup := by decide
theorem mem_allGroups (g : GroupId) : g ∈ allGroups := by fin_cases g <;> decide

/-! ### The phases -/

/-- The latch set by a source, and reported. -/
def Block.latched (b : Block) (s : StopSource) : Block :=
  ({ b with site := { b.site with estop := true, stopSource := some s } }).tellEstop

/-- Every axis braked. -/
def Block.estopAxes (b : Block) : Block := b.each allAxes fun p u => u.estopAxis p.1 p.2

/-- The members reached dropped and the live groups aborted. -/
def Block.estopGroups (b0 b : Block) : Block :=
  (b.each allGroups fun g u => Block.stopMembers b0 u g).abortAll .estop

/-- The dishes' modes changed. -/
def Block.estopDishes (b : Block) : Block := b.each allDishes fun d u => u.estopDish d

/-- The queues emptied. -/
def Block.flushAll (b : Block) : Block := b.each allDishes fun d u => u.flush d

/-- The latch is its phases in turn. -/
theorem latchEstop_eq (b : Block) (s : StopSource) :
    b.latchEstop s = (Block.estopGroups b (b.latched s).estopAxes).estopDishes.flushAll := rfl

/-- The latch set leaves every record but its own two fields. -/
theorem latched_kept (b : Block) (s : StopSource) :
    (b.latched s).axes = b.axes ∧ (b.latched s).account = b.account ∧ (b.latched s).dishes = b.dishes
    ∧ (b.latched s).planner = b.planner ∧ (b.latched s).weather = b.weather ∧ (b.latched s).lockout = b.lockout
    ∧ (b.latched s).site = { b.site with estop := true, stopSource := some s } := by
  simp [Block.latched, Block.tellEstop]

/-! ### Axes under the latch (R20) -/

section
variable (b : Block) (d : DishId) (k : AxisKind)

@[simp] theorem beside_estopAxis : (b.estopAxis d k).beside = b.beside := by
  unfold Block.estopAxis
  split <;> simp

/-- What the latch makes of an axis. -/
theorem estopAxis_row :
    let a := b.axis d k
    let t := b.estopAxis d k
    (a.state = .releasing ∨ a.state = .held ∨ a.state = .moving ∨ a.state = .stopping →
      t.axis d k = { ({ a with need := none }.ordered .brake) with opDue := some (b.site.tb + 3000) }.entered .engaging
      ∧ t.claim d k = b.claim d k)
    ∧ (a.state = .testing →
      t.axis d k = ({ a with opDue := none, need := none }.ordered .none).entered (b.restState d k) ∧ t.claim d k = none)
    ∧ (a.state = .braked → a.stage ≠ .none →
      t.axis d k = { a with need := none, stage := .none } ∧ t.claim d k = none ∧ t.waits (.axis d k) = false)
    ∧ (a.state = .engaging ∨ a.state = .locked ∨ a.state = .faulted ∨ a.state = .offline
        ∨ (a.state = .braked ∧ a.stage = .none) →
      t.axis d k = { a with need := none } ∧ t.claim d k = b.claim d k) := by
  refine ⟨fun h => ?_, fun h => ?_, fun h staged => ?_, fun h => ?_⟩
  · rcases h with h | h | h | h <;> simp [Block.estopAxis, h, dropNeed_eq]
  · simp [Block.estopAxis, h]
  · have : b.estopAxis d k = (b.endRelease d k).releaseClaim d k := by
      simp [Block.estopAxis, h, withdrawNeed_release b d k ⟨h, staged⟩]
    rw [this]
    simp
  · have bare : ¬((b.axis d k).state = .braked ∧ (b.axis d k).stage ≠ .none) := by
      rcases h with h | h | h | h | h <;> simp [h]
    have : b.estopAxis d k = b.setAxis d k { b.axis d k with need := none } := by
      rw [← withdrawNeed_other b d k bare]
      rcases h with h | h | h | h | ⟨h, -⟩ <;> simp [Block.estopAxis, h]
    rw [this]
    simp

/-- The latch acts on one axis and its claim alone, and queues no request. -/
theorem estopAxis_other (e : DishId) (j : AxisKind) (h : ¬(d = e ∧ k = j)) :
    (b.estopAxis d k).axis e j = b.axis e j ∧ (b.estopAxis d k).claim e j = b.claim e j := by
  unfold Block.estopAxis
  split
  · simp [h]
  · simp [dropNeed_eq, h]
  · simp [dropNeed_eq, h]
  · simp [dropNeed_eq, h]
  · simp [dropNeed_eq, h]
  · unfold Block.withdrawNeed
    simp only []
    split <;> simp [dropNeed_eq, h]

end

/-- A withdrawal queues no request. -/
theorem waits_withdraw_of (b : Block) (v w : Waiter) (h : b.waits w = false) : (b.withdraw v).waits w = false := by
  unfold Block.withdraw
  split
  · simp only [Block.waits, Block.callExamine, List.any_eq_false, List.mem_filter] at h ⊢
    exact fun e mem => h e mem.1
  · exact h

/-- The latch queues no request. -/
theorem estopAxis_waits (b : Block) (d : DishId) (k : AxisKind) (w : Waiter) (h : b.waits w = false) :
    (b.estopAxis d k).waits w = false := by
  have ended : (b.endRelease d k).waits w = false := by
    exact waits_withdraw_of _ _ w (by simpa [modAxis_eq] using h)
  unfold Block.estopAxis
  split
  · simp [h]
  · simp [dropNeed_eq, h]
  · simp [dropNeed_eq, h]
  · simp [dropNeed_eq, h]
  · simp [dropNeed_eq, h]
  · unfold Block.withdrawNeed
    simp only []
    split <;> simp [dropNeed_eq, h, ended]

/-- All axes braked leave what stands beside them. -/
@[simp] theorem beside_estopAxes (b : Block) : b.estopAxes.beside = b.beside := by
  unfold Block.estopAxes
  exact each_keeps Block.beside _ _ (fun _ _ => beside_estopAxis ..) b

/-- What an axis, its claim and its request become under the latch. -/
structure Block.Stopped (b : Block) (d : DishId) (k : AxisKind) (u : Block) : Prop where
  braking : (b.axis d k).state = .releasing ∨ (b.axis d k).state = .held ∨ (b.axis d k).state = .moving
      ∨ (b.axis d k).state = .stopping →
    u.axis d k = { ({ b.axis d k with need := none }.ordered .brake) with
      opDue := some (b.site.tb + 3000) }.entered .engaging ∧ u.claim d k = b.claim d k
  tested : (b.axis d k).state = .testing →
    u.axis d k = ({ b.axis d k with opDue := none, need := none }.ordered .none).entered (b.restState d k)
    ∧ u.claim d k = none
  staged : (b.axis d k).state = .braked → (b.axis d k).stage ≠ .none →
    u.axis d k = { b.axis d k with need := none, stage := .none } ∧ u.claim d k = none ∧ u.waits (.axis d k) = false
  bare : (b.axis d k).state = .engaging ∨ (b.axis d k).state = .locked ∨ (b.axis d k).state = .faulted
      ∨ (b.axis d k).state = .offline ∨ ((b.axis d k).state = .braked ∧ (b.axis d k).stage = .none) →
    u.axis d k = { b.axis d k with need := none } ∧ u.claim d k = b.claim d k

/-- Every axis takes its row of the latch. -/
theorem estopAxes_stopped (b : Block) (d : DishId) (k : AxisKind) : b.Stopped d k b.estopAxes := by
  refine each_at (fun s => s.axis d k = b.axis d k ∧ s.claim d k = b.claim d k ∧ s.beside = b.beside)
    (b.Stopped d k) _ (d, k) ?_ ?_ ?_ _ allAxes_nodup (mem_allAxes _) b ⟨rfl, rfl, rfl⟩
  · rintro ⟨e, j⟩ s other ⟨axis, claim, beside⟩
    obtain ⟨axis', claim'⟩ := estopAxis_other s e j d k (by simpa using other)
    exact ⟨axis'.trans axis, claim'.trans claim, (beside_estopAxis ..).trans beside⟩
  · rintro s ⟨axis, claim, beside⟩
    obtain ⟨-, -, -, -, -, -, site, -, -, -, -, -, -, -, -, -, -, locks, -⟩ := outer_of_beside beside
    have rest : s.restState d k = b.restState d k := by simp only [Block.restState, locks]
    obtain ⟨braking, tested, staged, bare⟩ := estopAxis_row s d k
    rw [axis, claim, site] at braking
    rw [axis, rest] at tested
    rw [axis] at staged
    rw [axis, claim] at bare
    exact ⟨braking, tested, staged, bare⟩
  · rintro ⟨e, j⟩ s other ⟨braking, tested, staged, bare⟩
    obtain ⟨axis, claim⟩ := estopAxis_other s e j d k (by simpa using other)
    refine ⟨?_, ?_, ?_, ?_⟩
    · rwa [axis, claim]
    · rwa [axis, claim]
    · intro braked stage
      obtain ⟨record, freed, waits⟩ := staged braked stage
      exact ⟨axis.trans record, claim.trans freed, estopAxis_waits s e j _ waits⟩
    · rwa [axis, claim]

/-! ### The phases behind the axes leave them -/

/-- Axes, claims, site, weather, locks and B_eff stand; no request and no dish enters a queue. -/
structure Block.Calm (t u : Block) : Prop where
  axes : u.axes = t.axes
  claims : u.account.claims = t.account.claims
  site : u.site = t.site
  weather : u.weather = t.weather
  lockout : u.lockout = t.lockout
  waits : ∀ w, t.waits w = false → u.waits w = false
  stowq : ∀ d, d ∉ t.account.stowq → d ∉ u.account.stowq
  beff : u.account.beff = t.account.beff

theorem calm_refl (t : Block) : t.Calm t := ⟨rfl, rfl, rfl, rfl, rfl, fun _ h => h, fun _ h => h, rfl⟩

theorem calm_trans {t u v : Block} (h : t.Calm u) (h' : u.Calm v) : t.Calm v :=
  ⟨h'.axes.trans h.axes, h'.claims.trans h.claims, h'.site.trans h.site, h'.weather.trans h.weather,
    h'.lockout.trans h.lockout, fun w q => h'.waits w (h.waits w q), fun d q => h'.stowq d (h.stowq d q),
    h'.beff.trans h.beff⟩

/-- A change of neither axes, account nor ground is calm. -/
theorem calm_of_same {t u : Block} (axes : u.axes = t.axes) (account : u.account = t.account)
    (ground : u.ground = t.ground) : t.Calm u := by
  obtain ⟨-, weather, -, lockout, -, site, -⟩ := sameGround_of_ground ground
  exact ⟨axes, by rw [account], site, weather, lockout,
    fun w h => by rwa [(sameQueue_of_waitq (by rw [account]) : u.SameQueue t).2], fun d h => by rwa [account],
    by rw [account]⟩

theorem calm_withdraw (t : Block) (w : Waiter) : t.Calm (t.withdraw w) :=
  ⟨by simp, by simp, by simp, by simp, by simp, fun v => waits_withdraw_of t w v, fun d h => by simpa using h, by
    unfold Block.withdraw
    split <;> rfl⟩

/-- A fold of calm changes under the latch is calm. -/
theorem calm_each {α : Type} (xs : List α) (f : α → Block → Block) (t : Block) (latch : t.site.estop = true)
    (h : ∀ x (s : Block), s.site.estop = true → s.Calm (f x s)) : t.Calm (t.each xs f) := by
  refine each_holds (fun s => t.Calm s) xs f (fun x s calm => calm_trans calm (h x s ?_)) t (calm_refl t)
  rw [calm.site, latch]

/-- Under the latch no axis is held after an end. -/
theorem holdBoth_latched {b : Block} (d : DishId) (latch : b.site.estop = true) : b.holdBoth d = b := by
  have held (k : AxisKind) : b.holdAfterEnd d k = b := by simp [Block.holdAfterEnd, latch]
  simp [Block.holdBoth, Block.bothAxes, held]

/-- The end of an internal move under the latch. -/
theorem endMove_latched {b : Block} (d : DishId) (latch : b.site.estop = true) :
    b.endMove d = if b.move d = none then b else (b.setMove d none).withdraw (.internal d) := by
  unfold Block.endMove
  split
  · next h => simp [h]
  · next h => rw [holdBoth_latched d (by simpa using latch), if_neg (by simp [h])]

theorem calm_endMove {b : Block} (d : DishId) (latch : b.site.estop = true) : b.Calm (b.endMove d) := by
  rw [endMove_latched d latch]
  split
  · exact calm_refl b
  · have gone : b.Calm (b.setMove d none) := calm_of_same rfl rfl rfl
    exact calm_trans gone (calm_withdraw ..)

theorem calm_withdrawStow (b : Block) (d : DishId) : b.Calm (b.withdrawStow d) := by
  unfold Block.withdrawStow
  split
  · exact ⟨rfl, rfl, rfl, rfl, rfl, fun _ h => h, fun e h mem => h (List.mem_filter.mp mem).1, rfl⟩
  · exact calm_refl b

/-- A dish withdrawn from the stow-pending list is not in it. -/
theorem stowq_withdrawStow (b : Block) (d : DishId) : d ∉ (b.withdrawStow d).account.stowq := by
  unfold Block.withdrawStow
  split
  · simp [Block.callExamine]
  · next h => simpa using h

theorem calm_setMode (b : Block) (d : DishId) (m : Mode) (why : ModeCause) : b.Calm (b.setMode d m why) :=
  calm_of_same (by simp) (by simp) (by simp)

theorem calm_withdrawPending (b : Block) (d : DishId) : b.Calm (b.withdrawPending d) := by
  unfold Block.withdrawPending
  split
  · exact calm_refl b
  · exact calm_trans (calm_withdraw ..) (calm_of_same rfl rfl rfl)
  · exact calm_trans (calm_withdraw ..) (calm_of_same rfl rfl rfl)

theorem calm_losePending (b : Block) (d : DishId) (why : ModeCause) : b.Calm (b.losePending d why) := by
  unfold Block.losePending Block.tellMode
  split
  · exact calm_refl b
  · exact calm_trans (calm_withdrawPending b d) (calm_setMode ..)
  · exact calm_trans (calm_withdrawPending b d) (calm_of_same (by simp) (by simp) (ground_report ..))

theorem calm_estopMode (b : Block) (d : DishId) : b.Calm (b.estopMode d) := by
  unfold Block.estopMode
  repeat' split
  · exact calm_losePending ..
  · exact calm_losePending ..
  · exact calm_refl b
  · exact calm_refl b
  · exact calm_refl b
  · exact calm_setMode ..
  · exact calm_setMode ..

theorem calm_estopDish {b : Block} (d : DishId) (latch : b.site.estop = true) : b.Calm (b.estopDish d) := by
  have ended := calm_trans (calm_endMove d latch) (calm_withdrawStow (b.endMove d) d)
  have cleared (t : Block) (f : Dish → Dish) : t.Calm (t.modDish d f) := calm_of_same rfl rfl rfl
  exact calm_trans ended (calm_trans (cleared _ _) (calm_estopMode ..))

theorem calm_stopMembers (b0 b : Block) (g : GroupId) : b.Calm (Block.stopMembers b0 b g) := by
  unfold Block.stopMembers
  split
  · split
    · refine each_holds (fun s => b.Calm s) _ _ (fun m s calm => calm_trans calm ?_) b (calm_refl b)
      exact calm_of_same (by simp) (by simp) (by simp)
    · exact calm_refl b
  · exact calm_refl b

theorem calm_abortAll (b : Block) (r : EndReason) : b.Calm (b.abortAll r) := by
  refine each_holds (fun s => b.Calm s) _ _ (fun g s calm => calm_trans calm ?_) b (calm_refl b)
  split
  · split
    · exact calm_trans (calm_of_same (by simp) (by simp) (by simp)) (calm_withdraw ..)
    · exact calm_refl s
  · exact calm_refl s

theorem calm_estopGroups (b0 b : Block) : b.Calm (Block.estopGroups b0 b) := by
  unfold Block.estopGroups
  refine calm_trans ?_ (calm_abortAll ..)
  exact each_holds (fun s => b.Calm s) _ _ (fun g s calm => calm_trans calm (calm_stopMembers b0 s g)) b (calm_refl b)

end Sys2Proof.Machine
end

-- ==== The e-stop latch: groups and dishes (R63, R119) ====
section
/-! What the latch makes of the groups and their members, and of each dish's mode, work and queue. -/

open Sys2Proof

namespace Sys2Proof.Machine

/-! ### Groups -/

/-- In a fold whose steps keep what a step needs and what it makes, every step's making stands at the end. -/
theorem each_reaches {α : Type} (Before After : Block → Prop) (f : α → Block → Block) (xs : List α) (x : α)
    (before : ∀ y s, Before s → Before (f y s)) (own : ∀ s, Before s → After (f x s))
    (after : ∀ y s, After s → After (f y s)) (mem : x ∈ xs) (b : Block) (hb : Before b) : After (b.each xs f) := by
  obtain ⟨front, back, rfl⟩ := List.append_of_mem mem
  have split : b.each (front ++ x :: back) f = (f x (b.each front f)).each back f := by
    simp [Block.each, List.foldl_append]
  rw [split]
  exact each_holds After _ _ after _ (own _ (each_holds Before _ _ before _ hb))

/-- A dish without its group. -/
def Dish.ungrouped (x : Dish) : Dish := { x with group := none }

section
variable (b : Block) (g e : GroupId) (d : DishId)

/-- A group's report leaves the groups. -/
@[simp] theorem group_tellGroup (m : Option Member) : (b.tellGroup g m).group e = b.group e := by
  simp only [Block.group, tellGroup_kept]

/-- A member changed: its group's list of members. -/
theorem group_modMember (f : Member → Member) : (b.modMember g d f).group e = if g = e then
    (b.group g).map fun x => { x with members := x.members.map fun m => if m.dish = d then f m else m }
    else b.group e := by
  simp [Block.modMember, Block.modGroup]

@[simp] theorem planner_modDish (f : Dish → Dish) : (b.modDish d f).planner = b.planner := rfl

/-- A group ended, by its record. -/
theorem group_endGroup (st : GroupState) (r : Option EndReason) (by_ : Option DishId) :
    (b.endGroup g st r by_).group e = if g = e then
    (b.group g).map fun x => { x with state := st, reason := r, finishOrder := some b.planner.finished }
    else b.group e := by
  unfold Block.endGroup
  split
  · next h => split <;> simp_all
  · next x h =>
    have kept (t : Block) (ms : List Member) : (t.each ms fun m s => s.modDish m.dish fun y =>
        { y with group := none }).planner = t.planner := each_keeps Block.planner _ _ (fun _ _ => planner_modDish ..) t
    have set := group_setGroup b e g (some { x with state := st, reason := r, finishOrder := some b.planner.finished })
    rw [group_tellGroup, h]
    simp only [Block.group, kept] at set ⊢
    exact set

/-- A group's end leaves of a dish all but its group. -/
theorem dish_endGroup (st : GroupState) (r : Option EndReason) (by_ : Option DishId) :
    ((b.endGroup g st r by_).dish d).ungrouped = (b.dish d).ungrouped := by
  unfold Block.endGroup
  split
  · rfl
  · simp only [(sameDishes_of_dishes (tellGroup_kept ..).2.2.1).2]
    refine each_holds (fun s : Block => (s.dish d).ungrouped = (b.dish d).ungrouped) _ _ (fun m s same => ?_) _ rfl
    rw [← same]
    by_cases h : m.dish = d <;> simp [Block.modDish, h, Dish.ungrouped]

end

/-- The member's axes hold a need of its group and it is under way. -/
abbrev Block.Reaches (b : Block) (g : GroupId) (m : Member) : Prop :=
  m.active = true ∧ b.needsGroup g m.dish = true

/-- A member changed: its group's record. -/
theorem group_modMember_own {b : Block} {g : GroupId} {x : Group} (h : b.group g = some x) (d : DishId)
    (f : Member → Member) : (b.modMember g d f).group g
      = some { x with members := x.members.map fun m => if m.dish = d then f m else m } := by
  rw [group_modMember, if_pos rfl, h, Option.map_some]

/-- A group with the state x, the member of the dish d in it. -/
def Block.Joins (g : GroupId) (st : GroupState) (d : DishId) (b : Block) : Prop :=
  ∃ y, b.group g = some y ∧ y.state = st ∧ ∃ z ∈ y.members, z.dish = d

/-- A group with the state x, the member of the dish d dropped from it by the latch. -/
def Block.Drops (g : GroupId) (st : GroupState) (d : DishId) (b : Block) : Prop :=
  ∃ y, b.group g = some y ∧ y.state = st ∧ ∃ z ∈ y.members, z.dish = d ∧ z.state = .dropped ∧ z.drop = some .estop

/-- The mark the latch puts on a member. -/
def Member.stopped (m : Member) : Member := { m with state := .dropped, drop := some .estop }

section
variable {b : Block} {g : GroupId} {st : GroupState} {d : DishId}

theorem joins_modMember (h : b.Joins g st d) (e : DishId) : (b.modMember g e Member.stopped).Joins g st d := by
  obtain ⟨y, found, state, z, mem, rfl⟩ := h
  refine ⟨_, group_modMember_own found _ _, state, _, List.mem_map_of_mem mem, ?_⟩
  split <;> rfl

theorem drops_modMember_same (h : b.Joins g st d) : (b.modMember g d Member.stopped).Drops g st d := by
  obtain ⟨y, found, state, z, mem, rfl⟩ := h
  refine ⟨_, group_modMember_own found _ _, state, _, List.mem_map_of_mem mem, ?_⟩
  rw [if_pos rfl]
  exact ⟨rfl, rfl, rfl⟩

theorem drops_modMember (h : b.Drops g st d) (e : DishId) : (b.modMember g e Member.stopped).Drops g st d := by
  obtain ⟨y, found, state, z, mem, rfl, dropped⟩ := h
  refine ⟨_, group_modMember_own found _ _, state, _, List.mem_map_of_mem mem, ?_⟩
  split
  · exact ⟨rfl, rfl, rfl⟩
  · exact ⟨rfl, dropped⟩

end

/-- The members of a list dropped from a group by the latch. -/
def Block.stopEach (b : Block) (g : GroupId) (ms : List Member) : Block :=
  b.each ms fun m s => s.modMember g m.dish Member.stopped

/-- A member on the list is dropped. -/
theorem drops_stopEach {b : Block} {g : GroupId} {st : GroupState} {m : Member} {ms : List Member} (mem : m ∈ ms)
    (h : b.Joins g st m.dish) : (b.stopEach g ms).Drops g st m.dish := by
  unfold Block.stopEach
  refine each_reaches (Block.Joins g st m.dish) (Block.Drops g st m.dish) _ ms m ?_ ?_ ?_ mem b h
  · exact fun y s joins => joins_modMember joins y.dish
  · exact fun s joins => drops_modMember_same joins
  · exact fun y s drops => drops_modMember drops y.dish

/-- The group's state stands. -/
theorem state_stopEach {b : Block} {g : GroupId} {st : GroupState} (ms : List Member)
    (h : ∃ y, b.group g = some y ∧ y.state = st) : ∃ y, (b.stopEach g ms).group g = some y ∧ y.state = st := by
  unfold Block.stopEach
  refine each_holds (fun s => ∃ y, s.group g = some y ∧ y.state = st) ms _ ?_ b h
  rintro m s ⟨y, found, state⟩
  exact ⟨_, group_modMember_own found _ _, state⟩

/-- Other groups stand. -/
theorem group_stopEach_other (b : Block) {g e : GroupId} (ms : List Member) (h : g ≠ e) :
    (b.stopEach g ms).group e = b.group e := by
  unfold Block.stopEach
  exact each_keeps (fun s : Block => s.group e) _ _ (fun _ s => by simp [group_modMember, h]) b

/-- What the latch does with the members of one group. -/
theorem stopMembers_eq {b0 b : Block} {g : GroupId} {x : Group} (h : b.group g = some x) :
    Block.stopMembers b0 b g = if x.state = .starting ∨ x.state = .running then
      b.stopEach g (x.members.filter fun m => m.active && b0.needsGroup g m.dish) else b := by
  unfold Block.stopMembers
  rw [h]
  rfl

/-- A group under the latch: in its state, the members it reaches dropped. -/
def Block.Struck (b0 : Block) (g : GroupId) (x : Group) (b : Block) : Prop :=
  ∃ y, b.group g = some y ∧ y.state = x.state ∧ (x.state = .starting ∨ x.state = .running →
    ∀ m ∈ x.members, b0.Reaches g m → ∃ z ∈ y.members, z.dish = m.dish ∧ z.state = .dropped ∧ z.drop = some .estop)

/-- The members a group's latch reaches are dropped; its state stands. -/
theorem struck_stopMembers {b0 b : Block} {g : GroupId} {x : Group} (h : b.group g = some x) :
    Block.Struck b0 g x (Block.stopMembers b0 b g) := by
  rw [stopMembers_eq h]
  split
  · generalize list : (x.members.filter fun m => m.active && b0.needsGroup g m.dish) = ms
    obtain ⟨y, found, state⟩ := state_stopEach ms ⟨x, h, rfl⟩
    refine ⟨y, found, state, fun _ m mem reached => ?_⟩
    have listed : m ∈ ms := by
      rw [← list, List.mem_filter]
      exact ⟨mem, by rw [reached.1, reached.2]; rfl⟩
    obtain ⟨y', found', -, dropped⟩ := drops_stopEach listed ⟨x, h, rfl, m, mem, rfl⟩
    rw [found] at found'
    rw [Option.some.inj found']
    exact dropped
  · next still => exact ⟨x, h, rfl, fun moving => absurd moving still⟩

/-- The latch's drops in one group leave the others. -/
theorem group_stopMembers_other (b0 b : Block) {g e : GroupId} (h : g ≠ e) :
    (Block.stopMembers b0 b g).group e = b.group e := by
  cases found : b.group g with
  | none => simp [Block.stopMembers, found]
  | some x =>
    rw [stopMembers_eq found]
    split
    · exact group_stopEach_other b _ h
    · rfl

/-- A live group under the latch is aborted, its members as the latch left them. -/
theorem group_estopGroups (b0 b : Block) (g : GroupId) {x : Group} (h : b.group g = some x) (live : x.state.live = true) :
    ∃ y, (Block.estopGroups b0 b).group g = some y ∧ y.state = .aborted ∧ y.reason = some .estop
      ∧ (x.state = .starting ∨ x.state = .running → ∀ m ∈ x.members, b0.Reaches g m →
        ∃ z ∈ y.members, z.dish = m.dish ∧ z.state = .dropped ∧ z.drop = some .estop) := by
  have struck : Block.Struck b0 g x (b.each allGroups fun g u => Block.stopMembers b0 u g) := by
    refine each_at (fun s => s.group g = some x) (Block.Struck b0 g x) _ g ?_ ?_ ?_ _ allGroups_nodup
      (mem_allGroups g) b h
    · exact fun e s other found => (group_stopMembers_other b0 s other).trans found
    · exact fun s found => struck_stopMembers found
    · rintro e s other ⟨y, found, rest⟩
      exact ⟨y, (group_stopMembers_other b0 s other).trans found, rest⟩
  obtain ⟨y, found, state, dropped⟩ := struck
  have ended (s : Block) (e : GroupId) (hs : e ≠ g) (z : Group) (fate : s.group g = some z) :
      (match s.group e with
        | some x => if x.state.live then (s.endGroup e .aborted (some .estop) none).withdraw (.group e) else s
        | none => s).group g = some z := by
    split
    · split
      · simpa [group_endGroup, hs] using fate
      · exact fate
    · exact fate
  obtain ⟨z, fate, aborted, reason, members⟩ : ∃ z, (Block.estopGroups b0 b).group g = some z ∧ z.state = .aborted
      ∧ z.reason = some .estop ∧ z.members = y.members := by
    unfold Block.estopGroups Block.abortAll
    refine each_at (fun s => s.group g = some y) (fun s => ∃ z, s.group g = some z ∧ z.state = .aborted
      ∧ z.reason = some .estop ∧ z.members = y.members) _ g ?_ ?_ ?_ _ allGroups_nodup (mem_allGroups g) _ found
    · exact fun e s other fate => ended s e other y fate
    · intro s fate
      simp [fate, state, live, group_endGroup]
    · rintro e s other ⟨z, fate, rest⟩
      exact ⟨z, ended s e other z fate, rest⟩
  exact ⟨z, fate, aborted, reason, members ▸ dropped⟩

/-- The groups' phase leaves the moves, and of a dish its mode and its pending request. -/
theorem estopGroups_work (b0 b : Block) :
    (Block.estopGroups b0 b).planner.moves = b.planner.moves
    ∧ ∀ d, ((Block.estopGroups b0 b).dish d).mode = (b.dish d).mode
      ∧ ((Block.estopGroups b0 b).dish d).pendingReq = (b.dish d).pendingReq := by
  have kept (P : Block → Block → Prop) (refl : ∀ s, P s s) (trans : ∀ s t u, P s t → P t u → P s u)
      (member : ∀ s g e, P s (s.modMember g e Member.stopped))
      (ended : ∀ s g, P s ((s.endGroup g .aborted (some .estop) none).withdraw (.group g))) :
      P b (Block.estopGroups b0 b) := by
    unfold Block.estopGroups Block.abortAll
    refine trans _ _ _ (each_holds (P b) _ _ (fun g s h => trans _ _ _ h ?_) b (refl b))
      (each_holds (P _) _ _ (fun g s h => trans _ _ _ h ?_) _ (refl _))
    · cases found : s.group g with
      | none => simpa [Block.stopMembers, found] using refl s
      | some x =>
        rw [stopMembers_eq found]
        split
        · exact each_holds (P s) _ _ (fun m t h => trans _ _ _ h (member t g m.dish)) s (refl s)
        · exact refl s
    · split
      · split
        · exact ended s g
        · exact refl s
      · exact refl s
  refine kept (fun s t => t.planner.moves = s.planner.moves ∧ ∀ d, (t.dish d).mode = (s.dish d).mode
    ∧ (t.dish d).pendingReq = (s.dish d).pendingReq) (fun _ => ⟨rfl, fun _ => ⟨rfl, rfl⟩⟩) ?_ ?_ ?_
  · rintro s t u ⟨moves, dish⟩ ⟨moves', dish'⟩
    exact ⟨moves'.trans moves, fun d => ⟨(dish' d).1.trans (dish d).1, (dish' d).2.trans (dish d).2⟩⟩
  · intro s g e
    obtain ⟨-, -, -, moves, -⟩ := modMember_kept s e g Member.stopped
    exact ⟨moves, fun d => by simp [Block.dish]⟩
  · intro s g
    refine ⟨by simp, fun d => ?_⟩
    have same := dish_endGroup s g d .aborted (some .estop) none
    exact ⟨by simpa [Dish.ungrouped] using congrArg Dish.mode same,
      by simpa [Dish.ungrouped] using congrArg Dish.pendingReq same⟩

end Sys2Proof.Machine
end

-- ==== The e-stop latch: dishes, and the latch as a whole (R20, R27, R30, R119, R180) ====
section
/-! What the latch makes of each dish's mode, work and queue; then the latch, the marks and the command that clears it. -/

open Sys2Proof

namespace Sys2Proof.Machine

/-! ### A dish's mode under the latch -/

section
variable (b : Block) (d e : DishId)

/-- A dish's record entering a mode. -/
def Dish.into (x : Dish) (m : Mode) : Dish :=
  { x with
    mode := m
    blocks := if m = .stowBlocked then x.blocks else none
    intent := if m = .returning then x.intent else none
    dwell := if m = .shedDwell then x.dwell else .stopped }

/-- A pending request lost: a pending TRACK makes the dish IDLE. -/
theorem dish_losePending (why : ModeCause) : (b.losePending d why).dish e =
    if d = e then match (b.dish d).pendingReq with
      | none => b.dish d
      | some .track => { b.dish d with pendingReq := none }.into .idle
      | some .hold => { b.dish d with pendingReq := none }
    else b.dish e := by
  by_cases same : d = e
  · subst same
    cases pending : (b.dish d).pendingReq with
    | none => simp [Block.losePending, pending]
    | some r => cases r <;> simp [Block.losePending, Block.withdrawPending, Block.tellMode, pending, Block.modDish,
        Dish.into]
  · cases pending : (b.dish d).pendingReq with
    | none => simp [Block.losePending, pending, same]
    | some r => cases r <;> simp [Block.losePending, Block.withdrawPending, Block.tellMode, pending, Block.modDish,
        same]

/-- The mode changed by the latch is one dish's. -/
theorem dish_estopMode_other (h : d ≠ e) : (b.estopMode d).dish e = b.dish e := by
  unfold Block.estopMode
  repeat' split
  all_goals simp [dish_losePending, h]

@[simp] theorem planner_losePending (why : ModeCause) : (b.losePending d why).planner = b.planner := by simp

@[simp] theorem planner_estopMode : (b.estopMode d).planner = b.planner := by
  unfold Block.estopMode
  repeat' split
  all_goals simp

@[simp] theorem points_estopMode : (b.estopMode d).points = b.points := by
  have lost (why) : (b.losePending d why).points = b.points :=
    (sameGround_of_ground (losePending_kept b d why).2.2.2).1
  have set (m why) : (b.setMode d m why).points = b.points :=
    (sameGround_of_ground (setMode_kept b d m why).2.2.2).1
  unfold Block.estopMode
  repeat' split
  all_goals simp [lost, set]

end

/-- What the latch makes of a dish: its record and work before, and after. -/
structure Dish.Shut (level : Level) (x y : Dish) : Prop where
  context : y.context = none
  deferred : y.deferred = false
  intent : y.intent = none
  dwell : y.dwell = .stopped
  idle : x.mode = .idle → y.mode = .idle ∧ y.pendingReq = none
  awaiting : x.mode = .trackWait → x.pendingReq = some .track → y.mode = .idle ∧ y.pendingReq = none
  working : x.mode = .tracking ∨ x.mode = .slewWait ∨ x.mode = .slewing ∨ x.mode = .shedding ∨ x.mode = .shedDwell
    ∨ x.mode = .returning → y.mode = .idle
  stowed : x.mode = .stowed → y.mode = if level = .stow then .stowed else .idle
  stowing : x.mode = .stowing ∨ x.mode = .stowBlocked → y.mode = x.mode

/-- The latch's row for a dish whose work is cleared. -/
theorem shut_estopMode (b : Block) (d : DishId) (context : (b.dish d).context = none)
    (deferred : (b.dish d).deferred = false) (intent : (b.dish d).intent = none) (dwell : (b.dish d).dwell = .stopped) :
    Dish.Shut b.weather.level (b.dish d) ((b.estopMode d).dish d) := by
  unfold Block.estopMode
  cases mode : (b.dish d).mode with
  | idle | trackWait =>
    rw [dish_losePending, if_pos rfl]
    cases pending : (b.dish d).pendingReq with
    | none => constructor <;> simp [*]
    | some r => cases r <;> constructor <;> simp [*, Dish.into]
  | stowing | stowBlocked => constructor <;> simp [*]
  | stowed => by_cases level : b.weather.level = .stow <;> constructor <;> simp [*]
  | tracking | slewWait | slewing | shedding | shedDwell | returning =>
    constructor <;> simp [*]

/-- The row reads of the dish before only its mode and its pending request. -/
theorem shut_of_same {level : Level} {x x' y : Dish} (h : Dish.Shut level x y) (mode : x.mode = x'.mode)
    (pending : x.pendingReq = x'.pendingReq) : Dish.Shut level x' y := by
  obtain ⟨context, deferred, intent, dwell, idle, awaiting, working, stowed, stowing⟩ := h
  rw [mode, pending] at awaiting
  rw [mode] at idle working stowed stowing
  exact ⟨context, deferred, intent, dwell, idle, awaiting, working, stowed, stowing⟩

/-- The row says nothing of the clamp. -/
theorem shut_clamp {level : Level} {x y : Dish} (h : Dish.Shut level x y) (v : Bool) :
    Dish.Shut level x { y with clampOpen := v } := by
  obtain ⟨context, deferred, intent, dwell, idle, awaiting, working, stowed, stowing⟩ := h
  exact ⟨context, deferred, intent, dwell, idle, awaiting, working, stowed, stowing⟩

/-! ### A dish under the latch (R119) -/

/-- What the latch has made of a dish and its work. -/
structure Block.Closed (b : Block) (d : DishId) (u : Block) : Prop where
  shut : Dish.Shut b.weather.level (b.dish d) (u.dish d)
  move : u.move d = none
  waits : b.move d ≠ none → u.waits (.internal d) = false
  stowq : d ∉ u.account.stowq

/-- What the latch's change of a dish reads of the machine stands. -/
structure Block.Unshut (b : Block) (d : DishId) (s : Block) : Prop where
  mode : (s.dish d).mode = (b.dish d).mode
  pending : (s.dish d).pendingReq = (b.dish d).pendingReq
  move : s.move d = b.move d
  latch : s.site.estop = true
  level : s.weather.level = b.weather.level

/-- The work of a dish ended before its mode changes. -/
def Block.workEnded (b : Block) (d : DishId) : Block :=
  ((b.endMove d).withdrawStow d).modDish d fun x =>
    { x with context := none, deferred := false, intent := none, dwell := .stopped }

theorem estopDish_eq (b : Block) (d : DishId) : b.estopDish d = (b.workEnded d).estopMode d := rfl

section
variable {b : Block}

theorem withdrawStow_kept (b : Block) (d : DishId) :
    (b.withdrawStow d).dishes = b.dishes ∧ (b.withdrawStow d).planner = b.planner
    ∧ (b.withdrawStow d).axes = b.axes := by
  unfold Block.withdrawStow
  split <;> exact ⟨rfl, rfl, rfl⟩

/-- The end of a move under the latch leaves the dishes and the groups, and every other move. -/
theorem endMove_latched_kept (latch : b.site.estop = true) (d : DishId) :
    (b.endMove d).dishes = b.dishes ∧ (b.endMove d).planner.groups = b.planner.groups
    ∧ (∀ e, d ≠ e → (b.endMove d).move e = b.move e) := by
  rw [endMove_latched d latch]
  split
  · exact ⟨rfl, rfl, fun _ _ => rfl⟩
  · exact ⟨by simp, by simp; rfl, fun e h => by simp [h]⟩

/-- A dish's work ended leaves the other dishes and their moves, and the groups. -/
theorem workEnded_other (latch : b.site.estop = true) {d e : DishId} (h : d ≠ e) :
    (b.workEnded d).dish e = b.dish e ∧ (b.workEnded d).move e = b.move e := by
  obtain ⟨dishes, -, moves⟩ := endMove_latched_kept latch d
  obtain ⟨dishes', planner, -⟩ := withdrawStow_kept (b.endMove d) d
  refine ⟨?_, ?_⟩
  · simp only [Block.workEnded, Block.modDish, dish_setDish, if_neg h]
    simp only [Block.dish, dishes', dishes]
  · rw [← moves e h]
    simp [Block.workEnded, Block.move, planner]

theorem group_estopDish (latch : b.site.estop = true) (d : DishId) (g : GroupId) :
    (b.estopDish d).group g = b.group g := by
  obtain ⟨-, groups, -⟩ := endMove_latched_kept latch d
  obtain ⟨-, planner, -⟩ := withdrawStow_kept (b.endMove d) d
  simp [estopDish_eq, Block.workEnded, Block.group, planner, groups]

theorem estopDish_other (latch : b.site.estop = true) {d e : DishId} (h : d ≠ e) :
    (b.estopDish d).dish e = b.dish e ∧ (b.estopDish d).move e = b.move e := by
  obtain ⟨dish, move⟩ := workEnded_other latch h
  rw [estopDish_eq]
  exact ⟨(dish_estopMode_other _ _ _ h).trans dish, by rw [← move]; simp [Block.move]⟩

/-- The latch closes the dish it is at. -/
theorem closed_estopDish {s : Block} {d : DishId} (h : b.Unshut d s) : b.Closed d (s.estopDish d) := by
  obtain ⟨mode, pending, move, latch, level⟩ := h
  obtain ⟨dishes, -, -⟩ := endMove_latched_kept latch d
  obtain ⟨dishes', planner, -⟩ := withdrawStow_kept (s.endMove d) d
  have record : (s.workEnded d).dish d
      = { s.dish d with context := none, deferred := false, intent := none, dwell := .stopped } := by
    have same : ((s.endMove d).withdrawStow d).dish d = s.dish d := by simp only [Block.dish, dishes', dishes]
    simp [Block.workEnded, Block.modDish, same]
  have ended := calm_trans (calm_endMove d latch) (calm_withdrawStow (s.endMove d) d)
  have weather : (s.workEnded d).weather = s.weather := ended.weather
  rw [estopDish_eq]
  refine ⟨?_, ?_, fun moving => ?_, ?_⟩
  · have row := shut_estopMode (s.workEnded d) d (by rw [record]) (by rw [record]) (by rw [record]) (by rw [record])
    rw [weather, level] at row
    exact shut_of_same row (by rw [record, ← mode]) (by rw [record, ← pending])
  · have gone := move_endMove s d
    simpa [Block.workEnded, Block.move, planner] using gone
  · refine (calm_estopMode ..).waits _ ?_
    refine (calm_withdrawStow (s.endMove d) d).waits _ ?_
    rw [endMove_latched d latch, if_neg (by rwa [move])]
    exact waits_withdraw ..
  · have gone : d ∉ (s.workEnded d).account.stowq := stowq_withdrawStow (s.endMove d) d
    exact (calm_estopMode ..).stowq _ gone

/-- A closed dish stays closed while another is. -/
theorem closed_estopDish_other {s : Block} {d e : DishId} (latch : s.site.estop = true) (other : e ≠ d)
    (h : b.Closed d s) : b.Closed d (s.estopDish e) := by
  obtain ⟨shut, move, waits, stowq⟩ := h
  obtain ⟨dish', move'⟩ := estopDish_other latch other
  have calm := calm_estopDish e latch
  exact ⟨by rwa [dish'], by rwa [move'], fun moving => calm.waits _ (waits moving), calm.stowq _ stowq⟩

/-- The latch closes every dish. -/
theorem closed_estopDishes (latch : b.site.estop = true) (d : DishId) : b.Closed d b.estopDishes := by
  unfold Block.estopDishes
  refine And.left (b := (b.each allDishes fun d u => u.estopDish d).site.estop = true) ?_
  refine each_at (fun s => b.Unshut d s) (fun s => b.Closed d s ∧ s.site.estop = true) _ d ?_ ?_ ?_ _
    allDishes_nodup (mem_allDishes d) b ⟨rfl, rfl, rfl, latch, rfl⟩
  · rintro e s other ⟨mode, pending, move, latch, level⟩
    obtain ⟨dish', move'⟩ := estopDish_other latch other
    have calm := calm_estopDish e latch
    exact ⟨by rw [dish', mode], by rw [dish', pending], by rw [move', move], by rw [calm.site, latch],
      by rw [calm.weather, level]⟩
  · intro s open_
    exact ⟨closed_estopDish open_, by rw [(calm_estopDish d open_.latch).site, open_.latch]⟩
  · rintro e s other ⟨closed, latch⟩
    exact ⟨closed_estopDish_other latch other closed, by rw [(calm_estopDish e latch).site, latch]⟩

theorem calm_estopDishes (latch : b.site.estop = true) : b.Calm b.estopDishes :=
  calm_each _ _ b latch fun d _ hs => calm_estopDish d hs

theorem group_estopDishes (latch : b.site.estop = true) (g : GroupId) : b.estopDishes.group g = b.group g := by
  unfold Block.estopDishes
  refine And.left (b := (b.each allDishes fun d u => u.estopDish d).site.estop = true) ?_
  refine each_holds (fun s => s.group g = b.group g ∧ s.site.estop = true) _ _ ?_ b ⟨rfl, latch⟩
  rintro d s ⟨group, latch⟩
  exact ⟨(group_estopDish latch d g).trans group, by rw [(calm_estopDish d latch).site, latch]⟩

/-! ### The queues emptied -/

/-- A queue emptied and the clamp closed. -/
theorem flush_row (b : Block) (d e : DishId) :
    (b.flush d).queue e = (if d = e then [] else b.queue e)
    ∧ (b.flush d).dish e = (if d = e then { b.dish d with clampOpen := false } else b.dish e) := by
  by_cases h : d = e <;> simp [Block.flush, Block.closeClamp, Block.modDish, h]

theorem calm_flush (b : Block) (d : DishId) : b.Calm (b.flush d) := ⟨rfl, rfl, rfl, rfl, rfl, fun _ h => h, fun _ h => h, rfl⟩

theorem calm_flushAll (b : Block) : b.Calm b.flushAll :=
  each_holds (fun s => b.Calm s) _ _ (fun _ _ calm => calm_trans calm (calm_flush ..)) b (calm_refl b)

/-- Every queue is empty and every clamp closed; the dishes are otherwise as they were. -/
theorem flushAll_row (b : Block) (d : DishId) :
    b.flushAll.queue d = [] ∧ b.flushAll.dish d = { b.dish d with clampOpen := false } := by
  unfold Block.flushAll
  refine each_at (fun s => s.dish d = b.dish d)
    (fun s => s.queue d = [] ∧ s.dish d = { b.dish d with clampOpen := false }) _ d ?_ ?_ ?_ _ allDishes_nodup
    (mem_allDishes d) b rfl
  · intro e s other same
    rw [(flush_row s e d).2, if_neg other, same]
  · intro s same
    rw [(flush_row s d d).1, (flush_row s d d).2, if_pos rfl, if_pos rfl, same]
    exact ⟨rfl, rfl⟩
  · rintro e s other ⟨queue, dish⟩
    rw [(flush_row s e d).1, (flush_row s e d).2, if_neg other, if_neg other]
    exact ⟨queue, dish⟩

@[simp] theorem planner_flush (b : Block) (d : DishId) : (b.flush d).planner = b.planner := rfl

theorem planner_flushAll (b : Block) : b.flushAll.planner = b.planner :=
  each_keeps Block.planner _ _ (fun _ _ => planner_flush ..) b

end

/-! ### The latch as a whole (R180) -/

section
variable (b : Block) (src : StopSource)

/-- The phases up to the axes leave the dishes' modes, requests and moves, the groups, the weather and the locks. -/
theorem braked_kept :
    let t := (b.latched src).estopAxes
    t.site = { b.site with estop := true, stopSource := some src } ∧ t.weather = b.weather ∧ t.lockout = b.lockout
    ∧ t.planner = b.planner ∧ ∀ d, (t.dish d).mode = (b.dish d).mode ∧ (t.dish d).pendingReq = (b.dish d).pendingReq := by
  intro t
  obtain ⟨-, -, dishes, planner, weather, lockout, site⟩ := latched_kept b src
  have beside := beside_estopAxes (b.latched src)
  obtain ⟨planner', -, weather', -, lockout', -, site'⟩ := records_of_beside beside
  refine ⟨site'.trans site, weather'.trans weather, lockout'.trans lockout, planner'.trans planner, fun d => ?_⟩
  have same := dish_of_beside beside d
  have dish : (b.latched src).dish d = b.dish d := by simp only [Block.dish, dishes]
  rw [dish] at same
  exact ⟨by simpa using congrArg Dish.mode same, by simpa using congrArg Dish.pendingReq same⟩

/-- Behind the axes the latch is calm. -/
theorem calm_latchEstop : (b.latched src).estopAxes.Calm (b.latchEstop src) := by
  obtain ⟨site, -⟩ := braked_kept b src
  have groups := calm_estopGroups b (b.latched src).estopAxes
  have latch : (Block.estopGroups b (b.latched src).estopAxes).site.estop = true := by rw [groups.site, site]
  rw [latchEstop_eq]
  generalize Block.estopGroups b (b.latched src).estopAxes = t at groups latch
  exact calm_trans (calm_trans groups (calm_estopDishes latch)) (calm_flushAll t.estopDishes)

/-- The axes under the latch. -/
theorem latchEstop_stopped (d : DishId) (k : AxisKind) : b.Stopped d k (b.latchEstop src) := by
  obtain ⟨axes, account, -, -, -, lockout, site⟩ := latched_kept b src
  have calm := calm_latchEstop b src
  have row := estopAxes_stopped (b.latched src) d k
  have axis' : (b.latchEstop src).axis d k = (b.latched src).estopAxes.axis d k := by
    rw [(sameAxes_of_axes calm.axes).2]
  have claim' : (b.latchEstop src).claim d k = (b.latched src).estopAxes.claim d k := by
    rw [(sameClaims_of_claims calm.claims).2]
  have axis : (b.latched src).axis d k = b.axis d k := by rw [(sameAxes_of_axes axes).2]
  have claim : (b.latched src).claim d k = b.claim d k := by simp only [Block.claim, account]
  have locks : (b.latched src).axisLocks = b.axisLocks := by funext d k; simp only [Block.axisLocks, lockout]
  have rest : (b.latched src).restState d k = b.restState d k := by simp only [Block.restState, locks]
  obtain ⟨braking, tested, staged, bare⟩ := row
  rw [axis, claim, site, ← axis', ← claim'] at braking
  rw [axis, rest, ← axis', ← claim'] at tested
  rw [axis, ← axis', ← claim'] at staged
  rw [axis, claim, ← axis', ← claim'] at bare
  refine ⟨braking, tested, fun braked stage => ?_, bare⟩
  obtain ⟨record, freed, waits⟩ := staged braked stage
  exact ⟨record, freed, calm.waits _ waits⟩

/-- Under the latch no axis keeps a need. -/
theorem need_of_stopped {b u : Block} {d : DishId} {k : AxisKind} (h : b.Stopped d k u) : (u.axis d k).need = none := by
  obtain ⟨braking, tested, staged, bare⟩ := h
  cases state : (b.axis d k).state with
  | releasing | held | moving | stopping => rw [(braking (by simp [state])).1]; simp
  | testing => rw [(tested state).1]; simp
  | engaging | locked | faulted | offline => rw [(bare (by simp [state])).1]
  | braked =>
    by_cases stage : (b.axis d k).stage = .none
    · rw [(bare (by simp [state, stage])).1]
    · rw [(staged state stage).1]

/-- The dishes under the latch. -/
theorem latchEstop_closed (d : DishId) :
    b.Closed d (b.latchEstop src) ∧ ((b.latchEstop src).dish d).clampOpen = false ∧ (b.latchEstop src).queue d = [] := by
  obtain ⟨site, weather, -, planner, dishes⟩ := braked_kept b src
  have groups := calm_estopGroups b (b.latched src).estopAxes
  have latch : (Block.estopGroups b (b.latched src).estopAxes).site.estop = true := by rw [groups.site, site]
  have level : (Block.estopGroups b (b.latched src).estopAxes).weather = b.weather := groups.weather.trans weather
  obtain ⟨row, move, waits, stowq⟩ := closed_estopDishes latch d
  obtain ⟨queue, dish⟩ := flushAll_row (Block.estopGroups b (b.latched src).estopAxes).estopDishes d
  have calm := calm_flushAll (Block.estopGroups b (b.latched src).estopAxes).estopDishes
  obtain ⟨moves, before⟩ := estopGroups_work b (b.latched src).estopAxes
  have same (e) : (Block.estopGroups b (b.latched src).estopAxes).move e = b.move e := by
    simp only [Block.move, moves, planner]
  rw [latchEstop_eq]
  refine ⟨⟨?_, ?_, fun moving => calm.waits _ (waits (by rwa [same])), calm.stowq _ stowq⟩, ?_, queue⟩
  · rw [dish]
    rw [level] at row
    exact shut_clamp (shut_of_same row ((before d).1.trans (dishes d).1) ((before d).2.trans (dishes d).2)) false
  · simp only [Block.move, planner_flushAll] at move ⊢
    exact move
  · rw [dish]

/-- The groups under the latch. -/
theorem group_latchEstop (g : GroupId) {x : Group} (h : b.group g = some x) (live : x.state.live = true) :
    ∃ y, (b.latchEstop src).group g = some y ∧ y.state = .aborted ∧ y.reason = some .estop
      ∧ (x.state = .starting ∨ x.state = .running → ∀ m ∈ x.members, b.Reaches g m →
        ∃ z ∈ y.members, z.dish = m.dish ∧ z.state = .dropped ∧ z.drop = some .estop) := by
  obtain ⟨site, -, -, planner, -⟩ := braked_kept b src
  have groups := calm_estopGroups b (b.latched src).estopAxes
  have latch : (Block.estopGroups b (b.latched src).estopAxes).site.estop = true := by rw [groups.site, site]
  have found : (b.latched src).estopAxes.group g = some x := by
    rw [← h]
    simp only [Block.group, planner]
  obtain ⟨y, fate, rest⟩ := group_estopGroups b _ g found live
  refine ⟨y, ?_, rest⟩
  rw [latchEstop_eq, ← fate, ← group_estopDishes latch g]
  simp only [Block.group, planner_flushAll]

end

/-! ### A stow under the latch (R108, R109) -/

/-- A stow broken off leaves the dish's mode and the site. -/
theorem haltStow_kept (b : Block) (d : DishId) :
    ((b.haltStow d).dish d).mode = (b.dish d).mode ∧ (b.haltStow d).site = b.site := by
  have beside : (b.haltStow d).beside = (b.withdrawStow d).beside := by
    have braked (t : Block) (k : AxisKind) :
        (if t.axisLost d k then t else t.brakeInPlace d k).beside = t.beside := by split <;> simp
    unfold Block.haltStow Block.bothAxes
    simp only [braked]
  obtain ⟨-, -, -, -, -, -, site⟩ := records_of_beside beside
  have mode := congrArg Dish.mode (dish_of_beside beside d)
  refine ⟨?_, site.trans (calm_withdrawStow b d).site⟩
  simpa [Block.dish, withdrawStow_kept] using mode

/-- A stowing or blocked dish under the latch is blocked, the e-stop among its reasons. -/
theorem settleBlocks_latched {b : Block} (d : DishId) (latch : b.site.estop = true)
    (mode : (b.dish d).mode = .stowing ∨ (b.dish d).mode = .stowBlocked) :
    ((b.settleBlocks d).dish d).mode = .stowBlocked
    ∧ ∃ r, ((b.settleBlocks d).dish d).blocks = some r ∧ r.estop = true := by
  have reason (t : Block) (ht : t.site.estop = true) : (t.blockReasons d).estop = true := ht
  have any : (b.blockReasons d).any = true := by simp [Blocks.any, reason b latch]
  rcases mode with mode | mode
  · have row (why : ModeCause) := dish_setMode ((b.haltStow d).modDish d fun x =>
      { x with blocks := some ((b.haltStow d).blockReasons d) }) d d .stowBlocked why
    have halted : ((b.haltStow d).blockReasons d).estop = true := reason _ (by rw [(haltStow_kept b d).2, latch])
    simp only [Block.settleBlocks, mode, any, if_true, Block.blockStow, row]
    exact ⟨trivial, _, by simp [Block.modDish], halted⟩
  · cases blocks : (b.dish d).blocks with
    | none => simp [Block.settleBlocks, mode, any, blocks, Block.modDish, reason b latch]
    | some old =>
      by_cases same : old = b.blockReasons d
      · simp [Block.settleBlocks, mode, blocks, same, any, reason b latch]
      · simp [Block.settleBlocks, mode, any, blocks, same, Block.tellMode, Block.modDish, reason b latch]

/-! ### The marks and the events (R119, R180, R181) -/

/-- A mark set or cleared is that source's alone. -/
theorem get_put (m : StopMarks) (src x : StopSource) (v : Bool) :
    (m.put src v).get x = if x = src then v else m.get x := by
  cases src with
  | input => cases x with
    | line l => cases l <;> rfl
    | _ => rfl
  | line l => cases l <;> cases x with
    | line l' => cases l' <;> rfl
    | _ => rfl
  | cabinet d => cases x with
    | line l => cases l <;> rfl
    | cabinet e => simp [StopMarks.put, StopMarks.get, Fin.getElem_fin, Vector.getElem_set, Fin.ext_iff, eq_comm]
    | _ => rfl

/-- An event of the blocks of a machine that has started. -/
theorem event_started {s : State} (h : s.started) (f : Block → Block) : s.event f = .next (s.ends (f s.block)) := by
  have running : ¬s.block.site.startup = .starting := h
  simp [State.event, State.run, State.ends, running]

/-- A mark set while the latch is open, as the latch over the machine with the mark. -/
theorem setMark_latches {b : Block} {src : StopSource} (fresh : b.site.marks.get src ≠ true)
    (open_ : b.site.estop = false) :
    b.setMark src true = ({ b with site := { b.site with marks := b.site.marks.put src true } }).latchEstop src := by
  simp [Block.setMark, fresh, open_]

/-- A source's mark follows it; the other marks stand. -/
theorem marks_setMark (b : Block) (src x : StopSource) (v : Bool) :
    (b.setMark src v).site.marks.get x = if x = src then v else b.site.marks.get x := by
  by_cases same : b.site.marks.get src = v
  · have unchanged : b.setMark src v = b := by simp [Block.setMark, same]
    rw [unchanged]
    split
    · next h => rw [h, same]
    · rfl
  · have marks : (b.setMark src v).site.marks = b.site.marks.put src v := by
      simp only [Block.setMark, same, if_false]
      split
      · simp [Block.tellEstop]
      · split
        · rw [(calm_latchEstop _ src).site, (braked_kept _ src).1]
        · rfl
    rw [marks, get_put]

/-- The members of a group whose axes carry its need are reached. -/
theorem reaches_of_need {b : Block} {g : GroupId} {m : Member} (state : m.state = .planned ∨ m.state = .moving)
    (need : ∃ k n, (b.axis m.dish k).need = some n ∧ n.who = .group g) : b.Reaches g m := by
  obtain ⟨k, n, recorded, who⟩ := need
  refine ⟨by simpa [Member.active] using state, ?_⟩
  cases k <;> simp [Block.needsGroup, recorded, who]

/-- CLEAR_ESTOP's owner opens the latch where no mark stands (R181). -/
theorem ownClearEstop_eq (b : Block) : ownClearEstop b =
    if b.site.marks.any then refuse b .state else done (if b.site.estop then b.unlatch else b) := rfl

/-- The axis braked by the latch. -/
theorem braking_fields {b u : Block} {d : DishId} {k : AxisKind} (h : b.Stopped d k u)
    (state : (b.axis d k).state = .releasing ∨ (b.axis d k).state = .held ∨ (b.axis d k).state = .moving
      ∨ (b.axis d k).state = .stopping) :
    (u.axis d k).state = .engaging ∧ (u.axis d k).order = .brake ∧ (u.axis d k).opDue = some (b.site.tb + 3000)
    ∧ u.claim d k = b.claim d k := by
  obtain ⟨axis, claim⟩ := h.braking state
  rw [axis]
  exact ⟨rfl, by simp, by simp, claim⟩

/-- The axis whose brake test the latch breaks off. -/
theorem tested_fields {b u : Block} {d : DishId} {k : AxisKind} (h : b.Stopped d k u)
    (state : (b.axis d k).state = .testing) :
    (u.axis d k).state = (if 0 < b.axisLocks d k then .locked else .braked) ∧ (u.axis d k).order = .none
    ∧ (u.axis d k).opDue = none ∧ u.claim d k = none := by
  obtain ⟨axis, claim⟩ := h.tested state
  rw [axis]
  exact ⟨rfl, by simp, by simp, claim⟩

/-- Settles O56: the marks follow their sources, the latch stops axes, groups and dishes, CLEAR_ESTOP opens it. -/
theorem estopLatch : Obligations.EstopLatch := by
  refine ⟨fun s started => ⟨event_started started fun b => b.setMark .input true,
    event_started started fun b => b.setMark .input false⟩, fun s tag taken => ?_, fun b src v => ?_⟩
  · refine ⟨fun marked => ?_, fun bare shut => ?_, fun bare latch => ?_⟩
    · exact request_refused taken (by simp [ownClearEstop_eq, marked])
    · exact request_replies taken (by simp [ownClearEstop_eq, bare, shut]; rfl)
    · refine request_replies taken ?_
      have clears : ownClearEstop (s.found (.clearEstop tag)) = done (s.found (.clearEstop tag)).unlatch := by
        simp [ownClearEstop_eq, bare, latch]
      rw [clears]
      rfl
  · intro u put
    refine ⟨fun x => ?_, fun same => by simp [u, Block.setMark, same], fun fresh latch => ?_, fun fresh open_ off => ?_,
      fun fresh open_ on => ?_⟩
    · exact marks_setMark b src x v
    · simp [u, put, Block.setMark, fresh, latch]
    · subst off
      simp [u, put, Block.setMark, fresh, open_]
    · subst on
      have latched : u = put.latchEstop src := setMark_latches fresh open_
      have calm := calm_latchEstop put src
      have site : u.site = { put.site with estop := true, stopSource := some src } := by
        rw [latched, calm.site, (braked_kept put src).1]
      have stopped (d k) : b.Stopped d k u := by
        obtain ⟨braking, tested, staged, bare⟩ := latchEstop_stopped put src d k
        rw [← latched] at braking tested staged bare
        exact ⟨braking, tested, staged, bare⟩
      have closed (d) := latched ▸ latchEstop_closed put src d
      refine ⟨by rw [site], by rw [site], fun d k => need_of_stopped (stopped d k), fun d k state => ?_, fun d k => ?_, ?_,
        fun d => ?_, fun g x found live => ?_⟩
      · obtain ⟨engaging, order, -⟩ := braking_fields (stopped d k) state
        exact ⟨engaging, order⟩
      · refine ⟨fun state => ?_, tested_fields (stopped d k), (stopped d k).staged, (stopped d k).bare⟩
        exact (braking_fields (stopped d k) state).2.2
      · exact List.eq_nil_iff_forall_not_mem.mpr fun d => (closed d).1.stowq
      · obtain ⟨⟨shut, move, waits, -⟩, clamp, queue⟩ := closed d
        refine ⟨queue, clamp, shut.context, shut.deferred, shut.intent, shut.dwell, move, waits, shut.idle, shut.awaiting,
          shut.working, shut.stowed, fun stowing => ⟨shut.stowing stowing, settleBlocks_latched d (by rw [site]) ?_⟩⟩
        rwa [shut.stowing stowing]
      · obtain ⟨y, fate, aborted, reason, dropped⟩ := group_latchEstop put src g found live
        refine ⟨y, latched ▸ fate, aborted, reason, fun moving m mem state need => ?_⟩
        exact dropped moving m mem (reaches_of_need state need)

end Sys2Proof.Machine
end

-- ==== Lock counts: what their rise and fall do (R19, R136, R142, R146) ====
section
/-! What the rise and the fall of a lock count make of an axis and of a zone, and what they leave of the lock table and
of the other records. -/

open Sys2Proof

namespace Sys2Proof.Machine

/-! ### One axis (R19) -/

section
variable (b : Block) (d e : DishId) (k j : AxisKind)

@[simp] theorem beside_lockRise : (b.lockRise d k).beside = b.beside := by
  unfold Block.lockRise
  split <;> simp

@[simp] theorem beside_lockFall : (b.lockFall d k).beside = b.beside := by
  unfold Block.lockFall
  split <;> simp

/-- A rise acts on one axis. -/
theorem axis_lockRise_other (h : ¬(d = e ∧ k = j)) : (b.lockRise d k).axis e j = b.axis e j := by
  unfold Block.lockRise
  split
  · unfold Block.withdrawNeed
    simp only []
    split <;> simp [dropNeed_eq, h]
  all_goals simp [dropNeed_eq, modAxis_eq, h]

/-- A rise brakes an axis that is free to move, locks one that rests, and takes the need of any. -/
theorem lockRise_row (locked : 0 < b.axisLocks d k) :
    let a := b.axis d k
    let t := b.lockRise d k
    let u := t.axis d k
    let kept := u.need = none ∧ t.account.claims = b.account.claims
    (a.state = .braked → u.state = .locked ∧ u.stage = .none ∧ u.need = none ∧ t.claim d k = none
      ∧ (a.stage ≠ .none → t.waits (.axis d k) = false))
    ∧ (a.state = .testing → u.state = .locked ∧ u.order = .none ∧ u.opDue = none ∧ u.need = none ∧ t.claim d k = none)
    ∧ (a.state = .releasing ∨ a.state = .held → u.state = .engaging ∧ u.order = .brake
      ∧ u.opDue = some (b.site.tb + 3000) ∧ kept)
    ∧ (a.state = .moving → u.state = .stopping ∧ u.intent = .brake ∧ u.order = .stop ∧ kept)
    ∧ (a.state = .stopping → t = b.setAxis d k { a with need := none, intent := .brake })
    ∧ (a.state = .engaging ∨ a.state = .locked ∨ a.state = .faulted ∨ a.state = .offline →
        t = b.setAxis d k { a with need := none }) := by
  refine ⟨fun h => ?_, fun h => ?_, fun h => ?_, fun h => ?_, fun h => ?_, fun h => ?_⟩
  · by_cases staged : (b.axis d k).stage = .none
    · have bare : ¬((b.axis d k).state = .braked ∧ (b.axis d k).stage ≠ .none) := by simp [staged]
      simp [Block.lockRise, h, withdrawNeed_other b d k bare, staged]
    · simp [Block.lockRise, h, withdrawNeed_release b d k ⟨h, staged⟩]
  · simp [Block.lockRise, h, Block.restState, locked]
  · rcases h with h | h <;> simp [Block.lockRise, h, dropNeed_eq]
  · simp [Block.lockRise, h, dropNeed_eq]
  · simp [Block.lockRise, h, modAxis_eq]
  · rcases h with h | h | h | h <;> simp [Block.lockRise, h, dropNeed_eq]

/-- Under a lock a risen axis comes to rest or is on the way to it, without a need. -/
theorem lockRise_settles (locked : 0 < b.axisLocks d k) :
    ((b.lockRise d k).axis d k).need = none
    ∧ ((b.lockRise d k).axis d k).state ∈ [AxisState.stopping, .engaging, .locked, .faulted, .offline] := by
  obtain ⟨braked, testing, moving, running, stopping, other⟩ := lockRise_row b d k locked
  cases state : (b.axis d k).state with
  | braked => obtain ⟨h, -, need, -⟩ := braked state; simp [h, need]
  | testing => obtain ⟨h, -, -, need, -⟩ := testing state; simp [h, need]
  | releasing => obtain ⟨h, -, -, need, -⟩ := moving (Or.inl state); simp [h, need]
  | held => obtain ⟨h, -, -, need, -⟩ := moving (Or.inr state); simp [h, need]
  | moving => obtain ⟨h, -, -, need, -⟩ := running state; simp [h, need]
  | stopping => rw [stopping state]; simp [state]
  | engaging | locked | faulted | offline => rw [other (by simp [state])]; simp [state]

/-- A fall frees a locked axis and no other. -/
theorem lockFall_row :
    ((b.axis d k).state = .locked → (b.axis d k).stage = .none → ((b.lockFall d k).axis d k).state = .braked
      ∧ ((b.lockFall d k).axis d k).stage = .none ∧ (b.lockFall d k).account = b.account)
    ∧ ((b.axis d k).state ≠ .locked → b.lockFall d k = b) := by
  refine ⟨fun h stage => ?_, fun h => by simp [Block.lockFall, h]⟩
  simp [Block.lockFall, h, stage]

/-- A fall acts on one axis. -/
theorem axis_lockFall_other (h : ¬(d = e ∧ k = j)) : (b.lockFall d k).axis e j = b.axis e j := by
  unfold Block.lockFall
  split <;> simp [h]

end

/-! ### Zones (R136) -/

/-- A block without its zones, the call for an examination and the report queue. -/
def Block.zoneless (b : Block) : Block :=
  { b with
    heater := { b.heater with zones := (Block.afterReset Store.erased).heater.zones }
    account := { b.account with examineDue := false }
    link := { b.link with reports := [], lost := false } }

/-- The records, and what is read from them, that no operation on a zone touches. -/
abbrev Block.SameButZones (b c : Block) : Prop :=
  b.axes = c.axes ∧ b.dishes = c.dishes ∧ b.planner = c.planner ∧ b.points = c.points ∧ b.weather = c.weather
  ∧ b.lockout = c.lockout ∧ b.field = c.field ∧ b.site = c.site ∧ b.account.claims = c.account.claims
  ∧ b.account.waitq = c.account.waitq ∧ b.account.stowq = c.account.stowq ∧ b.cold = c.cold
  ∧ b.configured = c.configured ∧ b.heard = c.heard ∧ b.zoneLocks = c.zoneLocks

theorem sameButZones_of_zoneless {b c : Block} (h : b.zoneless = c.zoneless) : b.SameButZones c := by
  have field : b.field = c.field := (congrArg Block.field h :)
  have lockout : b.lockout = c.lockout := (congrArg Block.lockout h :)
  have colds : b.heater.cold = c.heater.cold := (congrArg (fun x : Block => x.heater.cold) h :)
  refine ⟨(congrArg Block.axes h :), (congrArg Block.dishes h :), (congrArg Block.planner h :),
    (congrArg Block.points h :), (congrArg Block.weather h :), lockout, field, (congrArg Block.site h :),
    (congrArg (fun x : Block => x.account.claims) h :), (congrArg (fun x : Block => x.account.waitq) h :),
    (congrArg (fun x : Block => x.account.stowq) h :), ?_, ?_, ?_, ?_⟩
  · funext d; simp only [Block.cold, colds]
  · funext d; simp only [Block.configured, field]
  · funext d; simp only [Block.heard, Block.node, field]
  · funext d z; simp only [Block.zoneLocks, lockout]

section
variable (b : Block) (d e : DishId) (z y : ZoneKind)

@[simp] theorem zoneless_setZone (x : Zone) : (b.setZone d z x).zoneless = b.zoneless := rfl
@[simp] theorem zoneless_callExamine : b.callExamine.zoneless = b.zoneless := rfl

@[simp] theorem zoneless_tellZone : (b.tellZone d z).zoneless = b.zoneless := by
  unfold Block.tellZone Block.tell
  simp only []
  generalize (_ ++ _ : List Fld) = fields
  obtain ⟨q, l, h⟩ := report_eq b .zoneState (zoneNum d z) fields [] none
  rw [h]
  rfl

/-- A zone's report leaves the zones. -/
@[simp] theorem zone_tellZone : (b.tellZone d z).zone e y = b.zone e y := by
  unfold Block.tellZone
  simp

/-- A zone changed, as a replacement. -/
theorem modZone_eq (f : Zone → Zone) : b.modZone d z f = b.setZone d z (f (b.zone d z)) := rfl

/-- A zone at duty 0. -/
theorem shutZone_eq : b.shutZone d z = if 0 < (b.zone d z).watts
    then (b.setZone d z { b.zone d z with duty := 0, commanded := slotOn 0 (b.slotOf d) }).callExamine
    else b.setZone d z { b.zone d z with duty := 0, commanded := slotOn 0 (b.slotOf d) } := rfl

@[simp] theorem zoneless_shutZone : (b.shutZone d z).zoneless = b.zoneless := by
  rw [shutZone_eq]
  split <;> simp

@[simp] theorem zone_shutZone : (b.shutZone d z).zone e y =
    if d = e ∧ z = y then { b.zone d z with duty := 0, commanded := slotOn 0 (b.slotOf d) } else b.zone e y := by
  rw [shutZone_eq]
  split <;> simp

/-- A zone shut and its mode derived, before the report. -/
def Block.closedZone (b : Block) (d : DishId) (z : ZoneKind) : Block :=
  ((b.shutZone d z).modZone d z fun x => { x with commanded := false }).deriveZone d z

theorem zoneLockRise_eq : b.zoneLockRise d z = (b.closedZone d z).tellZone d z := rfl

theorem zoneLockFall_eq : b.zoneLockFall d z = if (b.zone d z).mode = .locked
    then (b.setZone d z { b.zone d z with mode := b.zoneMode d z }).tellZone d z else b := rfl

@[simp] theorem zoneless_closedZone : (b.closedZone d z).zoneless = b.zoneless := by
  simp [Block.closedZone, Block.deriveZone, modZone_eq]

@[simp] theorem zoneless_zoneLockRise : (b.zoneLockRise d z).zoneless = b.zoneless := by simp [zoneLockRise_eq]

@[simp] theorem zoneless_zoneLockFall : (b.zoneLockFall d z).zoneless = b.zoneless := by
  rw [zoneLockFall_eq]
  split <;> simp

/-- A zone shut has duty 0 and its contactor not commanded; its mode is derived. -/
theorem zone_closedZone : (b.closedZone d z).zone e y = if d = e ∧ z = y then
    { b.zone d z with duty := 0, commanded := false, mode := ((b.closedZone d z).zone d z).mode } else b.zone e y := by
  simp only [Block.closedZone, Block.deriveZone, modZone_eq, zone_setZone, zone_shutZone]
  split <;> simp

/-- The mode of a zone that is shut, by what shuts it. -/
theorem mode_closedZone :
    let m := ((b.closedZone d z).zone d z).mode
    (b.configured d = false → m = .off)
    ∧ (b.configured d = true → (b.zone d z).fault = true → m = .fault)
    ∧ ((b.zone d z).fault = false → b.heard d = false → m = .off)
    ∧ ((b.zone d z).fault = false → b.configured d = true → b.heard d = true → 0 < b.zoneLocks d z → m = .locked) := by
  have derived : ((b.closedZone d z).zone d z).mode
      = ((b.shutZone d z).modZone d z fun x => { x with commanded := false }).zoneMode d z := by
    simp [Block.closedZone, Block.deriveZone, modZone_eq]
  have same : ((b.shutZone d z).modZone d z fun x => { x with commanded := false }).zoneless = b.zoneless := by
    simp [modZone_eq]
  obtain ⟨-, -, -, -, -, -, -, -, -, -, -, -, configured, heard, locks⟩ := sameButZones_of_zoneless same
  have fault : (((b.shutZone d z).modZone d z fun x => { x with commanded := false }).zone d z).fault
      = (b.zone d z).fault := by simp [modZone_eq]
  intro m
  have mode : m = _ := derived
  simp only [Block.zoneMode, configured, heard, locks, fault] at mode
  refine ⟨fun h => ?_, fun h f => ?_, fun f h => ?_, fun f c h l => ?_⟩
  · simpa [h] using mode
  · simpa [h, f] using mode
  · simpa [f, h] using mode
  · simpa [f, c, h, l] using mode

/-- A zone that drew power and is shut calls for an examination. -/
theorem examineDue_closedZone (drew : 0 < (b.zone d z).watts) : (b.closedZone d z).account.examineDue = true := by
  have shut : (b.shutZone d z).account.examineDue = true := by
    rw [shutZone_eq, if_pos drew]
    rfl
  simpa [Block.closedZone, Block.deriveZone, modZone_eq] using shut

end

end Sys2Proof.Machine
end

-- ==== The lock table (R138 to R148) ====
section
/-! A lock entry's number, its place in the table, and what its joining and leaving make of the machine. -/

open Sys2Proof

namespace Sys2Proof.Machine

/-! ### Numbers (R140) -/

/-- The numbers go round from 65535 to 1. -/
theorem nextNum_iterate (n i : Nat) (low : 1 ≤ n) (high : n ≤ 65535) :
    nextNum^[i] n = (n - 1 + i) % 65535 + 1 := by
  induction i with
  | zero => simp; omega
  | succ i ih =>
    rw [Function.iterate_succ_apply', ih, nextNum]
    split <;> omega

/-- Where the number found is held, so is each that was tried. -/
theorem held_of_freeNum_held (b : Block) : ∀ fuel n, b.numHeld (b.freeNum fuel n) = true →
    ∀ i < fuel, b.numHeld (nextNum^[i] n) = true
  | 0, _, _, _, h => absurd h (Nat.not_lt_zero _)
  | fuel + 1, n, found, i, h => by
    by_cases held : b.numHeld n = true
    · rw [Block.freeNum, if_pos held] at found
      cases i with
      | zero => exact held
      | succ i =>
        rw [Function.iterate_succ_apply]
        exact held_of_freeNum_held b fuel (nextNum n) found i (by omega)
    · rw [Block.freeNum, if_neg held] at found
      exact absurd found held

/-- The number found is among those there are. -/
theorem freeNum_range (b : Block) : ∀ fuel n, 1 ≤ n → n ≤ 65535 → 1 ≤ b.freeNum fuel n ∧ b.freeNum fuel n ≤ 65535
  | 0, _, low, high => ⟨low, high⟩
  | fuel + 1, n, low, high => by
    rw [Block.freeNum]
    split
    · exact freeNum_range b fuel (nextNum n) (by unfold nextNum; split <;> omega) (by unfold nextNum; split <;> omega)
    · exact ⟨low, high⟩

/-- With fewer entries than tries the number found is held by none. -/
theorem freeNum_free (b : Block) (fuel n : Nat) (low : 1 ≤ n) (high : n ≤ 65535)
    (few : b.lockout.entries.length < fuel) (tries : fuel ≤ 65535) :
    ∀ e ∈ b.lockout.entries, e.num ≠ b.freeNum fuel n := by
  intro e mem same
  have found : b.numHeld (b.freeNum fuel n) = true :=
    List.any_eq_true.mpr ⟨e, mem, by simp [same]⟩
  have tried := held_of_freeNum_held b fuel n found
  have apart : ((List.range fuel).map fun i => nextNum^[i] n).Nodup := by
    refine List.Nodup.map_on (fun i hi j hj same => ?_) List.nodup_range
    simp only [nextNum_iterate n _ low high, List.mem_range] at same hi hj
    omega
  have within : ((List.range fuel).map fun i => nextNum^[i] n) ⊆ b.lockout.entries.map (·.num) := by
    intro m hm
    obtain ⟨i, hi, rfl⟩ := List.mem_map.mp hm
    obtain ⟨o, ho, num⟩ := List.any_eq_true.mp (tried i (List.mem_range.mp hi))
    exact List.mem_map.mpr ⟨o, ho, by simpa using num⟩
  have := (apart.subperm within).length_le
  simp at this
  omega

/-- A lawful table with fewer than 52 LINK entries, or 52, holds at most 64. -/
theorem entries_le (b : Block) (law : b.LockLaw) : b.lockout.entries.length ≤ 64 := by
  obtain ⟨links, -, apart, form, -⟩ := law
  have keys : (b.lockout.entries.filter fun e => e.key).length ≤ 12 := by
    have form' : ∀ e ∈ b.lockout.entries.filter fun e => e.key, e.kind = .dish ∧ e.holder = 0 := by
      intro e mem
      obtain ⟨mem, key⟩ := List.mem_filter.mp mem
      simpa [key] using (form e mem).2.2
    have nodup : ((b.lockout.entries.filter fun e => e.key).map (·.dish)).Nodup := by
      refine List.pairwise_map.mpr ((apart.filter _).imp_of_mem fun {x y} hx hy different same => different ?_)
      obtain ⟨kindX, holderX⟩ := form' x hx
      obtain ⟨kindY, holderY⟩ := form' y hy
      exact ⟨holderX.trans holderY.symm, kindX.trans kindY.symm, same⟩
    simpa using nodup.length_le_card
  have split := List.length_eq_length_filter_add (l := b.lockout.entries) fun e => e.key
  omega

/-! ### The table with an entry more (R138) -/

/-- A table with an entry more is the table and the entry, in another order. -/
theorem insertLock_perm (e : LockEntry) : ∀ xs, (insertLock e xs).Perm (e :: xs)
  | [] => .refl _
  | x :: xs => by
    unfold insertLock
    split
    · exact .refl _
    · exact ((insertLock_perm e xs).cons x).trans (.swap e x xs)

theorem mem_insertLock {e o : LockEntry} {xs : List LockEntry} : o ∈ insertLock e xs ↔ o = e ∨ o ∈ xs := by
  rw [(insertLock_perm e xs).mem_iff, List.mem_cons]

/-- The entry a placing creates, not yet judged. -/
def Block.freshLock (b : Block) (kind : LockKind) (d : DishId) (holder : Nat) (key : Bool) : LockEntry :=
  { num := b.freeNum 65 b.lockout.next, kind := kind, dish := d, holder := holder, key := key, engaged := false
    placed := b.siteSecond, stored := false }

/-- The table with the entry in it. -/
def Block.joined (b : Block) (e : LockEntry) : Block :=
  { b with lockout := { b.lockout with entries := insertLock e b.lockout.entries, next := nextNum e.num } }

/-- A placing, step by step. -/
theorem placeLock_eq (b : Block) (kind : LockKind) (d : DishId) (holder : Nat) (key : Bool) :
    b.placeLock kind d holder key =
      let e := b.freshLock kind d holder key
      let t := (Block.actOnRise b (b.joined e) d).setMarks
      ((t.setEngaged e.num (t.entrySafe e)).tellLock { e with engaged := t.entrySafe e } .placed, e.num) := rfl

/-- The table with an entry less. -/
def Block.parted (b : Block) (e : LockEntry) : Block :=
  { b with lockout := { b.lockout with entries := b.lockout.entries.filter fun x => x.num != e.num } }

theorem takeLock_eq (b : Block) (e : LockEntry) :
    b.takeLock e = (Block.actOnFall b (b.parted e) e.dish).tellLock e .removed := rfl

/-- Lock reports leave the records. -/
@[simp] theorem tellLock_records (b : Block) (e : LockEntry) (cause : LockCause) : (b.tellLock e cause).SameRecords b :=
  report_records ..

/-! ### What the owners do (R142, R146) -/

/-- The lock count of an axis has risen from zero, or of a zone. -/
abbrev Block.axisRose (b0 b : Block) (d : DishId) (k : AxisKind) : Prop := b0.axisLocks d k = 0 ∧ 0 < b.axisLocks d k
abbrev Block.zoneRose (b0 b : Block) (d : DishId) (z : ZoneKind) : Prop := b0.zoneLocks d z = 0 ∧ 0 < b.zoneLocks d z

/-- An axis acts on the rise of its count, a zone on that of its own. -/
def Block.riseAxis (b0 b : Block) (d : DishId) (k : AxisKind) (s : Block) : Block :=
  if Block.axisRose b0 b d k then s.lockRise d k else s
def Block.riseZone (b0 b : Block) (d : DishId) (z : ZoneKind) (s : Block) : Block :=
  if Block.zoneRose b0 b d z then s.zoneLockRise d z else s

/-- The owners of a dish's targets act on a rise. -/
def Block.riseAxes (b0 b : Block) (d : DishId) : Block := Block.riseAxis b0 b d .el (Block.riseAxis b0 b d .az b)
def Block.riseZones (b0 b : Block) (d : DishId) (s : Block) : Block :=
  Block.riseZone b0 b d .drive (Block.riseZone b0 b d .surf s)

theorem actOnRise_eq (b0 b : Block) (d : DishId) :
    Block.actOnRise b0 b d = Block.reactLost b0 (Block.riseZones b0 b d (Block.riseAxes b0 b d)) d := rfl

section
variable (b0 b s : Block) (d : DishId) (k j : AxisKind) (z y : ZoneKind)

@[simp] theorem beside_riseAxis : (Block.riseAxis b0 b d k s).beside = s.beside := by
  unfold Block.riseAxis
  split <;> simp

@[simp] theorem beside_riseAxes : (Block.riseAxes b0 b d).beside = b.beside := by simp [Block.riseAxes]

@[simp] theorem zoneless_riseZone : (Block.riseZone b0 b d z s).zoneless = s.zoneless := by
  unfold Block.riseZone
  split <;> simp

@[simp] theorem zoneless_riseZones : (Block.riseZones b0 b d s).zoneless = s.zoneless := by simp [Block.riseZones]

theorem axis_riseAxis_other (h : k ≠ j) : (Block.riseAxis b0 b d k s).axis d j = s.axis d j := by
  unfold Block.riseAxis
  split
  · exact axis_lockRise_other s d d k j (by simp [h])
  · rfl

theorem zone_riseZone_other (h : z ≠ y) : (Block.riseZone b0 b d z s).zone d y = s.zone d y := by
  unfold Block.riseZone
  split
  · rw [zoneLockRise_eq, zone_tellZone, zone_closedZone, if_neg (by simp [h])]
  · rfl

theorem zone_riseZone_rose (rose : Block.zoneRose b0 b d z) :
    ((Block.riseZone b0 b d z s).zone d z).duty = 0 ∧ ((Block.riseZone b0 b d z s).zone d z).commanded = false := by
  rw [Block.riseZone, if_pos rose, zoneLockRise_eq, zone_tellZone, zone_closedZone, if_pos ⟨rfl, rfl⟩]
  exact ⟨rfl, rfl⟩

end

section
variable (b0 b : Block) (d : DishId)

/-- The lock counts and the lock table stand while the axes and the zones of a dish act. -/
theorem riseZones_kept :
    let t := Block.riseZones b0 b d (Block.riseAxes b0 b d)
    t.axes = (Block.riseAxes b0 b d).axes ∧ t.dishes = (Block.riseAxes b0 b d).dishes ∧ t.lockout = b.lockout
    ∧ t.site = b.site := by
  obtain ⟨-, -, -, -, lockout, -, site⟩ := records_of_beside (beside_riseAxes b0 b d)
  obtain ⟨axes, dishes, -, -, -, lockout', -, site', -⟩ :=
    sameButZones_of_zoneless (zoneless_riseZones b0 b (Block.riseAxes b0 b d) d)
  exact ⟨axes, dishes, lockout'.trans lockout, site'.trans site⟩

/-- What a rise sets off leaves the lock table and the site. -/
theorem actOnRise_kept : (Block.actOnRise b0 b d).lockout = b.lockout ∧ (Block.actOnRise b0 b d).site = b.site := by
  obtain ⟨-, -, lockout, site⟩ := riseZones_kept b0 b d
  obtain ⟨-, -, -, lockout', -, site', -⟩ := sameGround_of_ground
    (ground_reactLost (Block.riseZones b0 b d (Block.riseAxes b0 b d)) d b0)
  rw [actOnRise_eq]
  exact ⟨lockout'.trans lockout, site'.trans site⟩

/-- Lock counts read from equal lock tables are equal. -/
theorem axisLocks_of_lockout {b c : Block} (h : b.lockout = c.lockout) : b.axisLocks = c.axisLocks := by
  funext d k; simp only [Block.axisLocks, h]
theorem zoneLocks_of_lockout {b c : Block} (h : b.lockout = c.lockout) : b.zoneLocks = c.zoneLocks := by
  funext d z; simp only [Block.zoneLocks, h]

/-- An axis whose count rose has come to rest or is on the way to it. -/
def Axis.Settled (a : Axis) : Prop :=
  a.need = none ∧ a.state ∈ [AxisState.stopping, .engaging, .locked, .faulted, .offline]

theorem riseAxis_settled (s : Block) (k : AxisKind) (lockout : s.lockout = b.lockout) (rose : Block.axisRose b0 b d k) :
    ((Block.riseAxis b0 b d k s).axis d k).Settled := by
  have locked : 0 < s.axisLocks d k := by rw [axisLocks_of_lockout lockout]; exact rose.2
  rw [Block.riseAxis, if_pos rose]
  exact lockRise_settles s d k locked

theorem riseAxes_settled (k : AxisKind) (rose : Block.axisRose b0 b d k) :
    ((Block.riseAxes b0 b d).axis d k).Settled := by
  obtain ⟨-, -, -, -, lockout, -⟩ := records_of_beside (beside_riseAxis b0 b b d .az)
  cases k with
  | az =>
    rw [Block.riseAxes, axis_riseAxis_other _ _ _ _ _ _ (by decide)]
    exact riseAxis_settled b0 b d b .az rfl rose
  | el => exact riseAxis_settled b0 b d _ .el lockout rose

/-- An axis whose count rose keeps at rest through what its dish does. -/
theorem actOnRise_settled (k : AxisKind) (rose : Block.axisRose b0 b d k) :
    ((Block.actOnRise b0 b d).axis d k).Settled := by
  obtain ⟨axes, -, lockout, -⟩ := riseZones_kept b0 b d
  have settled := riseAxes_settled b0 b d k rose
  have same := congrFun (congrFun (sameAxes_of_axes axes).2 d) k
  rw [← same] at settled
  have lost : (Block.riseZones b0 b d (Block.riseAxes b0 b d)).axisLost d k = true := by
    simp [Block.axisLost, axisLocks_of_lockout lockout, rose.2]
  have idle : ((Block.riseZones b0 b d (Block.riseAxes b0 b d)).axis d k).state ≠ .held := by
    intro held
    simpa [held] using settled.2
  rw [actOnRise_eq, (stands_reactLost b0 ⟨rfl, fun _ => rfl, idle, lost⟩ d).axis]
  exact settled

/-- A zone whose count rose is shut. -/
theorem actOnRise_shuts (z : ZoneKind) (rose : Block.zoneRose b0 b d z) :
    ((Block.actOnRise b0 b d).zone d z).duty = 0 ∧ ((Block.actOnRise b0 b d).zone d z).commanded = false := by
  obtain ⟨-, -, -, -, -, -, -, zone, -⟩ := sameGround_of_ground
    (ground_reactLost (Block.riseZones b0 b d (Block.riseAxes b0 b d)) d b0)
  rw [actOnRise_eq, zone]
  cases z with
  | surf =>
    rw [Block.riseZones, zone_riseZone_other _ _ _ _ _ _ (by decide)]
    exact zone_riseZone_rose _ _ _ _ _ rose
  | drive => exact zone_riseZone_rose _ _ _ _ _ rose

/-- Where no axis's count rose, the axes and the dishes stand. -/
theorem actOnRise_still (axes : b.axes = b0.axes) (still : ∀ k, ¬Block.axisRose b0 b d k) :
    (Block.actOnRise b0 b d).axes = b.axes ∧ (Block.actOnRise b0 b d).dishes = b.dishes := by
  have unmoved : Block.riseAxes b0 b d = b := by
    rw [Block.riseAxes, Block.riseAxis, if_neg (still _), Block.riseAxis, if_neg (still _)]
  obtain ⟨axes', dishes, lockout, -⟩ := riseZones_kept b0 b d
  rw [unmoved] at axes' dishes lockout
  have same := (sameAxes_of_axes (axes'.trans axes)).2
  have locks := axisLocks_of_lockout lockout
  rw [actOnRise_eq, unmoved, reactLost_none]
  · exact ⟨axes', dishes⟩
  · intro k
    simp only [Block.newlyLost, same, locks]
    simpa using fun zero => Nat.eq_zero_of_not_pos fun pos => still k ⟨zero, pos⟩

end

end Sys2Proof.Machine
end

-- ==== Lock requests and key switches (R141 to R148) ====
section
/-! What PLACE_LOCK, REMOVE_LOCK and a key switch make of the lock table, the axes and the zones; how a lock write is
asked for. -/

open Sys2Proof

namespace Sys2Proof.Machine

/-! ### An entry placed (R141, R148) -/

/-- An entry's state set leaves all but the table's entries. -/
@[simp] theorem setEngaged_kept (b : Block) (n : Nat) (v : Bool) :
    (b.setEngaged n v).axes = b.axes ∧ (b.setEngaged n v).dishes = b.dishes ∧ (b.setEngaged n v).heater = b.heater
    ∧ (b.setEngaged n v).site = b.site ∧ (b.setEngaged n v).lockout.keys = b.lockout.keys := ⟨rfl, rfl, rfl, rfl, rfl⟩

/-- The safe marks set leave all but the marks. -/
@[simp] theorem setMarks_kept (b : Block) :
    b.setMarks.axes = b.axes ∧ b.setMarks.dishes = b.dishes ∧ b.setMarks.heater = b.heater
    ∧ b.setMarks.site = b.site ∧ b.setMarks.lockout.keys = b.lockout.keys
    ∧ b.setMarks.lockout.entries = b.lockout.entries := ⟨rfl, rfl, rfl, rfl, rfl, rfl⟩

/-- An entry's state does not bear on what it names. -/
theorem locks_setEngaged (b : Block) (n : Nat) (v : Bool) :
    (b.setEngaged n v).axisLocks = b.axisLocks ∧ (b.setEngaged n v).zoneLocks = b.zoneLocks := by
  have count (p : LockEntry → Bool) (h : ∀ e v, p { e with engaged := v } = p e) :
      ((b.setEngaged n v).lockout.entries.filter p).length = (b.lockout.entries.filter p).length := by
    have through : (p ∘ fun e : LockEntry => if e.num = n then { e with engaged := v } else e) = p := by
      funext e
      simp only [Function.comp]
      split
      · exact h e v
      · rfl
    simp only [Block.setEngaged, List.filter_map, List.length_map, through]
  exact ⟨funext fun d => funext fun k => count _ fun _ _ => rfl, funext fun d => funext fun z => count _ fun _ _ => rfl⟩

section
variable (b : Block) (kind : LockKind) (d : DishId) (holder : Nat) (key : Bool)

/-- The machine where the owners have acted on the new entry. -/
def Block.acted : Block := Block.actOnRise b (b.joined (b.freshLock kind d holder key)) d

/-- What a placing keeps and makes beside the table. -/
theorem placeLock_kept :
    let t := (b.placeLock kind d holder key).1
    t.axes = (b.acted kind d holder key).axes ∧ t.dishes = (b.acted kind d holder key).dishes
    ∧ t.heater = (b.acted kind d holder key).heater ∧ t.site = b.site ∧ t.lockout.keys = b.lockout.keys := by
  obtain ⟨lockout, site⟩ := actOnRise_kept b (b.joined (b.freshLock kind d holder key)) d
  rw [placeLock_eq]
  simp only [tellLock_records, setEngaged_kept, setMarks_kept, lockout, site]
  exact ⟨rfl, rfl, rfl, rfl, rfl⟩

/-- The entry as a placing leaves it. -/
def Block.placedLock : LockEntry :=
  { b.freshLock kind d holder key with
    engaged := (b.acted kind d holder key).setMarks.entrySafe (b.freshLock kind d holder key) }

/-- The table after a placing: the entry with its state, and the entries before, where its number is free. -/
theorem entries_placeLock (free : ∀ e ∈ b.lockout.entries, e.num ≠ b.freeNum 65 b.lockout.next) (o : LockEntry) :
    o ∈ (b.placeLock kind d holder key).1.lockout.entries ↔ o = b.placedLock kind d holder key ∨ o ∈ b.lockout.entries := by
  obtain ⟨lockout, -⟩ := actOnRise_kept b (b.joined (b.freshLock kind d holder key)) d
  have entries : (b.placeLock kind d holder key).1.lockout.entries
      = (insertLock (b.freshLock kind d holder key) b.lockout.entries).map fun e =>
        if e.num = b.freeNum 65 b.lockout.next then
          { e with engaged := (b.acted kind d holder key).setMarks.entrySafe (b.freshLock kind d holder key) } else e := by
    have table := congrArg Lockout.entries lockout
    rw [placeLock_eq]
    simp only [tellLock_records, Block.setEngaged, Block.setMarks, table]
    rfl
  rw [entries, List.mem_map]
  constructor
  · rintro ⟨e, mem, rfl⟩
    rcases mem_insertLock.mp mem with rfl | mem
    · exact Or.inl (if_pos rfl)
    · rw [if_neg (free e mem)]
      exact Or.inr mem
  · rintro (rfl | mem)
    · exact ⟨_, mem_insertLock.mpr (Or.inl rfl), if_pos rfl⟩
    · exact ⟨o, mem_insertLock.mpr (Or.inr mem), if_neg (free o mem)⟩

/-- The entry's state is judged by the marks as the owners left them. -/
theorem engaged_placedLock : (b.placedLock kind d holder key).engaged
    = (b.placeLock kind d holder key).1.entrySafe (b.placedLock kind d holder key) := by
  rw [placeLock_eq]
  unfold Block.entrySafe Block.placedLock
  simp only [tellLock_records]
  rfl

/-- The lock counts after a placing. -/
theorem locks_placeLock :
    (b.placeLock kind d holder key).1.axisLocks = (b.joined (b.freshLock kind d holder key)).axisLocks
    ∧ (b.placeLock kind d holder key).1.zoneLocks = (b.joined (b.freshLock kind d holder key)).zoneLocks := by
  obtain ⟨lockout, -⟩ := actOnRise_kept b (b.joined (b.freshLock kind d holder key)) d
  rw [placeLock_eq]
  simp only [tellLock_records, locks_setEngaged]
  have marks (t : Block) : t.setMarks.axisLocks = t.axisLocks ∧ t.setMarks.zoneLocks = t.zoneLocks := ⟨rfl, rfl⟩
  rw [(marks _).1, (marks _).2]
  exact ⟨axisLocks_of_lockout lockout, zoneLocks_of_lockout lockout⟩

end

/-! ### An entry removed (R145, R148) -/

/-- The lock count of an axis has fallen to zero, or of a zone. -/
abbrev Block.axisFell (b0 b : Block) (d : DishId) (k : AxisKind) : Prop := 0 < b0.axisLocks d k ∧ b.axisLocks d k = 0
abbrev Block.zoneFell (b0 b : Block) (d : DishId) (z : ZoneKind) : Prop := 0 < b0.zoneLocks d z ∧ b.zoneLocks d z = 0

/-- An axis acts on the fall of its count, a zone on that of its own. -/
def Block.fallAxis (b0 b : Block) (d : DishId) (k : AxisKind) (s : Block) : Block :=
  if Block.axisFell b0 b d k then s.lockFall d k else s
def Block.fallZone (b0 b : Block) (d : DishId) (z : ZoneKind) (s : Block) : Block :=
  if Block.zoneFell b0 b d z then s.zoneLockFall d z else s

theorem actOnFall_eq (b0 b : Block) (d : DishId) : Block.actOnFall b0 b d =
    Block.fallZone b0 b d .drive (Block.fallZone b0 b d .surf
      (Block.fallAxis b0 b d .el (Block.fallAxis b0 b d .az b))) := rfl

section
variable (b0 b s : Block) (d : DishId)

@[simp] theorem beside_fallAxis (k : AxisKind) : (Block.fallAxis b0 b d k s).beside = s.beside := by
  unfold Block.fallAxis
  split <;> simp

@[simp] theorem zoneless_fallZone (z : ZoneKind) : (Block.fallZone b0 b d z s).zoneless = s.zoneless := by
  unfold Block.fallZone
  split <;> simp

/-- What a fall sets off leaves the lock table and the site; the axes are as their own acts leave them. -/
theorem actOnFall_kept :
    (Block.actOnFall b0 b d).lockout = b.lockout ∧ (Block.actOnFall b0 b d).site = b.site
    ∧ (Block.actOnFall b0 b d).axis = (Block.fallAxis b0 b d .el (Block.fallAxis b0 b d .az b)).axis := by
  have zones : (Block.actOnFall b0 b d).zoneless
      = (Block.fallAxis b0 b d .el (Block.fallAxis b0 b d .az b)).zoneless := by simp [actOnFall_eq]
  have axes : (Block.fallAxis b0 b d .el (Block.fallAxis b0 b d .az b)).beside = b.beside := by simp
  obtain ⟨axes', -, -, -, -, lockout', -, site', -⟩ := sameButZones_of_zoneless zones
  obtain ⟨-, -, -, -, lockout, -, site⟩ := records_of_beside axes
  exact ⟨lockout'.trans lockout, site'.trans site, (sameAxes_of_axes axes').2⟩

theorem axis_fallAxis_other (e : DishId) (k j : AxisKind) (h : ¬(d = e ∧ k = j)) :
    (Block.fallAxis b0 b d k s).axis e j = s.axis e j := by
  unfold Block.fallAxis
  split
  · exact axis_lockFall_other s d e k j h
  · rfl

/-- A fall leaves an axis that is not LOCKED. -/
theorem axis_fallAxis_unlocked (e : DishId) (k j : AxisKind) (free : (s.axis e j).state ≠ .locked) :
    (Block.fallAxis b0 b d k s).axis e j = s.axis e j := by
  by_cases same : d = e ∧ k = j
  · obtain ⟨rfl, rfl⟩ := same
    unfold Block.fallAxis
    split
    · rw [(lockFall_row s d k).2 free]
    · rfl
  · exact axis_fallAxis_other b0 b s d e k j same

theorem axis_actOnFall_unlocked (e : DishId) (j : AxisKind) (free : (b.axis e j).state ≠ .locked) :
    (Block.actOnFall b0 b d).axis e j = b.axis e j := by
  have az := axis_fallAxis_unlocked b0 b b d e .az j free
  have el := axis_fallAxis_unlocked b0 b (Block.fallAxis b0 b d .az b) d e .el j (by rwa [az])
  rw [(actOnFall_kept b0 b d).2.2, el, az]

/-- A fall to zero frees a LOCKED axis. -/
theorem state_actOnFall (k : AxisKind) (locked : (b.axis d k).state = .locked) (fell : Block.axisFell b0 b d k) :
    ((Block.actOnFall b0 b d).axis d k).state = .braked := by
  have freed (s : Block) (h : (s.axis d k).state = .locked) :
      ((Block.fallAxis b0 b d k s).axis d k).state = .braked := by
    rw [Block.fallAxis, if_pos fell]
    simp [Block.lockFall, h]
  rw [(actOnFall_kept b0 b d).2.2]
  cases k with
  | az =>
    rw [axis_fallAxis_other _ _ _ _ _ _ _ (by simp)]
    exact freed b locked
  | el => exact freed _ (by rwa [axis_fallAxis_other _ _ _ _ _ _ _ (by simp)])

end

/-- What a removal makes of the table, the marks' keys, the site and the axes. -/
theorem takeLock_row (b : Block) (e : LockEntry) :
    let t := b.takeLock e
    t.lockout.entries = b.lockout.entries.filter (fun x => x.num != e.num) ∧ t.lockout.keys = b.lockout.keys
    ∧ t.site = b.site
    ∧ (∀ k, (b.axis e.dish k).state = .locked → 0 < b.axisLocks e.dish k → t.axisLocks e.dish k = 0 →
        (t.axis e.dish k).state = .braked)
    ∧ (∀ d k, (b.axis d k).state ≠ .locked → t.axis d k = b.axis d k) := by
  intro t
  obtain ⟨lockout, site, -⟩ := actOnFall_kept b (b.parted e) e.dish
  have table : t.lockout = (b.parted e).lockout := by
    rw [← lockout]
    simp [t, takeLock_eq]
  have site' : t.site = (Block.actOnFall b (b.parted e) e.dish).site := by simp [t, takeLock_eq]
  have axis : t.axis = (Block.actOnFall b (b.parted e) e.dish).axis := by simp [t, takeLock_eq]
  refine ⟨by rw [table]; rfl, by rw [table]; rfl, site'.trans site, fun k locked before after => ?_,
    fun d k free => ?_⟩
  · rw [axis]
    rw [axisLocks_of_lockout table] at after
    exact state_actOnFall b (b.parted e) e.dish k locked ⟨before, after⟩
  · rw [axis, axis_actOnFall_unlocked b (b.parted e) e.dish d k free]
    rfl

/-! ### A lock write asked for (R143, R183) -/

/-- A LOCK write waits. -/
theorem waitsWrite_lock (b : Block) : b.waitsWrite .lock = true ↔ ∃ x ∈ b.site.waiting, x.kind = .lock := by
  simp [Block.waitsWrite]

theorem writeRoom_iff (b : Block) :
    b.writeRoom = true ↔ b.site.waiting.length + (if b.site.running = none then 0 else 1) < 4 := by
  cases running : b.site.running <;> simp [Block.writeRoom, running]

/-- A LOCK write at the head begins where none is in progress. -/
theorem beginWrite_lock (b : Block) (a : LockAsk) (w : List WriteReq) :
    (b.setWaiting (⟨.lock, [a], []⟩ :: w)).beginWrite = match b.site.running with
      | some _ => b.setWaiting (⟨.lock, [a], []⟩ :: w)
      | none => { b with site := { b.site with
          running := some { req := ⟨.lock, [a], []⟩, image := none, locks := some b.linkLocks, counts := none }
          waiting := w } } := by
  cases running : b.site.running with
  | none =>
    simp only [Block.beginWrite, Block.setWaiting, running]
    rfl
  | some w => simp [Block.beginWrite, Block.setWaiting, running]

/-- A LOCK write asked for is met by one that waits, joins ahead of the others, or begins. -/
theorem askLock_taken (b : Block) (a : LockAsk) :
    (b.waitsWrite .lock = true → b.askLock a = b.setWaiting (b.site.waiting.map fun x =>
      if x.kind = .lock then { x with locks := x.locks ++ [a] } else x))
    ∧ (b.waitsWrite .lock = false → b.writeRoom = true → b.askLock a = match b.site.running with
      | some _ => b.setWaiting (⟨.lock, [a], []⟩ :: b.site.waiting)
      | none => { b with site := { b.site with
          running := some { req := ⟨.lock, [a], []⟩, image := none, locks := some b.linkLocks, counts := none }
          waiting := b.site.waiting } }) := by
  refine ⟨fun met => by simp only [Block.askLock, met, if_true], fun unmet room => ?_⟩
  rw [← beginWrite_lock]
  simp only [Block.askLock, unmet, room, Bool.false_eq_true, if_false, if_true]

/-- A LOCK write that has no room sets the store fault and is answered as not stored (R143; log 17). -/
theorem askLock_fails (b : Block) (a : LockAsk) (unmet : b.waitsWrite .lock = false) (full : b.writeRoom = false) :
    let t := ({ b with site := { b.site with storeFault := true } }).tell .storeFault 0
      [fb true, f1 1, f1 WriteKind.lock.ctorIdx, f1 1, f2 a.num]
    let replied := fun (body : List Fld) => b.askLock a = { t with link := { t.link with out := b.link.out.map fun o =>
      if o.id = a.id then { o with reply := some ⟨.ok, body⟩, after := .nothing } else o } }
    (a.place = true →
      (∀ e, b.lockEntry a.num = some e → replied [f2 a.num, fb e.engaged, fb e.stored])
      ∧ (b.lockEntry a.num = none → replied [f2 a.num, fb false, fb false]))
    ∧ (a.place = false → replied [fb false]) := by
  intro t replied
  have asked : b.askLock a = t.replyLock false a := by
    simp only [Block.askLock, unmet, full, if_false, Bool.false_eq_true]
    rfl
  have entry : t.lockEntry a.num = b.lockEntry a.num := by simp [t, Block.lockEntry]
  have out : t.link.out = b.link.out := by simp [t]
  have answered (body : List Fld) : t.answer a.id .ok body = { t with link := { t.link with
      out := b.link.out.map fun o =>
        if o.id = a.id then { o with reply := some ⟨.ok, body⟩, after := .nothing } else o } } := by
    rw [← out]
    rfl
  refine ⟨fun place => ⟨fun e found => ?_, fun none_ => ?_⟩, fun remove => ?_⟩
  · simp only [replied, asked, Block.replyLock, place, if_true, entry, found, answered]
  · simp only [replied, asked, Block.replyLock, place, if_true, entry, none_, answered]
  · simp only [replied, asked, Block.replyLock, remove, answered, Bool.false_eq_true, if_false]

/-! ### The key switches (R147, R148) -/

/-- The KEY entry of a dish is absent where no entry is one. -/
theorem keyEntry_none (b : Block) (d : DishId) :
    b.keyEntry d = none ↔ ¬∃ e ∈ b.lockout.entries, e.key = true ∧ e.dish = d := by
  simp [Block.keyEntry]

/-- In a lawful table the KEY entry of a dish is the one of its number, and the only one. -/
theorem keyEntry_unique (b : Block) (d : DishId) (law : b.LockLaw) {e : LockEntry} (found : b.keyEntry d = some e) :
    b.lockout.entries.filter (fun x => x.num != e.num) = b.lockout.entries.filter fun x => !(x.key && x.dish == d) := by
  obtain ⟨-, single, -, -, rising, -⟩ := law
  have mem : e ∈ b.lockout.entries := List.mem_of_find?_eq_some found
  have own : (e.key && e.dish == d) = true := List.find?_some (p := fun e : LockEntry => e.key && e.dish == d) found
  refine List.filter_congr fun x hx => ?_
  by_cases same : x = e
  · subst same
    simp [own]
  · have num : x.num ≠ e.num := by
      have nodup : (b.lockout.entries.map (·.num)).Nodup := List.pairwise_map.mpr (rising.imp Nat.ne_of_lt)
      exact fun equal => same (List.inj_on_of_nodup_map nodup hx mem equal)
    have other : (x.key && x.dish == d) = false := by
      by_contra key
      rw [Bool.not_eq_false] at key
      have both : ∀ y ∈ [x, e], y ∈ b.lockout.entries.filter fun y => y.key && y.dish == d := by
        simpa [List.mem_filter, hx, mem] using And.intro (by simpa using key) (by simpa using own)
      have two := (List.subperm_of_subset (by simp [same]) both).length_le
      exact absurd (two.trans (single d)) (by simp)
    simp [num, other]

/-- A position's runs reach three answers in a row (R147). -/
theorem key_reaches (old : KeyRec) (lockout : Bool) (low : old.lockRun ≤ 3) (low' : old.remoteRun ≤ 3) :
    ((old.next lockout).lockRun = 3 ∧ old.lockRun ≠ 3 ↔ lockout = true ∧ old.lockRun = 2)
    ∧ ((old.next lockout).remoteRun = 3 ∧ old.remoteRun ≠ 3 ↔ lockout = false ∧ old.remoteRun = 2) := by
  cases lockout <;> simp [KeyRec.next] <;> omega

/-- The third LOCKOUT answer in a row places the KEY entry of a dish that has none. -/
theorem keyAnswer_places (b : Block) (d : DishId) {lockout : Bool}
    (third : (b.lockout.keys[d].next lockout).lockRun = 3 ∧ b.lockout.keys[d].lockRun ≠ 3) :
    b.keyAnswer d lockout = if (b.keyEntry d).isNone
      then ((b.setKey d (b.lockout.keys[d].next lockout)).placeLock .dish d 0 true).1
      else b.setKey d (b.lockout.keys[d].next lockout) := by
  unfold Block.keyAnswer
  simp only []
  rw [if_pos third]
  rfl

/-- The third REMOTE answer in a row removes the KEY entry of the dish. -/
theorem keyAnswer_removes (b : Block) (d : DishId) {lockout : Bool}
    (short : ¬((b.lockout.keys[d].next lockout).lockRun = 3 ∧ b.lockout.keys[d].lockRun ≠ 3))
    (third : (b.lockout.keys[d].next lockout).remoteRun = 3 ∧ b.lockout.keys[d].remoteRun ≠ 3) :
    b.keyAnswer d lockout = match b.keyEntry d with
      | some e => (b.setKey d (b.lockout.keys[d].next lockout)).takeLock e
      | none => b.setKey d (b.lockout.keys[d].next lockout) := by
  unfold Block.keyAnswer
  simp only []
  rw [if_neg short, if_pos third]
  rfl

/-- Between them only the record changes. -/
theorem keyAnswer_counts (b : Block) (d : DishId) {lockout : Bool}
    (short : ¬((b.lockout.keys[d].next lockout).lockRun = 3 ∧ b.lockout.keys[d].lockRun ≠ 3))
    (short' : ¬((b.lockout.keys[d].next lockout).remoteRun = 3 ∧ b.lockout.keys[d].remoteRun ≠ 3)) :
    b.keyAnswer d lockout = b.setKey d (b.lockout.keys[d].next lockout) := by
  unfold Block.keyAnswer
  simp only []
  rw [if_neg short, if_neg short']

/-- A key record replaced. -/
@[simp] theorem setKey_kept (b : Block) (d : DishId) (r : KeyRec) :
    (b.setKey d r).lockout.keys = b.lockout.keys.set d r ∧ (b.setKey d r).site = b.site
    ∧ (b.setKey d r).lockout.entries = b.lockout.entries := ⟨rfl, rfl, rfl⟩

/-- The key records and the site after an answer's key position. -/
theorem keyAnswer_kept (b : Block) (d : DishId) (lockout : Bool) :
    (b.keyAnswer d lockout).lockout.keys = b.lockout.keys.set d (b.lockout.keys[d].next lockout)
    ∧ (b.keyAnswer d lockout).site = b.site := by
  by_cases third : (b.lockout.keys[d].next lockout).lockRun = 3 ∧ b.lockout.keys[d].lockRun ≠ 3
  · rw [keyAnswer_places b d third]
    split
    · obtain ⟨-, -, -, site, keys⟩ := placeLock_kept (b.setKey d (b.lockout.keys[d].next lockout)) .dish d 0 true
      exact ⟨keys, site⟩
    · exact ⟨rfl, rfl⟩
  by_cases third' : (b.lockout.keys[d].next lockout).remoteRun = 3 ∧ b.lockout.keys[d].remoteRun ≠ 3
  · rw [keyAnswer_removes b d third third']
    cases b.keyEntry d with
    | none => exact ⟨rfl, rfl⟩
    | some e =>
      obtain ⟨-, keys, site, -⟩ := takeLock_row (b.setKey d (b.lockout.keys[d].next lockout)) e
      exact ⟨keys, site⟩
  · rw [keyAnswer_counts b d third third']
    exact ⟨rfl, rfl⟩

/-! ### The owners of PLACE_LOCK and REMOVE_LOCK -/

/-- PLACE_LOCK's checks (Table 8-2). -/
theorem placeRefused_eq (b : Block) (k : LockKind) (d : DishId) (holder : Nat) :
    (b.configured d = false → b.placeRefused k d holder = some .noSuch)
    ∧ (b.configured d = true → (∃ e ∈ b.lockout.entries, e.holder = holder ∧ e.kind = k ∧ e.dish = d) →
      b.placeRefused k d holder = some .duplicate)
    ∧ (b.configured d = true → (¬∃ e ∈ b.lockout.entries, e.holder = holder ∧ e.kind = k ∧ e.dish = d) →
      (52 ≤ (b.lockout.entries.filter fun e => !e.key).length → b.placeRefused k d holder = some .tableFull)
      ∧ ((b.lockout.entries.filter fun e => !e.key).length < 52 → b.placeRefused k d holder = none)) := by
  have twice : (b.lockout.entries.any fun e => e.holder == holder && e.kind == k && e.dish == d) = true
      ↔ ∃ e ∈ b.lockout.entries, e.holder = holder ∧ e.kind = k ∧ e.dish = d := by
    simp [List.any_eq_true, and_assoc]
  refine ⟨fun h => by simp [Block.placeRefused, h], fun h t => ?_, fun h t => ⟨fun full => ?_, fun room => ?_⟩⟩
  · simp only [Block.placeRefused, h, twice.mpr t, Bool.not_true, Bool.false_eq_true, if_false, if_true]
  · rw [← twice] at t
    simp only [Block.placeRefused, h, t, Block.linkCount, full, Bool.not_true, Bool.false_eq_true, if_false, if_true]
  · rw [← twice] at t
    simp only [Block.placeRefused, h, t, Block.linkCount, Nat.not_le.mpr room, Bool.not_true, Bool.false_eq_true,
      if_false]

/-- A zone's entry names no axis. -/
theorem axisLocks_joined_zone (b : Block) (k : LockKind) (d : DishId) (holder : Nat) (key : Bool)
    (zone : k = .zoneSurf ∨ k = .zoneDrive) : (b.joined (b.freshLock k d holder key)).axisLocks = b.axisLocks := by
  funext e j
  have unnamed : (b.freshLock k d holder key).namesAxis e j = false := by
    rcases zone with rfl | rfl <;> cases j <;> simp [Block.freshLock, LockEntry.namesAxis]
  have := ((insertLock_perm (b.freshLock k d holder key) b.lockout.entries).filter fun e' => e'.namesAxis e j).length_eq
  simpa [Block.axisLocks, Block.joined, unnamed] using this

/-- A placing as PLACE_LOCK and a key switch make it: a free number, the entry in the table with its state, the owners'
acts. -/
theorem placeLock_row (b : Block) (k : LockKind) (d : DishId) (holder : Nat) (key : Bool) (law : b.LockLaw) :
    let r := b.placeLock k d holder key
    (∀ e ∈ b.lockout.entries, e.num ≠ r.2) ∧ 1 ≤ r.2 ∧ r.2 ≤ 65535
    ∧ (∀ e ∈ b.lockout.entries, e ∈ r.1.lockout.entries)
    ∧ (∃ e ∈ r.1.lockout.entries, e.num = r.2 ∧ e.kind = k ∧ e.dish = d ∧ e.holder = holder ∧ e.key = key
      ∧ e.stored = false ∧ e.engaged = r.1.entrySafe e ∧ e.placed = b.siteSecond
      ∧ ∀ o ∈ r.1.lockout.entries, o = e ∨ o ∈ b.lockout.entries)
    ∧ (k = .zoneSurf ∨ k = .zoneDrive → r.1.axes = b.axes ∧ r.1.dishes = b.dishes)
    ∧ (∀ j, b.axisLocks d j = 0 → 0 < r.1.axisLocks d j → (r.1.axis d j).need = none
      ∧ (r.1.axis d j).state ∈ [AxisState.stopping, .engaging, .locked, .faulted, .offline])
    ∧ ∀ z, b.zoneLocks d z = 0 → 0 < r.1.zoneLocks d z → (r.1.zone d z).duty = 0 ∧ (r.1.zone d z).commanded = false := by
  intro r
  have few := entries_le b law
  obtain ⟨-, -, -, -, -, low, high, -⟩ := law
  have free := freeNum_free b 65 b.lockout.next low high (by omega) (by omega)
  have range := freeNum_range b 65 b.lockout.next low high
  have number : r.2 = b.freeNum 65 b.lockout.next := rfl
  have members := entries_placeLock b k d holder key free
  obtain ⟨axes, dishes, heater, -⟩ := placeLock_kept b k d holder key
  obtain ⟨axisLocks, zoneLocks⟩ := locks_placeLock b k d holder key
  refine ⟨by rwa [number], number ▸ range.1, number ▸ range.2, fun e mem => (members e).mpr (Or.inr mem),
    ⟨b.placedLock k d holder key, (members _).mpr (Or.inl rfl), rfl, rfl, rfl, rfl, rfl, rfl,
      engaged_placedLock b k d holder key, rfl, fun o mem => (members o).mp mem⟩, fun zone => ?_, fun j before after => ?_,
    fun z before after => ?_⟩
  · have still := actOnRise_still b (b.joined (b.freshLock k d holder key)) d rfl fun j rose => by
      have := rose.2
      rw [axisLocks_joined_zone b k d holder key zone, rose.1] at this
      exact absurd this (Nat.lt_irrefl 0)
    exact ⟨axes.trans still.1, dishes.trans still.2⟩
  · have settled := actOnRise_settled b (b.joined (b.freshLock k d holder key)) d j ⟨before, axisLocks ▸ after⟩
    have same : r.1.axis d j = _ := congrFun (congrFun (sameAxes_of_axes axes).2 d) j
    rw [same]
    exact settled
  · have shut := actOnRise_shuts b (b.joined (b.freshLock k d holder key)) d z ⟨before, zoneLocks ▸ after⟩
    have same : r.1.zone d z = (b.acted k d holder key).zone d z := by simp only [r, Block.zone, heater]
    rw [same]
    exact shut

/-- What an answer's key position makes of the key record and of the table (R147, R148). -/
theorem keyAnswer_row (b : Block) (d : DishId) (lockout : Bool) (law : b.LockLaw) :
    let old := b.lockout.keys[d]
    let t := b.keyAnswer d lockout
    let es := b.lockout.entries
    let own := ∃ e ∈ es, e.key = true ∧ e.dish = d
    old.lockRun ≤ 3 → old.remoteRun ≤ 3 →
    t.lockout.keys[d] = (if lockout = true then ⟨some true, min 3 (old.lockRun + 1), 0⟩
      else ⟨some false, 0, min 3 (old.remoteRun + 1)⟩)
    ∧ t.site.waiting = b.site.waiting ∧ t.site.running = b.site.running
    ∧ (lockout = true → old.lockRun = 2 → ¬own → ∃ e ∈ t.lockout.entries,
      e.key = true ∧ e.dish = d ∧ e.kind = .dish ∧ e.holder = 0 ∧ e.placed = b.siteSecond ∧ e.engaged = t.entrySafe e
      ∧ 1 ≤ e.num ∧ e.num ≤ 65535 ∧ (∀ o ∈ es, o.num ≠ e.num ∧ o ∈ t.lockout.entries)
      ∧ ∀ o ∈ t.lockout.entries, o = e ∨ o ∈ es)
    ∧ (lockout = false → old.remoteRun = 2 → t.lockout.entries = es.filter fun e => !(e.key && e.dish == d))
    ∧ ((lockout = true → old.lockRun ≠ 2 ∨ own) → (lockout = false → old.remoteRun ≠ 2) → t.lockout.entries = es) := by
  intro old t es own low low'
  obtain ⟨lockRow, remoteRow⟩ := key_reaches old lockout low low'
  obtain ⟨keys, site⟩ := keyAnswer_kept b d lockout
  refine ⟨?_, congrArg Site.waiting site, congrArg Site.running site, fun on third bare => ?_, fun off third => ?_,
    fun still still' => ?_⟩
  · rw [keys]
    simp [KeyRec.next, old]
  · have placed := keyAnswer_places b d (lockRow.mpr ⟨on, third⟩)
    rw [if_pos (by rw [Option.isNone_iff_eq_none, keyEntry_none]; exact bare)] at placed
    obtain ⟨free, low, high, before, ⟨e, mem, num, kind, dish, holder, key, -, engaged, second, only⟩, -⟩ :=
      placeLock_row (b.setKey d (old.next lockout)) .dish d 0 true law
    rw [← placed] at mem engaged only before
    refine ⟨e, mem, key, dish, kind, holder, second, engaged, num ▸ low, num ▸ high, fun o ho => ⟨?_, before o ho⟩, only⟩
    rw [num]
    exact free o ho
  · have short : ¬((old.next lockout).lockRun = 3 ∧ old.lockRun ≠ 3) := by
      rw [lockRow, off]
      simp
    have removed := keyAnswer_removes b d short (remoteRow.mpr ⟨off, third⟩)
    cases entry : b.keyEntry d with
    | some e =>
      rw [entry] at removed
      have unique := keyEntry_unique b d law entry
      obtain ⟨entries, -⟩ := takeLock_row (b.setKey d (old.next lockout)) e
      exact (congrArg (fun x : Block => x.lockout.entries) removed).trans (entries.trans unique)
    | none =>
      rw [entry] at removed
      refine (congrArg (fun x : Block => x.lockout.entries) removed).trans (List.filter_eq_self.mpr fun e mem => ?_).symm
      have := (keyEntry_none b d).mp entry
      simp only [Bool.not_eq_true', Bool.and_eq_false_imp, beq_eq_false_iff_ne]
      exact fun key same => this ⟨e, mem, key, same⟩
  · have short' : ¬((old.next lockout).remoteRun = 3 ∧ old.remoteRun ≠ 3) := by
      rw [remoteRow]
      exact fun h => still' h.1 h.2
    by_cases third : (old.next lockout).lockRun = 3 ∧ old.lockRun ≠ 3
    · have owned : own := (still (lockRow.mp third).1).resolve_left fun h => h (lockRow.mp third).2
      have kept := keyAnswer_places b d third
      rw [if_neg (by rw [Option.isNone_iff_eq_none, keyEntry_none]; exact fun h => h owned)] at kept
      exact (congrArg (fun x : Block => x.lockout.entries) kept :)
    · exact (congrArg (fun x : Block => x.lockout.entries) (keyAnswer_counts b d third short') :)

/-! ### The statement -/

/-- Settles O54: PLACE_LOCK, REMOVE_LOCK, the lock write, the counts' rise and fall, and the key switches. -/
theorem lockRequests : Obligations.LockRequests := by
  refine ⟨fun s tag kind n holder taken law => ?_, fun s tag num holder taken => ?_, fun b a => ?_, fun b d k => ?_,
    fun b d z => ?_, fun b d lockout law => ?_⟩
  · refine ⟨fun bad => ?_, fun k d named numbered held => ?_⟩
    · refine request_refused taken ?_
      unfold ownPlaceLock
      rcases bad with bad | bad | bad
      · rw [bad]
      · rw [bad]
        cases lockKindOf kind <;> rfl
      · subst bad
        cases lockKindOf kind <;> cases dishOf n <;> rfl
    · have refused {id : Nat} {b : Block} {c : Code} (h : b.placeRefused k d holder = some c) :
          ownPlaceLock kind n holder id b = refuse b c := by simp [ownPlaceLock, named, numbered, held, h]
      obtain ⟨unnamed, duplicate, room⟩ := placeRefused_eq (s.found (.placeLock tag kind n holder)) k d holder
      refine ⟨fun h => ?_, fun h t => ?_, fun h t full => ?_, fun h t free => ⟨?_, ?_⟩⟩
      · exact request_refused taken (refused (unnamed h))
      · exact request_refused taken (refused (duplicate h t))
      · exact request_refused taken (refused ((room h t).1 full))
      · exact request_waits taken (by simp [ownPlaceLock, named, numbered, held, (room h t).2 free])
      · exact placeLock_row (s.found (.placeLock tag kind n holder)) k d holder false law
  · refine ⟨fun zero => ?_, fun numbered => ⟨fun absent => ?_, fun e found => ⟨fun other => ?_, fun link own => ?_⟩⟩⟩
    · exact request_refused taken (by simp [ownRemoveLock, zero])
    · have missing : (s.found (.removeLock tag num holder)).lockEntry num = none := by
        simpa [Block.lockEntry] using absent
      exact request_refused taken (by simp [ownRemoveLock, numbered, missing])
    · have entry : (s.found (.removeLock tag num holder)).lockEntry num = some e := found
      refine request_refused taken ?_
      rcases other with key | other
      · simp [ownRemoveLock, numbered, entry, key]
      · simp [ownRemoveLock, numbered, entry, other]
    · have entry : (s.found (.removeLock tag num holder)).lockEntry num = some e := found
      have same : e.num = num := by simpa using List.find?_some found
      obtain ⟨entries, -, -, freed, stands⟩ := takeLock_row (s.found (.removeLock tag num holder)) e
      rw [same] at entries
      exact ⟨request_waits taken (by simp [ownRemoveLock, numbered, entry, link, own]), entries, freed, stands⟩
  · intro w u met room new links
    have unmet (h : ¬met) : b.waitsWrite .lock = false := Bool.eq_false_iff.mpr fun w => h ((waitsWrite_lock b).mp w)
    obtain ⟨joins, begins⟩ := askLock_taken b a
    refine ⟨fun h => joins ((waitsWrite_lock b).mpr h), fun h r running => ?_, fun h r running => ?_, fun h r => ?_⟩
    · obtain ⟨x, progress⟩ := Option.ne_none_iff_exists'.mp running
      refine (begins (unmet h) ((writeRoom_iff b).mpr r)).trans ?_
      rw [progress]
      simp only [Block.setWaiting, progress, w, new]
    · refine (begins (unmet h) ((writeRoom_iff b).mpr r)).trans ?_
      rw [running]
      rfl
    · exact askLock_fails b a (unmet h) (by rw [← Bool.not_eq_true, writeRoom_iff]; exact r)
  · refine ⟨fun locked => ?_, lockFall_row b d k⟩
    obtain ⟨braked, testing, moving, running, stopping, other⟩ := lockRise_row b d k locked
    refine ⟨braked, testing, moving, running, stopping, other, fun e j apart => ?_⟩
    exact axis_lockRise_other b d e k j fun same => apart (by rw [same.1, same.2])
  · have zone : (b.zoneLockRise d z).zone d z = (b.closedZone d z).zone d z := by rw [zoneLockRise_eq, zone_tellZone]
    have closed := zone_closedZone b d d z z
    rw [if_pos ⟨rfl, rfl⟩] at closed
    obtain ⟨bare, faulty, silent, locked⟩ := mode_closedZone b d z
    intro x shut
    have shut_eq : (b.closedZone d z).zone d z = shut := by rw [closed, ← zone]
    have mode : shut.mode = ((b.closedZone d z).zone d z).mode := (congrArg Zone.mode zone :)
    refine ⟨zone.trans shut_eq, ?_, ⟨b.closedZone d z, rfl, shut_eq, examineDue_closedZone b d z⟩, ?_, ?_, ?_, ?_,
      fun h => ?_, fun h => ?_⟩
    · simp [shut, Zone.watts, dutyWatts, ceilDiv]
    · rwa [mode]
    · rwa [mode]
    · rwa [mode]
    · rwa [mode]
    · rw [zoneLockFall_eq, if_pos h]
    · rw [zoneLockFall_eq, if_neg h]
  · exact keyAnswer_row b d lockout law

end Sys2Proof.Machine
end

-- ==== The loss of a node (R21, R133, R147, R161, R162) ====
section
/-! What a node's entering UNREACHABLE makes of its entry, and a cabinet's of its axes, zones and key record; what it
leaves of the other nodes. -/

open Sys2Proof

namespace Sys2Proof.Machine

/-! ### Zones of an unreachable cabinet (R133) -/

section
variable (b : Block) (d e : DishId) (z y : ZoneKind)

/-- One zone of an unreachable cabinet, before the report. -/
def Block.silentZone (b : Block) (d : DishId) (z : ZoneKind) : Block :=
  ((b.shutZone d z).modZone d z fun x =>
    { x with commanded := false, reported := none, temp := none, mismatch := none }).deriveZone d z

/-- Both zones of an unreachable cabinet. -/
theorem loseZones_eq : b.loseZones d = (((b.silentZone d .surf).tellZone d .surf).silentZone d .drive).tellZone d .drive := rfl

@[simp] theorem zoneless_silentZone : (b.silentZone d z).zoneless = b.zoneless := by
  simp [Block.silentZone, Block.deriveZone, modZone_eq]

@[simp] theorem zoneless_loseZones : (b.loseZones d).zoneless = b.zoneless := by simp [loseZones_eq]

theorem zone_silentZone : (b.silentZone d z).zone e y = if d = e ∧ z = y then
    { b.zone d z with
      duty := 0, commanded := false, reported := none, temp := none, mismatch := none
      mode := ((b.silentZone d z).zone d z).mode } else b.zone e y := by
  simp only [Block.silentZone, Block.deriveZone, modZone_eq, zone_setZone, zone_shutZone]
  split <;> simp

/-- Each zone of an unreachable cabinet is shut and shows nothing. -/
theorem zone_loseZones :
    let x := (b.loseZones d).zone d z
    x.duty = 0 ∧ x.commanded = false ∧ x.temp = none ∧ x.reported = none ∧ x.mismatch = none
    ∧ x.prewarm = (b.zone d z).prewarm := by
  cases z with
  | surf =>
    rw [loseZones_eq, zone_tellZone, zone_silentZone, if_neg (by simp), zone_tellZone, zone_silentZone, if_pos ⟨rfl, rfl⟩]
    exact ⟨rfl, rfl, rfl, rfl, rfl, rfl⟩
  | drive =>
    rw [loseZones_eq, zone_tellZone, zone_silentZone, if_pos ⟨rfl, rfl⟩, zone_tellZone, zone_silentZone, if_neg (by simp)]
    exact ⟨rfl, rfl, rfl, rfl, rfl, rfl⟩

end

/-! ### A cabinet's loss (R162) -/

/-- The axes, the zones and the key record of a lost cabinet, before the dish's work acts. -/
def Block.cabinetGone (b : Block) (d : DishId) : Block :=
  ((((b.offlineAxis d .az).offlineAxis d .el).loseZones d).clearKey d)

theorem loseCabinet_eq (b : Block) (d : DishId) : b.loseCabinet d = Block.reactLost b (b.cabinetGone d) d := rfl

/-- An axis of a lost cabinet. -/
def Axis.gone (a : Axis) (tb : Nat) : Axis :=
  { a with opDue := none, stage := .none, need := none, holdDue := some (tb + 10000) }.entered .offline

section
variable (b : Block) (d e : DishId) (k : AxisKind)

@[simp] theorem zoneless_setKey_axes (r : KeyRec) : (b.setKey d r).axes = b.axes := rfl

/-- The axes of a lost cabinet are OFFLINE; those of the others stand. -/
theorem axis_cabinetGone :
    (b.cabinetGone d).axis e k = if d = e then (b.axis e k).gone b.site.tb else b.axis e k := by
  have zones := sameButZones_of_zoneless (zoneless_loseZones ((b.offlineAxis d .az).offlineAxis d .el) d)
  obtain ⟨axes, -⟩ := zones
  have same : (b.cabinetGone d).axis = ((b.offlineAxis d .az).offlineAxis d .el).axis := (sameAxes_of_axes axes).2
  rw [same]
  by_cases h : d = e
  · subst h
    cases k <;> simp [Axis.gone]
  · simp [h]

/-- The claims stand. -/
theorem claim_cabinetGone : (b.cabinetGone d).claim e k = b.claim e k := by
  have zones := sameButZones_of_zoneless (zoneless_loseZones ((b.offlineAxis d .az).offlineAxis d .el) d)
  obtain ⟨-, -, -, -, -, -, -, -, claims, -⟩ := zones
  have same : (b.cabinetGone d).claim = ((b.offlineAxis d .az).offlineAxis d .el).claim := (sameClaims_of_claims claims).2
  rw [same]
  simp

/-- Field, weather, site and the lock entries stand; the key record is cleared. -/
theorem cabinetGone_kept :
    (b.cabinetGone d).field = b.field ∧ (b.cabinetGone d).weather = b.weather ∧ (b.cabinetGone d).site = b.site
    ∧ (b.cabinetGone d).lockout = { b.lockout with keys := b.lockout.keys.set d ⟨none, 0, 0⟩ } := by
  have beside : ((b.offlineAxis d .az).offlineAxis d .el).beside = b.beside := by simp
  obtain ⟨-, -, weather, -, lockout, field, site⟩ := records_of_beside beside
  obtain ⟨-, -, -, -, weather', lockout', field', site', -⟩ :=
    sameButZones_of_zoneless (zoneless_loseZones ((b.offlineAxis d .az).offlineAxis d .el) d)
  refine ⟨field'.trans field, weather'.trans weather, site'.trans site, ?_⟩
  simp only [Block.cabinetGone, Block.clearKey, Block.setKey, lockout', lockout]

/-- The zones of a lost cabinet. -/
theorem zone_cabinetGone (z : ZoneKind) :
    let x := (b.cabinetGone d).zone d z
    x.duty = 0 ∧ x.commanded = false ∧ x.temp = none ∧ x.reported = none ∧ x.mismatch = none
    ∧ x.prewarm = (b.zone d z).prewarm := by
  have beside : ((b.offlineAxis d .az).offlineAxis d .el).beside = b.beside := by simp
  obtain ⟨-, -, -, -, -, -, -, -, -, -, zone, -⟩ := outer_of_beside beside
  obtain ⟨duty, commanded, temp, reported, mismatch, prewarm⟩ :=
    zone_loseZones ((b.offlineAxis d .az).offlineAxis d .el) d z
  exact ⟨duty, commanded, temp, reported, mismatch, by rw [← zone]; exact prewarm⟩

/-- A lost cabinet's axes stay OFFLINE through what its dish does, and so do those lost before. -/
theorem axis_loseCabinet (h : d = e ∨ (b.axis e k).state.lost = true) :
    (b.loseCabinet d).axis e k = (if d = e then (b.axis e k).gone b.site.tb else b.axis e k)
    ∧ (b.loseCabinet d).claim e k = b.claim e k := by
  have axis := axis_cabinetGone b d e k
  have lost : ((b.cabinetGone d).axis e k).state.lost = true := by
    rw [axis]
    rcases h with rfl | h
    · simp [Axis.gone, AxisState.lost]
    · split
      · simp [Axis.gone, AxisState.lost]
      · exact h
  have stands : (b.cabinetGone d).Stands e k ((b.cabinetGone d).axis e k) ((b.cabinetGone d).claim e k) := by
    refine ⟨rfl, fun _ => rfl, ?_, by rw [Block.axisLost, lost, Bool.true_or]⟩
    intro held
    rw [held] at lost
    exact absurd lost (by decide)
  have kept := stands_reactLost b stands d
  rw [loseCabinet_eq, ← claim_cabinetGone b d, ← axis]
  refine ⟨kept.axis, kept.claim fun engaging => ?_⟩
  rw [engaging] at lost
  exact absurd lost (by decide)

/-- A cabinet's loss leaves field, weather, site and the lock entries, clears the key record, and shuts its zones. -/
theorem loseCabinet_kept :
    (b.loseCabinet d).field = b.field ∧ (b.loseCabinet d).weather = b.weather ∧ (b.loseCabinet d).site = b.site
    ∧ (b.loseCabinet d).lockout = { b.lockout with keys := b.lockout.keys.set d ⟨none, 0, 0⟩ }
    ∧ (b.loseCabinet d).zone = (b.cabinetGone d).zone := by
  obtain ⟨field, weather, site, lockout⟩ := cabinetGone_kept b d
  obtain ⟨-, weather', -, lockout', field', site', -, zone, -⟩ :=
    sameGround_of_ground (ground_reactLost (b.cabinetGone d) d b)
  rw [loseCabinet_eq]
  exact ⟨field'.trans field, weather'.trans weather, site'.trans site, lockout'.trans lockout, zone⟩

end

/-! ### A node's reach set (R161, R162) -/

section
variable (b : Block) (r q : NodeRef) (new : Reach)

/-- A block without its node entries and its report queue. -/
def Block.nodeless (b : Block) : Block :=
  { b with
    field := { b.field with
      cabs := (Block.afterReset Store.erased).field.cabs, wxs := (Block.afterReset Store.erased).field.wxs }
    link := { b.link with reports := [], lost := false } }

@[simp] theorem nodeless_setNode (x : Node) : (b.setNode r x).nodeless = b.nodeless := by cases r <;> rfl

@[simp] theorem nodeless_report (kind : RepKind) (n : Nat) (pre post : List Fld) (prev : Option Fld) :
    (b.report kind n pre prev post).nodeless = b.nodeless := by
  obtain ⟨q, l, h⟩ := report_eq b kind n pre post prev
  rw [h]
  rfl

@[simp] theorem nodeless_reportReach : (b.reportReach r new).nodeless = b.nodeless := by
  unfold Block.reportReach
  simp only []
  split <;> simp

variable {b} in
/-- The records that stand where only nodes change. -/
theorem records_of_nodeless {c : Block} (h : b.nodeless = c.nodeless) :
    b.axes = c.axes ∧ b.dishes = c.dishes ∧ b.account = c.account ∧ b.heater = c.heater ∧ b.weather = c.weather
    ∧ b.lockout = c.lockout ∧ b.site = c.site ∧ b.configured = c.configured ∧ b.planner = c.planner
    ∧ b.points = c.points := by
  have configured : b.field.configured = c.field.configured := (congrArg (fun x : Block => x.field.configured) h :)
  exact ⟨(congrArg Block.axes h :), (congrArg Block.dishes h :), (congrArg Block.account h :),
    (congrArg Block.heater h :), (congrArg Block.weather h :), (congrArg Block.lockout h :), (congrArg Block.site h :),
    by funext d; simp only [Block.configured, configured], (congrArg Block.planner h :), (congrArg Block.points h :)⟩

/-- A node reported UNREACHABLE, its last status cleared. -/
def Block.silenced (b : Block) (r : NodeRef) : Block :=
  (b.reportReach r .unreachable).setNode r { (b.reportReach r .unreachable).node r with lastStatus := none }

@[simp] theorem nodeless_silenced : (b.silenced r).nodeless = b.nodeless := by simp [Block.silenced]

theorem node_silenced : (b.silenced r).node q =
    if r = q then { b.node r with reach := .unreachable, lastStatus := none } else b.node q := by
  by_cases h : r = q
  · subst h
    simp [Block.silenced]
  · simp [Block.silenced, h]

/-- Another reach is set with its report alone. -/
theorem setReach_other (h : new ≠ .unreachable) : b.setReach r new = b.reportReach r new := by
  unfold Block.setReach
  split
  · next same => simp [Block.reportReach, same]
  · simp

variable {b} in
/-- UNREACHABLE entered: a cabinet is lost. -/
theorem setReach_cab (d : DishId) (h : (b.node (.cab d)).reach ≠ .unreachable) :
    b.setReach (.cab d) .unreachable = (b.silenced (.cab d)).loseCabinet d := by
  unfold Block.setReach
  rw [if_neg h]
  rfl

variable {b} in
/-- UNREACHABLE entered by a weather node. -/
theorem setReach_wx (n : WeatherId) (h : (b.node (.wx n)).reach ≠ .unreachable) :
    b.setReach (.wx n) .unreachable = b.silenced (.wx n) := by
  unfold Block.setReach
  rw [if_neg h]
  rfl

/-- The nodes as a node's UNREACHABLE leaves them. -/
theorem node_setReach_unreachable (h : (b.node r).reach ≠ .unreachable) :
    (b.setReach r .unreachable).node q =
      if r = q then { b.node r with reach := .unreachable, lastStatus := none } else b.node q := by
  rw [← node_silenced]
  cases r with
  | wx n => rw [setReach_wx n h]
  | cab d =>
    obtain ⟨field, -⟩ := loseCabinet_kept (b.silenced (.cab d)) d
    rw [setReach_cab d h]
    cases q <;> simp only [Block.node, field]

/-- The weather, the site and the configured set stand, and the lock entries. -/
theorem setReach_unreachable_kept (h : (b.node r).reach ≠ .unreachable) :
    let t := b.setReach r .unreachable
    t.weather = b.weather ∧ t.site = b.site ∧ t.configured = b.configured := by
  obtain ⟨-, -, -, -, weather, -, site, configured, -⟩ := records_of_nodeless (nodeless_silenced b r)
  cases r with
  | wx n =>
    rw [setReach_wx n h]
    exact ⟨weather, site, configured⟩
  | cab d =>
    obtain ⟨field, weather', site', -⟩ := loseCabinet_kept (b.silenced (.cab d)) d
    rw [setReach_cab d h]
    refine ⟨weather'.trans weather, site'.trans site, ?_⟩
    rw [← configured]
    funext e
    simp only [Block.configured, field]

end

/-- What UNREACHABLE makes of a cabinet's axes, zones, key record and entry. -/
theorem setReach_cabinet (b : Block) (d : DishId) (h : (b.node (.cab d)).reach ≠ .unreachable) :
    let t := b.setReach (.cab d) .unreachable
    (∀ k, t.axis d k = (b.axis d k).gone b.site.tb ∧ t.claim d k = b.claim d k)
    ∧ (∀ z, (t.zone d z).duty = 0 ∧ (t.zone d z).commanded = false ∧ (t.zone d z).temp = none
      ∧ (t.zone d z).reported = none ∧ (t.zone d z).mismatch = none ∧ (t.zone d z).prewarm = (b.zone d z).prewarm)
    ∧ t.lockout.keys[d] = ⟨none, 0, 0⟩ ∧ (t.node (.cab d)).lastStatus = none := by
  obtain ⟨axes, -, account, heater, -, -, site, -⟩ := records_of_nodeless (nodeless_silenced b (.cab d))
  have axis := (sameAxes_of_axes axes).2
  have claim := (sameClaims_of_claims (congrArg Account.claims account)).2
  have zone : (b.silenced (.cab d)).zone = b.zone := by funext e z; simp only [Block.zone, heater]
  obtain ⟨-, -, -, lockout, zones⟩ := loseCabinet_kept (b.silenced (.cab d)) d
  refine ⟨fun k => ?_, fun z => ?_, ?_, by rw [node_setReach_unreachable b _ _ h, if_pos rfl]⟩
  · have row := axis_loseCabinet (b.silenced (.cab d)) d d k (Or.inl rfl)
    rw [if_pos rfl, axis, claim, site] at row
    rw [setReach_cab d h]
    exact row
  · have row := zone_cabinetGone (b.silenced (.cab d)) d z
    rw [zone] at row
    rw [setReach_cab d h, zones]
    exact row
  · rw [setReach_cab d h, lockout]
    simp

end Sys2Proof.Machine
end

-- ==== The end of DISCOVERING (R161, R185) ====
section
/-! Which nodes DISCOVERING's end makes UNREACHABLE, and what it leaves. -/

open Sys2Proof

namespace Sys2Proof.Machine

/-- Every node is among the twenty, once. -/
theorem allNodes_nodup : allNodes.Nodup := by decide
theorem mem_allNodes (r : NodeRef) : r ∈ allNodes := by
  cases r with
  | cab d => exact List.mem_append_left _ (List.mem_map_of_mem (mem_allDishes d))
  | wx n => exact List.mem_append_right _ (List.mem_map_of_mem (by fin_cases n <;> decide))

/-- A node of the cycle whose reach is not known yet. -/
abbrev Block.Unheard (b : Block) (r : NodeRef) : Prop := b.inCycle r = true ∧ (b.node r).reach = .unknown

/-- A node UNREACHABLE with both counts at 3. -/
def Node.silent (x : Node) : Node := { x with missA := 3, missB := 3, reach := .unreachable, lastStatus := none }

/-- The counts of a node set to 3. -/
def Block.missed (b : Block) (r : NodeRef) : Block := b.setNode r { b.node r with missA := 3, missB := 3 }

section
variable {b : Block} {r q : NodeRef}

/-- The cycle is read from the weather entries and the configured set. -/
theorem inCycle_of_kept {t : Block} (weather : t.weather = b.weather) (configured : t.configured = b.configured) :
    t.inCycle = b.inCycle := by
  funext r
  cases r <;> simp only [Block.inCycle, Block.wx, weather, configured]

theorem loseUnknown_unheard (h : b.Unheard r) : b.loseUnknown r = (b.missed r).setReach r .unreachable := by
  simp [Block.loseUnknown, Block.missed, h.1, h.2]

theorem loseUnknown_heard (h : ¬b.Unheard r) : b.loseUnknown r = b := by
  simp only [Block.Unheard, not_and] at h
  unfold Block.loseUnknown
  rw [if_neg]
  simpa using h

theorem reach_missed (h : b.Unheard r) : ((b.missed r).node r).reach ≠ .unreachable := by
  simp [Block.missed, h.2]

/-- The node is lost, the others stand; so do the site and the cycle. -/
theorem loseUnknown_row (h : b.Unheard r) :
    (b.loseUnknown r).node q = (if r = q then (b.node r).silent else b.node q)
    ∧ (b.loseUnknown r).site = b.site ∧ (b.loseUnknown r).inCycle = b.inCycle := by
  obtain ⟨weather, site, configured⟩ := setReach_unreachable_kept (b.missed r) r (reach_missed h)
  obtain ⟨-, -, -, -, weather', -, site', configured', -⟩ :=
    records_of_nodeless (nodeless_setNode b r { b.node r with missA := 3, missB := 3 })
  rw [loseUnknown_unheard h]
  refine ⟨?_, site.trans site', inCycle_of_kept (weather.trans weather') (configured.trans configured')⟩
  rw [node_setReach_unreachable _ _ _ (reach_missed h)]
  by_cases same : r = q
  · subst same
    simp [Block.missed, Node.silent]
  · simp [Block.missed, same]

/-- What each step leaves, whether the node is lost or not. -/
theorem loseUnknown_kept (b : Block) (r : NodeRef) :
    (∀ q, r ≠ q → (b.loseUnknown r).node q = b.node q) ∧ (b.loseUnknown r).site = b.site
    ∧ (b.loseUnknown r).inCycle = b.inCycle := by
  by_cases h : b.Unheard r
  · refine ⟨fun q other => ?_, (loseUnknown_row (q := r) h).2⟩
    rw [(loseUnknown_row (q := q) h).1, if_neg other]
  · rw [loseUnknown_heard h]
    exact ⟨fun _ _ => rfl, rfl, rfl⟩

/-- An axis OFFLINE without a need. -/
def Axis.Gone (a : Axis) : Prop := a.state = .offline ∧ a.need = none

/-- The axes of an unheard cabinet are lost with it; an axis lost stays so. -/
theorem loseUnknown_axis (b : Block) (d : DishId) (e : DishId) (k : AxisKind)
    (h : (d = e ∧ b.Unheard (.cab d)) ∨ (b.axis e k).Gone) : ((b.loseUnknown (.cab d)).axis e k).Gone := by
  by_cases lost : b.Unheard (.cab d)
  · have axes : (b.missed (.cab d)).axis = b.axis := by simp [Block.missed]
    have axes' := (sameAxes_of_axes (records_of_nodeless (nodeless_silenced (b.missed (.cab d)) (.cab d))).1).2
    have gone : d = e ∨ (((b.missed (.cab d)).silenced (.cab d)).axis e k).state.lost = true := by
      refine h.imp (fun same => same.1) fun gone => ?_
      rw [axes', axes, gone.1]
      rfl
    rw [loseUnknown_unheard lost, setReach_cab d (reach_missed lost), (axis_loseCabinet _ d e k gone).1]
    split
    · exact ⟨rfl, rfl⟩
    · next other =>
      rw [axes', axes]
      exact h.resolve_left fun same => other same.1
  · rw [loseUnknown_heard lost]
    exact h.resolve_left fun same => lost same.2

theorem loseUnknown_axis_wx (b : Block) (n : WeatherId) (e : DishId) (k : AxisKind) (h : (b.axis e k).Gone) :
    ((b.loseUnknown (.wx n)).axis e k).Gone := by
  by_cases lost : b.Unheard (.wx n)
  · have axes : (b.missed (.wx n)).axis = b.axis := by simp [Block.missed]
    have axes' := (sameAxes_of_axes (records_of_nodeless (nodeless_silenced (b.missed (.wx n)) (.wx n))).1).2
    rw [loseUnknown_unheard lost, setReach_wx n (reach_missed lost), axes', axes]
    exact h
  · rwa [loseUnknown_heard lost]

end

section
variable (b : Block)

/-- READY, before the unheard nodes are lost. -/
def Block.readied (b : Block) : Block := { b with site := { b.site with startup := .ready, discovering := none } }

theorem becomeReady_eq : b.becomeReady = b.readied.each allNodes fun r s => s.loseUnknown r := rfl

/-- The site as it becomes READY, and the cycle. -/
theorem becomeReady_kept :
    b.becomeReady.site = { b.site with startup := .ready, discovering := none } ∧ b.becomeReady.inCycle = b.inCycle := by
  have site : b.becomeReady.site = b.readied.site := by
    rw [becomeReady_eq]
    exact each_keeps Block.site _ _ (fun r s => (loseUnknown_kept s r).2.1) _
  have cycle : b.becomeReady.inCycle = b.readied.inCycle := by
    rw [becomeReady_eq]
    exact each_keeps Block.inCycle _ _ (fun r s => (loseUnknown_kept s r).2.2) _
  exact ⟨site, cycle.trans (inCycle_of_kept rfl rfl)⟩

/-- A node heard, or out of the cycle, stands. -/
theorem node_becomeReady_heard (r : NodeRef) (h : ¬b.Unheard r) : b.becomeReady.node r = b.node r := by
  rw [becomeReady_eq]
  refine And.left (b := (b.readied.each allNodes fun r s => s.loseUnknown r).inCycle = b.inCycle) ?_
  refine each_holds (fun s => s.node r = b.node r ∧ s.inCycle = b.inCycle) _ _ ?_ b.readied
    ⟨by cases r <;> rfl, inCycle_of_kept rfl rfl⟩
  rintro q s ⟨node, cycle⟩
  obtain ⟨other, -, cycle'⟩ := loseUnknown_kept s q
  refine ⟨?_, cycle'.trans cycle⟩
  by_cases same : q = r
  · subst same
    rw [loseUnknown_heard (by rwa [Block.Unheard, node, cycle]), node]
  · rw [other r same, node]

/-- An unheard node is UNREACHABLE with both counts at 3. -/
theorem node_becomeReady_unheard (r : NodeRef) (h : b.Unheard r) : b.becomeReady.node r = (b.node r).silent := by
  rw [becomeReady_eq]
  refine each_at (fun s => s.node r = b.node r ∧ s.inCycle = b.inCycle) (fun s => s.node r = (b.node r).silent) _ r
    ?_ ?_ ?_ _ allNodes_nodup (mem_allNodes r) b.readied ⟨by cases r <;> rfl, inCycle_of_kept rfl rfl⟩
  · rintro q s other ⟨node, cycle⟩
    obtain ⟨kept, -, cycle'⟩ := loseUnknown_kept s q
    exact ⟨(kept r other).trans node, cycle'.trans cycle⟩
  · rintro s ⟨node, cycle⟩
    rw [(loseUnknown_row (q := r) (by rwa [Block.Unheard, node, cycle])).1, if_pos rfl, node]
  · intro q s other node
    rw [(loseUnknown_kept s q).1 r other, node]

/-- The axes of an unheard cabinet are OFFLINE without a need. -/
theorem axis_becomeReady (d : DishId) (k : AxisKind) (h : b.Unheard (.cab d)) : (b.becomeReady.axis d k).Gone := by
  rw [becomeReady_eq]
  refine each_at (fun s => s.node (.cab d) = b.node (.cab d) ∧ s.inCycle = b.inCycle) (fun s => (s.axis d k).Gone) _
    (.cab d) ?_ ?_ ?_ _ allNodes_nodup (mem_allNodes _) b.readied ⟨rfl, inCycle_of_kept rfl rfl⟩
  · rintro q s other ⟨node, cycle⟩
    obtain ⟨kept, -, cycle'⟩ := loseUnknown_kept s q
    exact ⟨(kept _ other).trans node, cycle'.trans cycle⟩
  · rintro s ⟨node, cycle⟩
    exact loseUnknown_axis s d d k (Or.inl ⟨rfl, by rwa [Block.Unheard, node, cycle]⟩)
  · intro q s other gone
    cases q with
    | cab e => exact loseUnknown_axis s e d k (Or.inr gone)
    | wx n => exact loseUnknown_axis_wx s n d k gone

/-- DISCOVERING ends as soon as every configured cabinet's key has three answers in a row. -/
theorem judgeStartup_row :
    let found := ∀ d, b.configured d = true → b.lockout.keys[d].lockRun = 3 ∨ b.lockout.keys[d].remoteRun = 3
    (b.site.startup = .discovering → found → b.judgeStartup = b.becomeReady)
    ∧ (b.site.startup ≠ .discovering ∨ ¬found → b.judgeStartup = b) := by
  intro found
  have discovered : b.discovered = true ↔ found := by
    have all : b.discovered = true ↔ ∀ d ∈ allDishes, b.configured d = true → b.lockout.keys[d].lockRun = 3
        ∨ b.lockout.keys[d].remoteRun = 3 := by
      simp only [Block.discovered, List.all_eq_true, Bool.or_eq_true, Bool.not_eq_true', beq_iff_eq, or_assoc]
      refine forall_congr' fun d => forall_congr' fun _ => ?_
      cases b.configured d <;> simp
    exact all.trans ⟨fun h d => h d (mem_allDishes d), fun h d _ => h d⟩
  refine ⟨fun h f => ?_, fun h => ?_⟩
  · rw [Block.judgeStartup, if_pos ⟨h, discovered.mpr f⟩]
  · rw [Block.judgeStartup, if_neg]
    rintro ⟨s, f⟩
    exact h.elim (fun h => h s) fun h => h (discovered.mp f)

end

end Sys2Proof.Machine
end

-- ==== The load (R66, R67, R83, R140, R150, R154, R185) ====
section
/-! What the load puts in force, record by record, and what a line already in BREAK, which sets its stop mark as
DISCOVERING begins, leaves of it. -/

open Sys2Proof

namespace Sys2Proof.Machine

/-! ### What a stop mark leaves -/

/-- The settings in force: the link's rate, B_req and the floor, lines and cabinets, weather, the zones' settings. -/
def Block.settings (b : Block) :=
  (b.link.rate, b.account.breq, b.account.floor, b.field, b.weather, fun d z => (b.zone d z).cfg)

/-- Settling and the operations it uses leave the settings. -/
theorem settings_of_still {b c : Block} (h : b.still = c.still) : b.settings = c.settings := by
  have rate : b.link.rate = c.link.rate := (congrArg (fun x : Block => x.link.rate) h :)
  have breq : b.account.breq = c.account.breq := (congrArg (fun x : Block => x.account.breq) h :)
  have floor : b.account.floor = c.account.floor := (congrArg (fun x : Block => x.account.floor) h :)
  have field : b.field = c.field := (congrArg Block.field h :)
  have weather : b.weather = c.weather := (congrArg Block.weather h :)
  have zones : (fun d z => (b.zone d z).cfg) = fun d z => (c.zone d z).cfg := by
    funext d z
    exact (congrArg Zone.cfg (zone_still_of_still h d z) :)
  simp only [Block.settings, zones, rate, breq, floor, field, weather]

/-- Operations on one axis leave the settings. -/
theorem settings_of_beside {b c : Block} (h : b.beside = c.beside) : b.settings = c.settings := by
  obtain ⟨-, -, weather, heater, -, field, -⟩ := records_of_beside h
  have rate : b.link.rate = c.link.rate := (congrArg (fun x : Block => x.link.rate) h :)
  have breq : b.account.breq = c.account.breq := (congrArg (fun x : Block => x.account.breq) h :)
  have floor : b.account.floor = c.account.floor := (congrArg (fun x : Block => x.account.floor) h :)
  simp only [Block.settings, Block.zone, heater, field, weather, rate, breq, floor]

section
variable (b : Block) (src : StopSource)

theorem settings_estopGroups (b0 : Block) : (Block.estopGroups b0 b).settings = b.settings := by
  have stopped (s : Block) (g : GroupId) : (Block.stopMembers b0 s g).still = s.still := by
    unfold Block.stopMembers
    (repeat' split) <;> simp
  refine settings_of_still ?_
  unfold Block.estopGroups Block.abortAll
  rw [still_each _ _ _ fun g s => ?_, still_each _ _ _ fun g s => stopped s g]
  (repeat' split) <;> simp

theorem settings_estopDish (d : DishId) : (b.estopDish d).settings = b.settings := by
  have mode (s : Block) : (s.estopMode d).still = s.still := by
    unfold Block.estopMode
    (repeat' split) <;> simp
  have cleared (s : Block) (f : Dish → Dish) : (s.modDish d f).settings = s.settings := rfl
  rw [estopDish_eq, settings_of_still (mode _), Block.workEnded, cleared]
  exact settings_of_still (by simp)

theorem settings_flush (d : DishId) : (b.flush d).settings = b.settings := rfl

/-- The latch leaves the settings. -/
theorem settings_latchEstop : (b.latchEstop src).settings = b.settings := by
  have latched : (b.latched src).settings = b.settings := by
    unfold Block.latched Block.tellEstop
    exact (settings_of_beside (beside_tell ..)).trans rfl
  have braked := settings_of_beside (beside_estopAxes (b.latched src))
  rw [latchEstop_eq, Block.flushAll, each_keeps Block.settings _ _ fun d s => settings_flush s d, Block.estopDishes,
    each_keeps Block.settings _ _ fun d s => settings_estopDish s d, settings_estopGroups, braked, latched]

/-- A claim given back under a budget that does not lag leaves B_eff. -/
theorem beff_releaseClaim (d : DishId) (k : AxisKind) (level : b.account.beff = b.account.breq) :
    (b.releaseClaim d k).account.beff = b.account.beff := by
  have unlagged (t : Block) (h : t.account.beff = t.account.breq) : t.followLag = t := by
    unfold Block.followLag
    rw [if_neg (by omega)]
  unfold Block.releaseClaim
  split
  · rfl
  · split
    · rfl
    · rw [unlagged (b.setClaim d k none) level]
      rfl

theorem beff_estopAxis (d : DishId) (k : AxisKind) (level : b.account.beff = b.account.breq) :
    (b.estopAxis d k).account.beff = b.account.beff := by
  have withdrawn (s : Block) (w : Waiter) : (s.withdraw w).account.beff = s.account.beff ∧
      (s.withdraw w).account.breq = s.account.breq := by
    unfold Block.withdraw
    split <;> exact ⟨rfl, rfl⟩
  unfold Block.estopAxis
  split
  · rw [Block.abandonTest, rest_eq]
    simp only [enter_kept]
    exact beff_releaseClaim ((b.modAxis d k fun a => { a with opDue := none, need := none }).setOrder d k .none) d k level
  · simp [dropNeed_eq]
  · simp [dropNeed_eq]
  · simp [dropNeed_eq]
  · simp [dropNeed_eq]
  · unfold Block.withdrawNeed
    simp only []
    split
    · obtain ⟨beff, breq⟩ := withdrawn (b.modAxis d k fun a => { a with need := none, stage := .none }) (.axis d k)
      exact (beff_releaseClaim _ d k ((beff.trans level).trans breq.symm)).trans beff
    · rfl

/-- The latch leaves a level budget level. -/
theorem beff_latchEstop (level : b.account.beff = b.account.breq) : (b.latchEstop src).account.beff = b.account.beff := by
  obtain ⟨-, account, -⟩ := latched_kept b src
  have axes : (b.latched src).estopAxes.account.beff = (b.latched src).account.beff
      ∧ (b.latched src).estopAxes.account.breq = (b.latched src).account.breq := by
    unfold Block.estopAxes
    refine each_holds (fun s => s.account.beff = (b.latched src).account.beff
      ∧ s.account.breq = (b.latched src).account.breq) _ _ ?_ _ ⟨rfl, rfl⟩
    rintro p s ⟨beff, breq⟩
    have kept : (s.estopAxis p.1 p.2).account.breq = s.account.breq :=
      (congrArg (fun x : Block => x.account.breq) (beside_estopAxis s p.1 p.2) :)
    refine ⟨(beff_estopAxis s p.1 p.2 ?_).trans beff, kept.trans breq⟩
    rw [beff, breq, account, level]
  rw [(calm_latchEstop b src).beff, axes.1, account]

/-- What an axis keeps under the latch of its settings and its wear. -/
theorem worn_latchEstop (d : DishId) (k : AxisKind) :
    ((b.latchEstop src).axis d k).still = (b.axis d k).still := by
  obtain ⟨braking, tested, staged, bare⟩ := latchEstop_stopped b src d k
  cases state : (b.axis d k).state with
  | releasing | held | moving | stopping => rw [(braking (by simp [state])).1]; simp
  | testing => rw [(tested state).1]; simp
  | engaging | locked | faulted | offline => rw [(bare (by simp [state])).1]
  | braked =>
    by_cases stage : (b.axis d k).stage = .none
    · rw [(bare (by simp [state, stage])).1]
    · rw [(staged state stage).1]

/-- What a stop mark leaves of the settings, the axes' wear, the locks, the budget and the site. -/
structure Block.Carries (b t : Block) : Prop where
  settings : t.settings = b.settings
  worn : ∀ d k, (t.axis d k).still = (b.axis d k).still
  entries : t.lockout = b.lockout
  level : b.account.beff = b.account.breq → t.account.beff = b.account.beff
  site : ∃ m e o, t.site = { b.site with marks := m, estop := e, stopSource := o }

theorem carries_refl : b.Carries b := ⟨rfl, fun _ _ => rfl, rfl, fun _ => rfl, _, _, _, rfl⟩

variable {b} in
theorem carries_trans {t u : Block} (h : b.Carries t) (h' : t.Carries u) : b.Carries u := by
  obtain ⟨settings, worn, entries, level, m, e, o, site⟩ := h
  obtain ⟨settings', worn', entries', level', m', e', o', site'⟩ := h'
  refine ⟨settings'.trans settings, fun d k => (worn' d k).trans (worn d k), entries'.trans entries, fun even => ?_,
    m', e', o', by rw [site', site]⟩
  have breq : t.account.breq = b.account.breq := (congrArg (fun x => x.2.1) settings :)
  rw [level' (by rw [level even, breq, even]), level even]

/-- The marks alone changed. -/
def Block.marked (v : Bool) : Block := { b with site := { b.site with marks := b.site.marks.put src v } }

theorem carries_marked (v : Bool) : b.Carries (b.marked src v) :=
  ⟨rfl, fun _ _ => rfl, rfl, fun _ => rfl, b.site.marks.put src v, b.site.estop, b.site.stopSource, rfl⟩

theorem carries_tellEstop : b.Carries b.tellEstop := by
  unfold Block.tellEstop
  exact ⟨settings_of_beside (by simp), fun d k => by simp, by simp, fun _ => by simp, b.site.marks, b.site.estop,
    b.site.stopSource, by simp⟩

theorem carries_latchEstop : b.Carries (b.latchEstop src) := by
  have calm := calm_latchEstop b src
  obtain ⟨site, -, lockout, -⟩ := braked_kept b src
  exact ⟨settings_latchEstop b src, worn_latchEstop b src, calm.lockout.trans lockout, beff_latchEstop b src,
    b.site.marks, true, some src, calm.site.trans site⟩

theorem carries_setMark (v : Bool) : b.Carries (b.setMark src v) := by
  have marked := carries_marked b src v
  unfold Block.setMark
  simp only []
  split
  · exact carries_refl b
  · split
    · exact carries_trans marked (carries_tellEstop (b.marked src v))
    · split
      · exact carries_trans marked (carries_latchEstop (b.marked src v) src)
      · exact marked

theorem carries_markBreak (l : Line) : b.Carries (b.markBreak l) := by
  unfold Block.markBreak
  split
  · exact carries_setMark b (.line l) true
  · exact carries_refl b

end

end Sys2Proof.Machine
end

-- ==== The load's records and STORE_LOAD_DONE (R66, R67, R83, R140, R150, R154, R185) ====
section
/-! The image put in force table by table, the locks, the wear and the floor judged anew; then the start-up. -/

open Sys2Proof

namespace Sys2Proof.Machine

/-! ### The image (R150, R154) -/

/-- The records that no table of the image stands in. -/
def Block.unloaded (b : Block) := (b.field, b.link, b.account, b.site, b.lockout)

section
variable (b : Block) (m : Image) (counts : Vector (PerAxis Nat) 12)

/-- The axes loaded, then the zones, then the weather entries. -/
def Block.loadAxes : Block := b.each allAxes fun p s => s.setAxis p.1 p.2 (s.loadedAxis m counts p.1 p.2)
def Block.loadZones : Block := b.each allZones fun p s => s.setZone p.1 p.2 (s.loadedZone m p.1 p.2)
def Block.loadWx : Block := b.each allWeather fun n s => s.setWx n (s.loadedWx m n)

theorem unloaded_setAxis (d : DishId) (k : AxisKind) (x : Axis) : (b.setAxis d k x).unloaded = b.unloaded := rfl
theorem unloaded_setZone (d : DishId) (z : ZoneKind) (x : Zone) : (b.setZone d z x).unloaded = b.unloaded := rfl
theorem unloaded_setWx (n : WeatherId) (x : WxEntry) : (b.setWx n x).unloaded = b.unloaded := rfl

theorem loadAxes_kept : (b.loadAxes m counts).unloaded = b.unloaded ∧ (b.loadAxes m counts).heater = b.heater
    ∧ (b.loadAxes m counts).weather = b.weather := by
  unfold Block.loadAxes
  exact ⟨each_keeps Block.unloaded _ _ (fun _ s => unloaded_setAxis s ..) b,
    each_keeps Block.heater _ _ (fun _ s => by simp) b, each_keeps Block.weather _ _ (fun _ s => by simp) b⟩

theorem loadZones_kept : (b.loadZones m).unloaded = b.unloaded ∧ (b.loadZones m).axes = b.axes
    ∧ (b.loadZones m).weather = b.weather := by
  unfold Block.loadZones
  exact ⟨each_keeps Block.unloaded _ _ (fun _ s => unloaded_setZone s ..) b,
    each_keeps Block.axes _ _ (fun _ s => by simp) b, each_keeps Block.weather _ _ (fun _ s => by simp) b⟩

theorem loadWx_kept : (b.loadWx m).unloaded = b.unloaded ∧ (b.loadWx m).axes = b.axes
    ∧ (b.loadWx m).heater = b.heater := by
  unfold Block.loadWx
  exact ⟨each_keeps Block.unloaded _ _ (fun _ s => unloaded_setWx s ..) b,
    each_keeps Block.axes _ _ (fun _ s => by simp) b, each_keeps Block.heater _ _ (fun _ s => by simp) b⟩

/-- The records of the image that are no tables. -/
def Block.putRest : Block :=
  let t := (b.setLine .a (b.field.lineA.loaded m.lineA)).setLine .b (b.field.lineB.loaded m.lineB)
  let t := { t with field := { t.field with configured := m.cabinets } }
  let t := { t with link := { t.link with rate := m.site.rate } }
  let t := { t with account := { t.account with breq := m.breq, beff := m.breq } }
  { t with site := { t.site with cfg := m.site } }

theorem putImage_eq : b.putImage m counts = (((b.loadAxes m counts).loadZones m).loadWx m).putRest m := rfl

theorem putRest_kept :
    (b.putRest m).axes = b.axes ∧ (b.putRest m).heater = b.heater ∧ (b.putRest m).weather = b.weather
    ∧ (b.putRest m).field.lineA = b.field.lineA.loaded m.lineA ∧ (b.putRest m).field.lineB = b.field.lineB.loaded m.lineB
    ∧ (b.putRest m).field.configured = m.cabinets ∧ (b.putRest m).link = { b.link with rate := m.site.rate }
    ∧ (b.putRest m).account.breq = m.breq ∧ (b.putRest m).site = { b.site with cfg := m.site } :=
  ⟨rfl, rfl, rfl, rfl, rfl, rfl, rfl, rfl, rfl⟩

theorem axis_loadAxes (d : DishId) (k : AxisKind) : (b.loadAxes m counts).axis d k = b.loadedAxis m counts d k := by
  refine each_at (fun s => s.axis d k = b.axis d k) (fun s => s.axis d k = b.loadedAxis m counts d k) _ (d, k)
    (fun p s other same => ?_) (fun s same => ?_) (fun p s other same => ?_) _ allAxes_nodup (mem_allAxes _) b rfl
  · rw [axis_setAxis, if_neg fun h => other (Prod.ext h.1 h.2), same]
  · simp [Block.loadedAxis, same]
  · rw [axis_setAxis, if_neg fun h => other (Prod.ext h.1 h.2), same]

theorem allZones_nodup : allZones.Nodup := by decide
theorem mem_allZones (p : DishId × ZoneKind) : p ∈ allZones := by
  obtain ⟨d, z⟩ := p
  fin_cases d <;> cases z <;> decide

theorem zone_loadZones (d : DishId) (z : ZoneKind) : (b.loadZones m).zone d z = b.loadedZone m d z := by
  refine each_at (fun s => s.zone d z = b.zone d z) (fun s => s.zone d z = b.loadedZone m d z) _ (d, z)
    (fun p s other same => ?_) (fun s same => ?_) (fun p s other same => ?_) _ allZones_nodup (mem_allZones _) b rfl
  · rw [zone_setZone, if_neg fun h => other (Prod.ext h.1 h.2), same]
  · simp [Block.loadedZone, same]
  · rw [zone_setZone, if_neg fun h => other (Prod.ext h.1 h.2), same]

theorem allWeather_nodup : allWeather.Nodup := by decide
theorem mem_allWeather (n : WeatherId) : n ∈ allWeather := by fin_cases n <;> decide

theorem wx_loadWx (n : WeatherId) : (b.loadWx m).wx n = b.loadedWx m n := by
  refine each_at (fun s => s.wx n = b.wx n) (fun s => s.wx n = b.loadedWx m n) _ n
    (fun p s other same => ?_) (fun s same => ?_) (fun p s other same => ?_) _ allWeather_nodup (mem_allWeather _) b rfl
  · rw [wx_setWx, if_neg other, same]
  · simp [Block.loadedWx, same]
  · rw [wx_setWx, if_neg other, same]

/-- The image in force, record by record. -/
structure Block.Loaded (b : Block) (m : Image) (counts : Vector (PerAxis Nat) 12) (t : Block) : Prop where
  axis : ∀ d k, t.axis d k = { b.axis d k with cfg := (m.axes[d]).get k, releases := (counts[d]).get k }
  zone : ∀ d z, (t.zone d z).cfg = (m.zones[d]).get z
  wx : ∀ n, t.wx n = { b.wx n with state := if m.enabled[n] = true then .warming else .disabled }
  lineA : t.field.lineA = b.field.lineA.loaded m.lineA
  lineB : t.field.lineB = b.field.lineB.loaded m.lineB
  configured : t.field.configured = m.cabinets
  rate : t.link.rate = m.site.rate
  breq : t.account.breq = m.breq
  cfg : t.site.cfg = m.site
  tb : t.site.tb = b.site.tb

/-- Records read as from a loaded block are loaded. -/
theorem loaded_of_same {b t u : Block} {m : Image} {counts : Vector (PerAxis Nat) 12} (h : b.Loaded m counts t)
    (axes : u.axes = t.axes) (heater : u.heater = t.heater) (weather : u.weather = t.weather) (field : u.field = t.field)
    (rate : u.link.rate = t.link.rate) (breq : u.account.breq = t.account.breq) (cfg : u.site.cfg = t.site.cfg)
    (tb : u.site.tb = t.site.tb) : b.Loaded m counts u := by
  refine ⟨fun d k => ?_, fun d z => ?_, fun n => ?_, by rw [field, h.lineA], by rw [field, h.lineB],
    by rw [field, h.configured], by rw [rate, h.rate], by rw [breq, h.breq], by rw [cfg, h.cfg], by rw [tb, h.tb]⟩
  · rw [(sameAxes_of_axes axes).2, h.axis]
  · rw [← h.zone]
    simp only [Block.zone, heater]
  · rw [← h.wx]
    simp only [Block.wx, weather]

/-- The image in force leaves the report queue, the mask, the clock and the lines' states. -/
theorem putImage_reports :
    (b.putImage m counts).link.reports = b.link.reports ∧ (b.putImage m counts).link.mask = b.link.mask
    ∧ (b.putImage m counts).site.clock = b.site.clock ∧ ∀ l, ((b.putImage m counts).line l).state = (b.line l).state := by
  obtain ⟨rest, -⟩ := loadAxes_kept b m counts
  obtain ⟨rest', -⟩ := loadZones_kept (b.loadAxes m counts) m
  obtain ⟨rest'', -⟩ := loadWx_kept ((b.loadAxes m counts).loadZones m) m
  have same := rest''.trans (rest'.trans rest)
  simp only [Block.unloaded, Prod.mk.injEq] at same
  obtain ⟨field, link, -, site, -⟩ := same
  rw [putImage_eq]
  generalize ((b.loadAxes m counts).loadZones m).loadWx m = t at field link site
  obtain ⟨-, -, -, lineA, lineB, -, link', -, site'⟩ := putRest_kept t m
  refine ⟨by rw [link', link], by rw [link', link], by rw [site', site], fun l => ?_⟩
  cases l with
  | a => simp only [Block.line, lineA, field, LineRec.loaded]
  | b => simp only [Block.line, lineB, field, LineRec.loaded]

theorem putImage_loaded : b.Loaded m counts (b.putImage m counts) := by
  obtain ⟨rest, heater, weather⟩ := loadAxes_kept b m counts
  obtain ⟨rest', axes', weather'⟩ := loadZones_kept (b.loadAxes m counts) m
  obtain ⟨rest'', axes'', heater''⟩ := loadWx_kept ((b.loadAxes m counts).loadZones m) m
  have same := rest''.trans (rest'.trans rest)
  simp only [Block.unloaded, Prod.mk.injEq] at same
  obtain ⟨field, link, account, site, -⟩ := same
  have axis (d k) : (((b.loadAxes m counts).loadZones m).loadWx m).axis d k = b.loadedAxis m counts d k := by
    rw [(sameAxes_of_axes (axes''.trans axes')).2, axis_loadAxes]
  have zone (d z) : (((b.loadAxes m counts).loadZones m).loadWx m).zone d z
      = (b.loadAxes m counts).loadedZone m d z := by
    rw [← zone_loadZones]
    simp only [Block.zone, heater'']
  have wx (n) : (((b.loadAxes m counts).loadZones m).loadWx m).wx n = b.loadedWx m n := by
    rw [wx_loadWx]
    simp only [Block.loadedWx, Block.wx, weather', weather]
  rw [putImage_eq]
  generalize ((b.loadAxes m counts).loadZones m).loadWx m = t at field link account site axis zone wx
  obtain ⟨axes, heater, weather, lineA, lineB, configured, link', breq, site'⟩ := putRest_kept t m
  refine ⟨fun d k => ?_, fun d z => ?_, fun n => ?_, by rw [lineA, field], by rw [lineB, field], configured,
    by rw [link'], breq, by rw [site'], by rw [site', site]⟩
  · rw [(sameAxes_of_axes axes).2, axis]
    rfl
  · have same : (t.putRest m).zone d z = t.zone d z := by simp only [Block.zone, heater]
    rw [same, zone]
    rfl
  · have same : (t.putRest m).wx n = t.wx n := by simp only [Block.wx, weather]
    rw [same, wx]
    rfl

end

/-! ### The locks (R140, R150) -/

/-- A stored lock in the table. -/
def StoredLock.entry (x : StoredLock) : LockEntry :=
  { num := x.num, kind := x.kind, dish := x.dish, holder := x.holder, key := false, engaged := false
    placed := x.placed, stored := true }

/-- The table built from a list of entries holds just those. -/
theorem insertAll_perm (es : List LockEntry) : ∀ acc, (es.foldl (fun es e => insertLock e es) acc).Perm (es ++ acc) := by
  induction es with
  | nil => exact fun acc => .refl _
  | cons e es ih => exact fun acc => (ih _).trans (((insertLock_perm e acc).append_left es).trans List.perm_middle)

theorem entries_putLocks (b : Block) (ls : List StoredLock) :
    (b.putLocks ls).lockout.entries.Perm (ls.map StoredLock.entry) := by
  have := insertAll_perm (ls.map StoredLock.entry) []
  rwa [List.append_nil] at this

/-- The highest of a list's numbers. -/
theorem foldl_max_eq (ns : List Nat) (n acc : Nat) (mem : n ∈ ns ∨ n = acc) (top : ∀ m ∈ ns, m ≤ n) (low : acc ≤ n) :
    ns.foldl max acc = n := by
  induction ns generalizing acc with
  | nil => simpa [eq_comm] using mem
  | cons m ns ih =>
    have step : m ≤ n := top m List.mem_cons_self
    refine ih (max acc m) ?_ (fun k hk => top k (List.mem_cons_of_mem _ hk)) (by omega)
    rcases mem with mem | rfl
    · rcases List.mem_cons.mp mem with rfl | mem
      · exact Or.inr (by omega)
      · exact Or.inl mem
    · exact Or.inr (by omega)

/-- The next number follows the highest of the stored locks. -/
theorem next_putLocks (b : Block) (ls : List StoredLock) :
    (ls = [] → (b.putLocks ls).lockout.next = 1)
    ∧ ∀ x ∈ ls, (∀ y ∈ ls, y.num ≤ x.num) → (b.putLocks ls).lockout.next = if x.num = 65535 then 1 else x.num + 1 := by
  refine ⟨by rintro rfl; rfl, fun x mem top => ?_⟩
  have highest : (ls.map (·.num)).foldl max 0 = x.num := by
    refine foldl_max_eq _ _ _ (Or.inl (List.mem_map_of_mem mem)) ?_ (Nat.zero_le _)
    intro m hm
    obtain ⟨y, hy, rfl⟩ := List.mem_map.mp hm
    exact top y hy
  simp only [Block.putLocks, highest]

/-- What a table of stored locks holds. -/
theorem loaded_putLocks (b : Block) (ls : List StoredLock) :
    let t := (b.putLocks ls).lockout
    let loaded := fun (x : StoredLock) (e : LockEntry) => e.num = x.num ∧ e.kind = x.kind ∧ e.dish = x.dish
      ∧ e.holder = x.holder ∧ e.placed = x.placed ∧ e.key = false ∧ e.engaged = false ∧ e.stored = true
    (∀ x ∈ ls, ∃ e ∈ t.entries, loaded x e) ∧ (∀ e ∈ t.entries, ∃ x ∈ ls, loaded x e) ∧ t.entries.length = ls.length := by
  have perm := entries_putLocks b ls
  refine ⟨fun x mem => ⟨x.entry, ?_, rfl, rfl, rfl, rfl, rfl, rfl, rfl, rfl⟩, fun e mem => ?_, by simpa using perm.length_eq⟩
  · exact perm.mem_iff.mpr (List.mem_map_of_mem mem)
  · obtain ⟨x, hx, rfl⟩ := List.mem_map.mp (perm.mem_iff.mp mem)
    exact ⟨x, hx, rfl, rfl, rfl, rfl, rfl, rfl, rfl, rfl⟩

/-! ### Wear and the floor (R10, R66, R67) -/

section
variable (b : Block)

@[simp] theorem beside_judgeWear (d : DishId) (k : AxisKind) : (b.judgeWear d k).beside = b.beside := by
  rw [judgeWear_eq]
  split <;> simp

@[simp] theorem beside_judgeAllWear : b.judgeAllWear.beside = b.beside := by
  unfold Block.judgeAllWear
  exact each_keeps Block.beside _ _ (fun _ s => beside_judgeWear s ..) b

/-- Every axis's verify flag is judged by its releases. -/
theorem axis_judgeAllWear (d : DishId) (k : AxisKind) : b.judgeAllWear.axis d k =
    { b.axis d k with verify := verifyOf (b.axis d k).releases (b.axis d k).cfg.wear } := by
  unfold Block.judgeAllWear
  refine each_at (fun s => s.axis d k = b.axis d k) (fun s => s.axis d k =
    { b.axis d k with verify := verifyOf (b.axis d k).releases (b.axis d k).cfg.wear }) _ (d, k)
    (fun p s other same => ?_) (fun s same => ?_) (fun p s other same => ?_) _ allAxes_nodup (mem_allAxes _) b rfl
  · rw [axis_judgeWear, if_neg fun h => other (Prod.ext h.1 h.2), same]
  · rw [axis_judgeWear, if_pos ⟨rfl, rfl⟩, same]
  · rw [axis_judgeWear, if_neg fun h => other (Prod.ext h.1 h.2), same]

/-- Axes without releases give no WEAR report. -/
theorem link_judgeAllWear (fresh : ∀ d k, (b.axis d k).releases = 0) : b.judgeAllWear.link = b.link := by
  unfold Block.judgeAllWear
  refine And.left (b := ∀ d k, ((b.each allAxes fun p s => s.judgeWear p.1 p.2).axis d k).releases = 0) ?_
  refine each_holds (fun s => s.link = b.link ∧ ∀ d k, (s.axis d k).releases = 0) _ _ ?_ b ⟨rfl, fresh⟩
  rintro p s ⟨link, none_⟩
  refine ⟨?_, fun d k => ?_⟩
  · rw [judgeWear_eq]
    simp [none_, verifyOf, link]
  · rw [axis_judgeWear]
    split
    · exact none_ ..
    · exact none_ d k

/-- The floor computed anew, B_req raised to it. -/
theorem recomputeFloor_row :
    let t := b.recomputeFloor
    t.account.floor = b.floorOf ∧ t.account.breq = max b.account.breq b.floorOf ∧ t.axes = b.axes ∧ t.heater = b.heater
    ∧ t.weather = b.weather ∧ t.field = b.field ∧ t.site = b.site ∧ t.lockout = b.lockout
    ∧ t.link.rate = b.link.rate ∧ (b.floorOf ≤ b.account.breq → t.link = b.link) := by
  by_cases low : b.account.breq < b.floorOf
  · have raised : ∃ q l, b.recomputeFloor = { b with
        account := { b.account with
          floor := b.floorOf, breq := b.floorOf, beff := max b.floorOf b.account.beff, examineDue := true }
        link := { b.link with reports := q, lost := l } } := by
      unfold Block.recomputeFloor
      simp only []
      rw [if_pos low]
      unfold Block.tellBudget Block.tell
      generalize Block.budgetFields _ = fields
      obtain ⟨q, l, h⟩ := report_eq { b with account := { b.account with
        floor := b.floorOf, breq := b.floorOf, beff := max b.floorOf b.account.beff } } .budget 0 fields [] none
      exact ⟨q, l, by rw [h]; rfl⟩
    obtain ⟨q, l, h⟩ := raised
    rw [h]
    exact ⟨rfl, (max_eq_right low.le).symm, rfl, rfl, rfl, rfl, rfl, rfl, rfl, fun high => absurd low (Nat.not_lt.mpr high)⟩
  · have kept : b.recomputeFloor = { b with account := { b.account with floor := b.floorOf } } := by
      unfold Block.recomputeFloor
      simp only []
      rw [if_neg low]
    rw [kept]
    exact ⟨rfl, (max_eq_left (Nat.not_lt.mp low)).symm, rfl, rfl, rfl, rfl, rfl, rfl, rfl, fun _ => rfl⟩

end

/-! ### The load -/

/-- The image in force as DISCOVERING begins. -/
structure Block.InForce (b : Block) (m : Image) (counts : Vector (PerAxis Nat) 12) (t : Block) : Prop where
  startup : t.site.startup = .discovering
  discovering : t.site.discovering = some b.site.tb
  cfg : t.site.cfg = m.site
  rate : t.link.rate = m.site.rate
  configured : t.field.configured = m.cabinets
  axis : ∀ d k, (t.axis d k).cfg = (m.axes[d]).get k ∧ (t.axis d k).releases = (counts[d]).get k
    ∧ (t.axis d k).verify = verifyOf (t.axis d k).releases (t.axis d k).cfg.wear
  zone : ∀ d z, (t.zone d z).cfg = (m.zones[d]).get z
  floor : t.account.floor = t.floorOf
  breq : t.account.breq = max m.breq t.floorOf
  beff : t.account.beff = t.account.breq
  wx : ∀ n, t.wx n = { b.wx n with state := if m.enabled[n] = true then .warming else .disabled }
  lineA : t.field.lineA = b.field.lineA.loaded m.lineA
  lineB : t.field.lineB = b.field.lineB.loaded m.lineB

/-- The content judged and DISCOVERING begun. -/
def Block.prepared (b : Block) : Block := b.judgeAllWear.recomputeFloor.levelBudget.beginDiscovery

theorem load_eq (b : Block) : b.load = (b.loadContent.prepared.markBreak .a).markBreak .b := rfl

/-- The budget levelled and DISCOVERING begun. -/
theorem begun_row (t : Block) :
    let u := t.levelBudget.beginDiscovery
    u.axes = t.axes ∧ u.heater = t.heater ∧ u.weather = t.weather ∧ u.lockout = t.lockout
    ∧ u.field = { t.field with cycleDue := t.site.tb }
    ∧ u.site = { t.site with startup := .discovering, discovering := some t.site.tb } ∧ u.link = t.link
    ∧ u.account.floor = t.account.floor ∧ u.account.breq = t.account.breq ∧ u.account.beff = t.account.breq :=
  ⟨rfl, rfl, rfl, rfl, rfl, rfl, rfl, rfl, rfl, rfl⟩

/-- What the judging of the content leaves and makes. -/
theorem prepared_row (b : Block) :
    let t := b.prepared
    t.axes = b.judgeAllWear.axes ∧ t.heater = b.heater ∧ t.weather = b.weather ∧ t.lockout = b.lockout
    ∧ t.field = { b.field with cycleDue := b.site.tb }
    ∧ t.site = { b.site with startup := .discovering, discovering := some b.site.tb }
    ∧ t.link.rate = b.link.rate
    ∧ t.account.floor = b.judgeAllWear.floorOf ∧ t.account.breq = max b.account.breq b.judgeAllWear.floorOf
    ∧ t.account.beff = t.account.breq := by
  have beside := beside_judgeAllWear b
  obtain ⟨-, -, weather, heater, lockout, field, site⟩ := records_of_beside beside
  have settings := settings_of_beside beside
  simp only [Block.settings, Prod.mk.injEq] at settings
  obtain ⟨rate, breq, -⟩ := settings
  obtain ⟨floor', breq', axes', heater', weather', field', site', lockout', rate', -⟩ := recomputeFloor_row b.judgeAllWear
  obtain ⟨axesB, heaterB, weatherB, lockoutB, fieldB, siteB, linkB, floorB, breqB, beffB⟩ :=
    begun_row b.judgeAllWear.recomputeFloor
  refine ⟨axesB.trans axes', heaterB.trans (heater'.trans heater), weatherB.trans (weather'.trans weather),
    lockoutB.trans (lockout'.trans lockout), ?_, ?_, ?_, floorB.trans floor', breqB.trans (breq'.trans (by rw [breq])),
    beffB.trans breqB.symm⟩
  · rw [Block.prepared, fieldB, field', field, site', site]
  · rw [Block.prepared, siteB, site', site]
  · rw [Block.prepared, linkB, rate', rate]

/-- The floor reads the configured set and the settings of the elevation axes. -/
theorem floorOf_of_same {b c : Block} (configured : b.field.configured = c.field.configured)
    (axis : ∀ d, (b.axis d .el).cfg = (c.axis d .el).cfg) : b.floorOf = c.floorOf := by
  have same : b.configured = c.configured := by funext d; simp only [Block.configured, configured]
  simp only [Block.floorOf, Block.configuredDishes, same, axis]

/-- Loaded content judged is in force. -/
theorem inForce_prepared {b t : Block} {m : Image} {counts : Vector (PerAxis Nat) 12} (h : b.Loaded m counts t) :
    b.InForce m counts t.prepared := by
  obtain ⟨axis, zone, wx, lineA, lineB, configured, rate, breq, cfg, tb⟩ := h
  obtain ⟨axes', heater', weather', -, field', site', rate', floor', breq', beff'⟩ := prepared_row t
  have record (d k) := axis_judgeAllWear t d k
  have same (d k) : t.prepared.axis d k = t.judgeAllWear.axis d k := by rw [(sameAxes_of_axes axes').2]
  have configured' : t.judgeAllWear.field.configured = t.field.configured :=
    congrArg FieldCtl.configured (records_of_beside (beside_judgeAllWear t)).2.2.2.2.2.1
  have floor : t.prepared.floorOf = t.judgeAllWear.floorOf :=
    floorOf_of_same (by rw [field', configured']) fun d => by rw [same]
  refine ⟨by rw [site'], by rw [site', tb], by rw [site', cfg], rate'.trans rate, by rw [field', configured], fun d k => ?_,
    fun d z => ?_, by rw [floor', floor], by rw [breq', floor, breq], beff', fun n => ?_, by rw [field', lineA],
    by rw [field', lineB]⟩
  · rw [same, record, axis]
    exact ⟨rfl, rfl, rfl⟩
  · rw [← zone]
    simp only [Block.zone, heater']
  · rw [← wx]
    simp only [Block.wx, weather']

/-- A stop mark leaves the image in force. -/
theorem inForce_carried {b t u : Block} {m : Image} {counts : Vector (PerAxis Nat) 12} (h : b.InForce m counts t)
    (carried : t.Carries u) : b.InForce m counts u := by
  obtain ⟨settings, worn, -, level, e, o, q, site⟩ := carried
  simp only [Block.settings, Prod.mk.injEq] at settings
  obtain ⟨rate, breq, floor, field, weather, zones⟩ := settings
  have cfg (d k) : (u.axis d k).cfg = (t.axis d k).cfg := (congrArg Axis.cfg (worn d k) :)
  have releases (d k) : (u.axis d k).releases = (t.axis d k).releases := (congrArg Axis.releases (worn d k) :)
  have verify (d k) : (u.axis d k).verify = (t.axis d k).verify := (congrArg Axis.verify (worn d k) :)
  have floors : u.floorOf = t.floorOf := floorOf_of_same (by rw [field]) fun d => cfg d .el
  refine ⟨by rw [site, h.startup], by rw [site, h.discovering], by rw [site, h.cfg], rate.trans h.rate,
    by rw [field, h.configured], fun d k => ?_, fun d z => (congrFun (congrFun zones d) z).trans (h.zone d z),
    by rw [floor, floors, h.floor], by rw [breq, floors, h.breq], by rw [level h.beff, breq, h.beff], fun n => ?_,
    by rw [field, h.lineA], by rw [field, h.lineB]⟩
  · rw [cfg, releases, verify]
    exact h.axis d k
  · rw [← h.wx]
    simp only [Block.wx, weather]

end Sys2Proof.Machine
end

-- ==== Start-up (R185) ====
section
/-! What the store's content puts in force, good or bad, and the statement about start-up. -/

open Sys2Proof

namespace Sys2Proof.Machine

/-- The store fault set and reported leaves every record but its flag and the report queue. -/
theorem storeFail_kept (b : Block) (kind : Option WriteKind) (nums : List Nat) :
    let t := b.storeFail kind nums
    t.axes = b.axes ∧ t.heater = b.heater ∧ t.weather = b.weather ∧ t.field = b.field ∧ t.lockout = b.lockout
    ∧ t.account = b.account ∧ t.link.rate = b.link.rate ∧ t.site = { b.site with storeFault := true } := by
  unfold Block.storeFail Block.tellStoreFault Block.tell
  simp only []
  generalize (_ ++ _ : List Fld) = fields
  obtain ⟨q, l, h⟩ := report_eq { b with site := { b.site with storeFault := true } } .storeFault 0 fields [] none
  rw [h]
  exact ⟨rfl, rfl, rfl, rfl, rfl, rfl, rfl, rfl⟩

/-- A store fault of no write is the first report of an empty queue. -/
theorem reports_storeFail (b : Block) (empty : b.link.reports = []) (mask : b.link.mask.getLsbD 19 = true) :
    (b.storeFail none []).link.reports = [{ kind := .storeFault, subject := 0, time := b.site.clock.getD 0
                                            pre := [f1 1, f1 0, f1 0, f1 0], prev := none, post := [] }] := by
  unfold Block.storeFail Block.tellStoreFault Block.tell Block.report
  rw [if_pos (by exact mask)]
  simp only [empty]
  rfl

/-- The image and the counts the load takes. -/
def Store.taken (st : Store) : Image × Vector (PerAxis Nat) 12 :=
  if st.good = true then (st.image, st.counts) else (Image.default, Store.erased.counts)

section
variable (b : Block)

theorem loadContent_good (good : b.site.store.good = true) :
    b.loadContent = (b.putImage b.site.store.image b.site.store.counts).putLocks b.site.store.locks := by
  simp [Block.loadContent, good]

theorem loadContent_bad (bad : b.site.store.good = false) :
    b.loadContent = ((b.putImage Image.default Store.erased.counts).putLocks []).storeFail none [] := by
  simp [Block.loadContent, bad]

/-- The locks put in the table leave the rest. -/
theorem putLocks_loaded {b t : Block} {m : Image} {counts : Vector (PerAxis Nat) 12} (h : b.Loaded m counts t)
    (ls : List StoredLock) : b.Loaded m counts (t.putLocks ls) :=
  loaded_of_same h rfl rfl rfl rfl rfl rfl rfl rfl

/-- What the load takes is loaded. -/
theorem loadContent_loaded : b.Loaded b.site.store.taken.1 b.site.store.taken.2 b.loadContent := by
  cases good : b.site.store.good with
  | true =>
    rw [loadContent_good b good, Store.taken, if_pos good]
    exact putLocks_loaded (putImage_loaded b _ _) _
  | false =>
    rw [loadContent_bad b good, Store.taken, if_neg (by simp [good])]
    obtain ⟨axes, heater, weather, field, -, account, rate, site⟩ :=
      storeFail_kept ((b.putImage Image.default Store.erased.counts).putLocks []) none []
    exact loaded_of_same (putLocks_loaded (putImage_loaded b _ _) []) axes heater weather field rate (by rw [account])
      (by rw [site]) (by rw [site])

/-- The load carries what it has prepared past the marks of broken lines. -/
theorem load_carries : b.loadContent.prepared.Carries b.load := by
  rw [load_eq]
  exact carries_trans (carries_markBreak _ .a) (carries_markBreak _ .b)

/-- The image the load takes is in force. -/
theorem load_inForce : b.InForce b.site.store.taken.1 b.site.store.taken.2 b.load :=
  inForce_carried (inForce_prepared (loadContent_loaded b)) (load_carries b)

/-- The lock table and the store fault after the load. -/
theorem load_locks : b.load.lockout = b.loadContent.lockout ∧ b.load.site.storeFault = b.loadContent.site.storeFault := by
  obtain ⟨-, -, lockout, -, m, e, o, site⟩ := load_carries b
  obtain ⟨-, -, -, lockout', -, site', -⟩ := prepared_row b.loadContent
  exact ⟨lockout.trans lockout', by rw [site, site']⟩

/-- The erased counts are 0, and the default image has default settings. -/
theorem counts_erased (d : DishId) (k : AxisKind) : (Store.erased.counts[d]).get k = 0 := by
  have same : Store.erased.counts[d] = ⟨0, 0⟩ := vec12_get _ d
  rw [same]
  cases k <;> rfl
theorem axes_default (d : DishId) (k : AxisKind) : (Image.default.axes[d]).get k = AxisCfg.default k := by
  have same : Image.default.axes[d] = ⟨AxisCfg.default .az, AxisCfg.default .el⟩ := vec12_get _ d
  rw [same]
  cases k <;> rfl

/-- A line that is not in BREAK sets no mark. -/
theorem markBreak_up (l : Line) (h : (b.line l).state ≠ .brk) : b.markBreak l = b := by
  unfold Block.markBreak
  split
  · next broken => exact absurd broken h
  · rfl

/-- A floor of default settings lies below the default B_req. -/
theorem floorOf_default (h : ∀ d, (b.axis d .el).cfg = AxisCfg.default .el) : b.floorOf ≤ 40000 := by
  have count : b.configuredDishes.length ≤ 12 := (List.length_filter_le _ _).trans (by decide)
  have sum : b.floorOf = b.configuredDishes.length * 1500 := by
    simp [Block.floorOf, h, AxisCfg.default]
  omega

/-- The report of a bad checksum is the first of an empty queue. -/
theorem reports_bad (bad : b.site.store.good = false) (empty : b.link.reports = [])
    (mask : b.link.mask.getLsbD 19 = true) (up : ∀ l, (b.line l).state ≠ .brk) :
    b.load.link.reports = [{ kind := .storeFault, subject := 0, time := b.site.clock.getD 0
                             pre := [f1 1, f1 0, f1 0, f1 0], prev := none, post := [] }] := by
  have loaded := loadContent_loaded b
  have taken : b.site.store.taken = (Image.default, Store.erased.counts) := by simp [Store.taken, bad]
  rw [taken] at loaded
  obtain ⟨reports, mask', clock, lines⟩ := putImage_reports b Image.default Store.erased.counts
  obtain ⟨-, -, -, field, -⟩ :=
    storeFail_kept ((b.putImage Image.default Store.erased.counts).putLocks []) none []
  rw [← loadContent_bad b bad] at field
  have queued := reports_storeFail ((b.putImage Image.default Store.erased.counts).putLocks [])
    (reports.trans empty) ((congrArg (fun x : BitVec _ => x.getLsbD 19) mask').trans mask)
  have time : ((b.putImage Image.default Store.erased.counts).putLocks []).site.clock = b.site.clock := clock
  rw [← loadContent_bad b bad, time] at queued
  have state (l) : (b.loadContent.line l).state = (b.line l).state := by
    rw [← lines l]
    cases l <;> simp only [Block.line, field] <;> rfl
  have fresh (d k) : (b.loadContent.axis d k).releases = 0 := by
    rw [loaded.axis]
    exact counts_erased d k
  have wear := link_judgeAllWear b.loadContent fresh
  have cfg (d) : (b.loadContent.judgeAllWear.axis d .el).cfg = AxisCfg.default .el := by
    rw [axis_judgeAllWear, loaded.axis]
    exact axes_default d .el
  have breq : b.loadContent.judgeAllWear.account.breq = 40000 := by
    have settings := settings_of_beside (beside_judgeAllWear b.loadContent)
    simp only [Block.settings, Prod.mk.injEq] at settings
    obtain ⟨-, breq, -⟩ := settings
    rw [breq, loaded.breq]
    rfl
  obtain ⟨-, -, -, -, -, -, -, -, -, link⟩ := recomputeFloor_row b.loadContent.judgeAllWear
  obtain ⟨-, -, -, -, -, -, begun, -⟩ := begun_row b.loadContent.judgeAllWear.recomputeFloor
  have kept : b.loadContent.prepared.link = b.loadContent.link := by
    rw [Block.prepared, begun, link (by rw [breq]; exact floorOf_default _ cfg), wear]
  obtain ⟨-, -, -, -, field', -⟩ := prepared_row b.loadContent
  have up' (l) : (b.loadContent.prepared.line l).state ≠ .brk := by
    have same : (b.loadContent.prepared.line l).state = (b.loadContent.line l).state := by
      cases l <;> simp only [Block.line, field']
    rw [same, state]
    exact up l
  rw [load_eq, markBreak_up _ .a (up' .a), markBreak_up _ .b (up' .b), kept, queued]

/-- The fault and the table a bad checksum leaves. -/
theorem load_bad (bad : b.site.store.good = false) :
    b.load.site.storeFault = true ∧ b.load.lockout.entries = [] ∧ b.load.lockout.next = 1 := by
  obtain ⟨locks, fault⟩ := load_locks b
  obtain ⟨-, -, -, -, lockout, -, -, site⟩ :=
    storeFail_kept ((b.putImage Image.default Store.erased.counts).putLocks []) none []
  rw [loadContent_bad b bad] at locks fault
  refine ⟨by rw [fault, site], by rw [locks, lockout]; rfl, by rw [locks, lockout]; rfl⟩

/-- The table a good store leaves. -/
theorem load_good (good : b.site.store.good = true) :
    b.load.lockout = ((b.putImage b.site.store.image b.site.store.counts).putLocks b.site.store.locks).lockout := by
  rw [(load_locks b).1, loadContent_good b good]

end

section
variable (b : Block)

/-! ### The end of DISCOVERING -/

/-- The limit of DISCOVERING does nothing in another phase. -/
theorem discoveryEnds_other (h : b.site.startup ≠ .discovering) : b.discoveryEnds = b := by
  unfold Block.discoveryEnds
  split
  · next begun _ => exact absurd begun h
  · rfl

/-- At its limit DISCOVERING ends. -/
theorem discoveryEnds_begun {t0 : Nat} (begun : b.site.startup = .discovering) (since : b.site.discovering = some t0) :
    b.discoveryEnds = (b.carryTo (t0 + 5000)).becomeReady := by
  simp [Block.discoveryEnds, begun, since, discoveryTime]

/-- Time carried forward leaves all but the time base and the clock. -/
theorem carryTo_kept (n : Nat) :
    (b.carryTo n).site.tb = max b.site.tb n ∧ (b.carryTo n).site.startup = b.site.startup
    ∧ (b.carryTo n).node = b.node ∧ (b.carryTo n).inCycle = b.inCycle := by
  refine ⟨?_, rfl, by funext r; cases r <;> rfl, inCycle_of_kept rfl rfl⟩
  show b.site.tb + (n - b.site.tb) = max b.site.tb n
  omega

end

/-! ### The statement -/

/-- Settles O29: the load puts the store's content or the defaults in force, and DISCOVERING ends in READY. -/
theorem startUp : Obligations.StartUp := by
  intro s
  refine ⟨fun started => ?_, fun starting => ?_, fun other => ?_, judgeStartup_row s.block, ?_, fun t0 begun since => ?_⟩
  · have none_ : s.block.loadEnds = s.block := by
      unfold Block.loadEnds
      split
      · next starting => exact absurd starting started
      · rfl
    exact congrArg (fun b => Host.Outcome.next (s.ends b)) none_
  · have loads : s.block.loadEnds = s.block.load := by simp [Block.loadEnds, starting]
    obtain ⟨startup, discovering, cfg, rate, configured, axis, zone, floor, breq, beff, wx, lineA, lineB⟩ :=
      load_inForce s.block
    have ran : exec .storeLoadDone s = .next (s.ends s.block.loadEnds) := rfl
    have bad_row := load_bad s.block
    have bad_reports := reports_bad s.block
    have good_row := load_good s.block
    intro u
    have load : u = s.block.load := rfl
    clear_value u
    rw [← load] at loads startup discovering cfg rate floor breq beff bad_row bad_reports good_row
    simp only [← load] at configured axis zone wx lineA lineB
    intro st m
    have image : st.taken.1 = m := by
      simp only [Store.taken, m]
      split <;> rfl
    rw [image] at cfg rate configured axis zone breq wx lineA lineB
    refine ⟨ran.trans (by rw [loads]), startup, discovering, cfg, rate, configured,
      fun d k => (axis d k).1, zone, floor, breq, beff, wx, ?_, ?_, ?_, ?_, fun d k => (axis d k).2.2, fun bad => ?_,
      fun good => ?_⟩
    · simp only [Block.line, lineA, LineRec.loaded]
    · simp only [Block.line, lineA, LineRec.loaded]
    · simp only [Block.line, lineB, LineRec.loaded]
    · simp only [Block.line, lineB, LineRec.loaded]
    · obtain ⟨fault, entries, next⟩ := bad_row bad
      refine ⟨fault, entries, next, fun d k => (axis d k).2.1.trans ?_, bad_reports bad⟩
      rw [Store.taken, if_neg (Bool.eq_false_iff.mp bad)]
      exact counts_erased d k
    · have table := good_row good
      obtain ⟨present, only, length⟩ := loaded_putLocks (s.block.putImage st.image st.counts) st.locks
      obtain ⟨empty, highest⟩ := next_putLocks (s.block.putImage st.image st.counts) st.locks
      rw [← table] at present only length empty highest
      refine ⟨fun d k => (axis d k).2.1.trans ?_, present, only, length, empty, highest⟩
      rw [Store.taken, if_pos good]
  · have ends : (if s.block.site.startup = .starting then s.block else s.block.discoveryEnds) = s.block := by
      rw [discoveryEnds_other s.block other, ite_self]
    exact congrArg (fun b => Host.Outcome.next (s.ends b)) ends
  · intro b u lost
    obtain ⟨site, -⟩ := becomeReady_kept b
    refine ⟨by rw [site], by rw [site], node_becomeReady_heard b, fun r h => ?_, fun d k h => axis_becomeReady b d k h⟩
    rw [node_becomeReady_unheard b r h]
    exact ⟨rfl, rfl, rfl, rfl⟩
  · obtain ⟨tb, -, node, cycle⟩ := carryTo_kept s.block (t0 + 5000)
    have unheard (r) : (s.block.carryTo (t0 + 5000)).Unheard r ↔ s.block.Unheard r := by
      rw [Block.Unheard, node, cycle]
    obtain ⟨site, -⟩ := becomeReady_kept (s.block.carryTo (t0 + 5000))
    intro u
    refine ⟨?_, by rw [site], by rw [site, ← tb], fun r => ?_, fun r cycled unknown => ?_⟩
    · exact (event_started (by simp [State.started, begun]) _).trans (by rw [discoveryEnds_begun s.block begun since])
    · split
      · next h => rw [node_becomeReady_unheard _ r ((unheard r).mpr h)]; rfl
      · next h => rw [node_becomeReady_heard _ r (mt (unheard r).mp h), node]
    · rw [node_becomeReady_unheard _ r ((unheard r).mpr ⟨cycled, unknown⟩)]
      exact ⟨rfl, rfl⟩

end Sys2Proof.Machine
end

-- ==== Planning a group (R46, R49 to R51) ====
section
/-! The targets of a group's members, its plan and its least duration, and the checks START_GROUP makes before it plans. -/

open Sys2Proof

namespace Sys2Proof.Machine

/-! ### The wrap candidate (R49) -/

/-- NEAREST's order on the candidates: nearer first, then the smaller magnitude, then the positive. -/
def Nearer (cur x y : Int) : Prop :=
  absDiff x cur < absDiff y cur
  ∨ (absDiff x cur = absDiff y cur ∧ (x.natAbs < y.natAbs ∨ (x.natAbs = y.natAbs ∧ y ≤ x)))

theorem nearer_iff (cur x y : Int) : nearer cur x y = true ↔ Nearer cur x y := by
  simp [nearer, Nearer]

theorem nearer_refl (cur x : Int) : Nearer cur x x := Or.inr ⟨rfl, Or.inr ⟨rfl, le_rfl⟩⟩

theorem nearer_total (cur : Int) {x y : Int} (h : ¬Nearer cur x y) : Nearer cur y x := by
  unfold Nearer at *
  omega

theorem nearer_trans (cur : Int) {x y z : Int} (h : Nearer cur x y) (h' : Nearer cur y z) : Nearer cur x z := by
  unfold Nearer at *
  omega

/-- One step of NEAREST's search. -/
def nearestStep (cur : Int) (best : Option Int) (c : Int) : Option Int :=
  match best with
  | none => some c
  | some y => if nearer cur c y then some c else some y

/-- NEAREST's search from a candidate takes one that is before each. -/
theorem nearest_from (cur : Int) (cs : List Int) : ∀ y, ∃ t, cs.foldl (nearestStep cur) (some y) = some t
    ∧ (t = y ∨ t ∈ cs) ∧ Nearer cur t y ∧ ∀ a ∈ cs, Nearer cur t a := by
  induction cs with
  | nil => exact fun y => ⟨y, rfl, Or.inl rfl, nearer_refl cur y, by simp⟩
  | cons c cs ih =>
    intro y
    by_cases h : nearer cur c y = true
    · obtain ⟨t, found, mem, first, all⟩ := ih c
      refine ⟨t, by simpa [nearestStep, h] using found, Or.inr ?_, nearer_trans cur first ((nearer_iff cur c y).mp h), ?_⟩
      · exact mem.elim (fun same => by simp [same]) fun mem => List.mem_cons_of_mem _ mem
      · exact List.forall_mem_cons.mpr ⟨first, all⟩
    · obtain ⟨t, found, mem, first, all⟩ := ih y
      refine ⟨t, by simpa [nearestStep, h] using found, mem.imp id fun mem => List.mem_cons_of_mem _ mem, first, ?_⟩
      refine List.forall_mem_cons.mpr ⟨nearer_trans cur first (nearer_total cur ?_), all⟩
      rwa [nearer_iff] at h

/-- Of candidates in ascending order the preference takes one, the last for it. -/
theorem pickWrap_row (pref : WrapPref) (cur : Int) (cs : List Int) (rising : cs.Pairwise (· < ·)) {a : Int} (mem : a ∈ cs) :
    ∃ t, pickWrap pref cur cs = some t ∧ t ∈ cs ∧ (pref = .positive → a ≤ t) ∧ (pref = .negative → t ≤ a)
      ∧ (pref = .nearest → Nearer cur t a) := by
  cases cs with
  | nil => simp at mem
  | cons c cs =>
    cases pref with
    | positive =>
      refine ⟨(c :: cs).getLast (by simp), by simp [pickWrap, List.getLast?_eq_some_getLast], List.getLast_mem _, fun _ => ?_,
        by simp, by simp⟩
      exact List.Pairwise.rel_getLast (R := (· ≤ ·)) (rising.imp Int.le_of_lt) mem
    | negative =>
      refine ⟨c, rfl, List.mem_cons_self, by simp, fun _ => ?_, by simp⟩
      rcases List.mem_cons.mp mem with rfl | mem
      · exact le_rfl
      · exact (List.rel_of_pairwise_cons rising mem).le
    | nearest =>
      obtain ⟨t, found, mem', first, all⟩ := nearest_from cur cs c
      refine ⟨t, found, ?_, by simp, by simp, fun _ => ?_⟩
      · exact mem'.elim (fun same => by simp [same]) fun mem => List.mem_cons_of_mem _ mem
      · exact (List.mem_cons.mp mem).elim (fun same => same ▸ first) fun mem => all a mem

/-! ### A member's target (R46 check 10, R49) -/

section
variable (b : Block) (d : DishId) (az el : Int) (pref : WrapPref)

/-- The wrap candidates within the limits. -/
def Block.wraps (b : Block) (d : DishId) (az : Int) : List Int :=
  (candidates az).filter fun c => within (b.axis d .az).cfg.lo (b.axis d .az).cfg.hi c

theorem mem_wraps (a : Int) : a ∈ b.wraps d az ↔
    a ∈ [az - 360000, az, az + 360000] ∧ (b.axis d .az).cfg.lo ≤ a ∧ a ≤ (b.axis d .az).cfg.hi := by
  rw [Block.wraps, List.mem_filter, within_iff]
  rfl

theorem wraps_rising : (b.wraps d az).Pairwise (· < ·) := by
  refine List.Pairwise.filter _ ?_
  simp only [candidates, List.pairwise_cons, List.mem_cons, List.not_mem_nil, or_false, forall_eq_or_imp, forall_eq,
    List.Pairwise.nil, and_true, false_imp_iff, implies_true]
  omega

theorem memberTarget_eq : b.memberTarget d az el pref =
    if (b.axis d .el).cfg.lo ≤ el ∧ el ≤ (b.axis d .el).cfg.hi
    then (pickWrap pref (b.pos d .az) (b.wraps d az)).map fun x => ⟨x, el⟩ else none := by
  simp only [Block.memberTarget, Block.wraps, within_iff]

/-- Which target a member has. -/
theorem memberTarget_row :
    let ca := (b.axis d .az).cfg
    let ce := (b.axis d .el).cfg
    let cur := b.pos d .az
    let fits := fun (a : Int) => a ∈ [az - 360000, az, az + 360000] ∧ ca.lo ≤ a ∧ a ≤ ca.hi
    let r := b.memberTarget d az el pref
    (¬(ce.lo ≤ el ∧ el ≤ ce.hi ∧ ∃ a, fits a) → r = none)
    ∧ (ce.lo ≤ el → el ≤ ce.hi → ∀ a, fits a → ∃ t, r = some t ∧ t.el = el ∧ fits t.az
      ∧ (pref = .positive → a ≤ t.az) ∧ (pref = .negative → t.az ≤ a)
      ∧ (pref = .nearest → absDiff t.az cur < absDiff a cur
        ∨ (absDiff t.az cur = absDiff a cur ∧ (t.az.natAbs < a.natAbs ∨ (t.az.natAbs = a.natAbs ∧ a ≤ t.az))))) := by
  intro ca ce cur fits r
  have r_eq : r = _ := memberTarget_eq b d az el pref
  refine ⟨fun unfit => ?_, fun low high a fit => ?_⟩
  · rw [r_eq]
    split
    · next inside =>
      have empty : b.wraps d az = [] := List.eq_nil_iff_forall_not_mem.mpr fun a mem =>
        unfit ⟨inside.1, inside.2, a, (mem_wraps b d az a).mp mem⟩
      rw [empty]
      cases pref <;> rfl
    · rfl
  · obtain ⟨t, found, mem, positive, negative, nearest⟩ :=
      pickWrap_row pref cur (b.wraps d az) (wraps_rising b d az) ((mem_wraps b d az a).mpr fit)
    refine ⟨⟨t, el⟩, ?_, rfl, (mem_wraps b d az t).mp mem, positive, negative, nearest⟩
    rw [r_eq, if_pos ⟨low, high⟩, found]
    rfl

end

/-! ### A group's plan (R49, R51) -/

section
variable (b : Block) (x : Group)

/-- The plan of a list of members. -/
def Block.planMembers (b : Block) (x : Group) (ms : List Member) : Option (List Mover) :=
  ms.foldr (fun m acc =>
    match b.memberTarget m.dish x.az x.el x.pref, acc with
    | some t, some ms => some ((m.dish, b.planTo m.dish t) :: ms)
    | _, _ => none) (some [])

theorem planGroup_eq : b.planGroup x = b.planMembers x x.members := rfl

theorem planMembers_cons (m : Member) (ms : List Member) : b.planMembers x (m :: ms) =
    match b.memberTarget m.dish x.az x.el x.pref, b.planMembers x ms with
    | some t, some ps => some ((m.dish, b.planTo m.dish t) :: ps)
    | _, _ => none := rfl

/-- A member without a target leaves the group without a plan; otherwise each member has its target and distances. -/
theorem planMembers_row (ms : List Member) :
    ((∃ m ∈ ms, b.memberTarget m.dish x.az x.el x.pref = none) → b.planMembers x ms = none)
    ∧ ((∀ m ∈ ms, b.memberTarget m.dish x.az x.el x.pref ≠ none) → ∃ ps, b.planMembers x ms = some ps
      ∧ ps.map (·.1) = ms.map (·.dish)
      ∧ ∀ p ∈ ps, b.memberTarget p.1 x.az x.el x.pref = some p.2.target
        ∧ p.2.dist = ⟨absDiff p.2.target.az (b.pos p.1 .az), absDiff p.2.target.el (b.pos p.1 .el)⟩) := by
  induction ms with
  | nil => exact ⟨by simp, fun _ => ⟨[], rfl, rfl, by simp⟩⟩
  | cons m ms ih =>
    rw [planMembers_cons]
    refine ⟨?_, fun all => ?_⟩
    · rintro ⟨y, mem, none_⟩
      rcases List.mem_cons.mp mem with rfl | mem
      · rw [none_]
      · rw [ih.1 ⟨y, mem, none_⟩]
        cases b.memberTarget m.dish x.az x.el x.pref <;> rfl
    · obtain ⟨first, rest⟩ := List.forall_mem_cons.mp all
      obtain ⟨t, target⟩ := Option.ne_none_iff_exists'.mp first
      obtain ⟨ps, plan, dishes, plans⟩ := ih.2 rest
      rw [target, plan]
      refine ⟨_, rfl, by simp [dishes], List.forall_mem_cons.mpr ⟨⟨?_, rfl⟩, plans⟩⟩
      exact target

/-- The first member whose limits the target does not fit. -/
theorem misfit_first {before after : List Member} {m : Member} (split : x.members = before ++ m :: after)
    (fit : ∀ p ∈ before, b.memberTarget p.dish x.az x.el x.pref ≠ none)
    (unfit : b.memberTarget m.dish x.az x.el x.pref = none) : b.misfit x = some m.dish := by
  have passes : (before.map (·.dish)).find? (fun d => (b.memberTarget d x.az x.el x.pref).isNone) = none := by
    simpa [List.find?_eq_none, Option.isSome_iff_ne_none] using fit
  simp [Block.misfit, split, List.find?_append, passes, unfit]

/-- A running maximum is at least each, and is one of them or its start. -/
theorem foldl_max_row (ns : List Nat) (acc : Nat) :
    acc ≤ ns.foldl max acc ∧ (∀ n ∈ ns, n ≤ ns.foldl max acc) ∧ (ns.foldl max acc = acc ∨ ns.foldl max acc ∈ ns) := by
  induction ns generalizing acc with
  | nil => exact ⟨le_rfl, by simp, Or.inl rfl⟩
  | cons n ns ih =>
    obtain ⟨low, each, one⟩ := ih (max acc n)
    rw [List.foldl_cons]
    refine ⟨by omega, List.forall_mem_cons.mpr ⟨by omega, each⟩, ?_⟩
    rcases one with one | one
    · rw [one]
      rcases le_total acc n with h | h
      · exact Or.inr (by rw [max_eq_right h]; exact List.mem_cons_self)
      · exact Or.inl (max_eq_left h)
    · exact Or.inr (List.mem_cons_of_mem _ one)

/-- The least duration of a set of movers. -/
theorem minDuration_row (ms : List Mover) :
    let least := fun (m : Mover) (k : AxisKind) => axisMin (b.axis m.1 k).cfg (b.cold m.1) (m.2.dist.get k)
    let n := b.minDuration ms
    20 ≤ n ∧ (∀ m ∈ ms, ∀ k, least m k ≤ n) ∧ (n = 20 ∨ ∃ m ∈ ms, ∃ k, n = least m k) := by
  intro least n
  obtain ⟨low, each, one⟩ := foldl_max_row (ms.flatMap fun m => [least m .az, least m .el]) 20
  refine ⟨low, fun m mem k => each _ (List.mem_flatMap.mpr ⟨m, mem, ?_⟩), one.imp id fun one => ?_⟩
  · cases k <;> simp
  · obtain ⟨m, mem, found⟩ := List.mem_flatMap.mp one
    simp only [List.mem_cons, List.not_mem_nil, or_false] at found
    exact ⟨m, mem, found.elim (fun h => ⟨.az, h⟩) fun h => ⟨.el, h⟩⟩

end

/-! ### The checks before the plan (Table 3-4) -/

/-- The checks in their order. -/
theorem startRefused_row (b : Block) (x : Group) :
    let w := b.weather.level
    let every := fun (P : DishId → Prop) => ∀ m ∈ x.members, P m.dish
    let kept := every fun d => b.configured d = true
    let free := every fun d => (b.dish d).mode = .idle ∨ (b.dish d).mode = .trackWait ∨ (b.dish d).mode = .tracking
    let windy := w = .stow ∨ (w = .watch ∧ x.el < b.site.cfg.watchMinEl)
    let unlocked := every fun d => ∀ k, b.axisLocks d k = 0
    let able := every fun d => ∀ k, (b.axis d k).state ≠ .offline ∧ (b.axis d k).state ≠ .faulted
      ∧ (b.axis d k).reported ≠ none
    let r := b.startRefused x
    (x.state ≠ .formed → r = some .state)
    ∧ (x.state = .formed → ¬kept → r = some .noSuch)
    ∧ (x.state = .formed → kept → ¬free → r = some .state)
    ∧ (x.state = .formed → kept → free → b.site.clock = none → r = some .noTime)
    ∧ (x.state = .formed → kept → free → b.site.clock ≠ none →
      (b.site.estop = true → r = some .estop)
      ∧ (b.site.estop = false → windy → r = some .wind)
      ∧ (b.site.estop = false → ¬windy → ¬unlocked → r = some .locked)
      ∧ (b.site.estop = false → ¬windy → unlocked → ¬able → r = some .state)
      ∧ (b.site.estop = false → ¬windy → unlocked → able → r = none)) := by
  intro w every kept free windy unlocked able r
  have kept_iff : (x.members.any fun m => !b.configured m.dish) = false ↔ kept := by
    simp [kept, every]
  have free_iff : (x.members.any fun m => !(b.dish m.dish).mode.working) = false ↔ free := by
    simp only [List.any_eq_false, Bool.not_eq_true', Bool.not_eq_false, free, every]
    refine forall_congr' fun m => forall_congr' fun _ => ?_
    cases (b.dish m.dish).mode <;> simp [Mode.working]
  have windy_iff : b.windForbids x = true ↔ windy := by
    simp [Block.windForbids, windy, w]
  have unlocked_iff : (x.members.any fun m => b.dishLocked m.dish) = false ↔ unlocked := by
    simp only [List.any_eq_false, unlocked, every, Block.dishLocked]
    refine forall_congr' fun m => forall_congr' fun _ => ⟨fun h k => ?_, fun h => by simp [h]⟩
    cases k <;> simp_all
  have able_iff : (x.members.any fun m => b.outOfService m.dish || !b.positioned m.dish) = false ↔ able := by
    simp only [List.any_eq_false, able, every, Block.outOfService, Block.positioned, Block.blockReasons]
    refine forall_congr' fun m => forall_congr' fun _ => ⟨fun h k => ?_, fun h => ?_⟩
    · cases k <;> simp_all
    · simp [h .az, h .el]
  have failed {p : Bool} {q : Prop} (h : p = false ↔ q) (hq : ¬q) : p = true := by
    simpa using mt h.mp hq
  refine ⟨fun s => ?_, fun s k => ?_, fun s k f => ?_, fun s k f c => ?_, fun s k f c => ⟨fun e => ?_, fun e wind => ?_,
    fun e wind l => ?_, fun e wind l a => ?_, fun e wind l a => ?_⟩⟩
  · simp [r, Block.startRefused, s]
  · simp [r, Block.startRefused, s, failed kept_iff k]
  · simp [r, Block.startRefused, s, kept_iff.mpr k, failed free_iff f]
  · simp [r, Block.startRefused, s, kept_iff.mpr k, free_iff.mpr f, c]
  · simp [r, Block.startRefused, s, kept_iff.mpr k, free_iff.mpr f, c, e]
  · simp [r, Block.startRefused, s, kept_iff.mpr k, free_iff.mpr f, c, e, windy_iff.mpr wind]
  · simp [r, Block.startRefused, s, kept_iff.mpr k, free_iff.mpr f, c, e, mt windy_iff.mp wind, failed unlocked_iff l]
  · simp [r, Block.startRefused, s, kept_iff.mpr k, free_iff.mpr f, c, e, mt windy_iff.mp wind, unlocked_iff.mpr l,
      failed able_iff a]
  · simp [r, Block.startRefused, s, kept_iff.mpr k, free_iff.mpr f, c, e, mt windy_iff.mp wind, unlocked_iff.mpr l,
      able_iff.mpr a]

end Sys2Proof.Machine
end

-- ==== Member dishes handed to the Slew Planner (R33, R47) ====
section
/-! What the handing of its members leaves and makes: modes, pending requests, axes and their needs. -/

open Sys2Proof

namespace Sys2Proof.Machine

section
variable (b : Block) (g : GroupId) (d e : DishId) (k j : AxisKind)

/-- Entering a state leaves the other dishes, and of its own all but the park requests. -/
theorem dish_enter (st : AxisState) : (b.enter d k st).dish e = b.dish e ∨ d = e := by
  by_cases same : d = e
  · exact Or.inr same
  · refine Or.inl ?_
    unfold Block.enter
    simp only []
    repeat' split
    all_goals simp [modAxis_eq, Block.modDish, same]

/-- An axis as it is handed over. -/
def Axis.handed (a : Axis) (g : GroupId) : Axis :=
  let kept := { a with need := a.need.map fun _ => ⟨.group g, none⟩ }
  if a.state = .moving then { kept.ordered .stop with intent := .hold }.entered .stopping else kept

/-- An axis handed over: its need becomes the group's, and a moving one stops (R47). -/
theorem handAxis_eq : b.handAxis g d k = if (b.axis d k).state = .moving
    then (b.setAxis d k { b.axis d k with need := (b.axis d k).need.map fun _ => ⟨.group g, none⟩ }).stopAxis d k .hold
    else b.setAxis d k { b.axis d k with need := (b.axis d k).need.map fun _ => ⟨.group g, none⟩ } := by
  simp [Block.handAxis, Block.needGroup, modAxis_eq, Block.orderHold]

@[simp] theorem beside_handAxis : (b.handAxis g d k).beside = b.beside := by
  rw [handAxis_eq]
  split <;> simp

@[simp] theorem account_handAxis : (b.handAxis g d k).account = b.account := by
  rw [handAxis_eq]
  split <;> simp

theorem axis_handAxis : (b.handAxis g d k).axis e j =
    if d = e ∧ k = j then (b.axis d k).handed g else b.axis e j := by
  rw [handAxis_eq]
  by_cases same : d = e ∧ k = j
  · obtain ⟨rfl, rfl⟩ := same
    by_cases moving : (b.axis d k).state = .moving <;> simp [moving, Axis.handed]
  · by_cases moving : (b.axis d k).state = .moving <;> simp [moving, same]

theorem dish_handAxis_other (h : d ≠ e) : (b.handAxis g d k).dish e = b.dish e := by
  rw [handAxis_eq]
  split
  · rw [stopAxis_eq, (dish_enter _ d e k .stopping).resolve_right h]
    simp
  · simp

/-- A dish as its axes are handed over keeps all but its park requests. -/
theorem dish_handAxis : { (b.handAxis g d k).dish e with parkReq := (b.dish e).parkReq } = b.dish e :=
  dish_of_beside (beside_handAxis b g d k) e

/-- A dish handed over. -/
theorem handDish_eq : b.handDish g d
    = (((b.setMode d .slewWait .group).withdrawPending d).handAxis g d .az).handAxis g d .el := by
  simp only [Block.handDish, Block.bothAxes]

theorem withdrawPending_eq : b.withdrawPending d = match (b.dish d).pendingReq with
    | none => b
    | some .hold => (b.withdraw (.hold d)).setDish d { b.dish d with pendingReq := none }
    | some .track => (b.withdraw (.track d)).setDish d { b.dish d with pendingReq := none } := by
  unfold Block.withdrawPending
  split <;> simp_all [Block.modDish]

theorem dish_withdrawPending :
    (b.withdrawPending d).dish e = if d = e then { b.dish d with pendingReq := none } else b.dish e := by
  rw [withdrawPending_eq]
  cases pending : (b.dish d).pendingReq with
  | none =>
    by_cases same : d = e
    · subst same
      simp [← pending]
    · simp [same]
  | some r => cases r <;> simp

/-- A pending request is withdrawn from the queue. -/
theorem waits_withdrawPending :
    ((b.dish d).pendingReq = some .hold → (b.withdrawPending d).waits (.hold d) = false)
    ∧ ((b.dish d).pendingReq = some .track → (b.withdrawPending d).waits (.track d) = false) := by
  refine ⟨fun pending => ?_, fun pending => ?_⟩
  all_goals
    rw [withdrawPending_eq, pending]
    exact waits_withdraw ..

/-- What stands where a dish is handed over: the claims, the planner and the ground. -/
theorem handDish_kept : (b.handDish g d).account.claims = b.account.claims ∧ (b.handDish g d).planner = b.planner
    ∧ (b.handDish g d).ground = b.ground := by
  have beside : (b.handDish g d).beside = ((b.setMode d .slewWait .group).withdrawPending d).beside := by
    simp [handDish_eq]
  obtain ⟨planner, -⟩ := records_of_beside beside
  refine ⟨by simp [handDish_eq], planner.trans (by simp), (ground_of_beside beside).trans (by simp)⟩

/-- A dish handed over queues no request. -/
theorem handDish_waits (w : Waiter) (h : b.waits w = false) : (b.handDish g d).waits w = false := by
  have same : (b.handDish g d).waits w = ((b.setMode d .slewWait .group).withdrawPending d).waits w := by
    simp [Block.waits, handDish_eq]
  rw [same]
  refine (calm_withdrawPending _ d).waits w ?_
  simpa [Block.waits] using h

/-- A dish handed over leaves the other dishes and their axes. -/
theorem handDish_other (h : d ≠ e) : (b.handDish g d).dish e = b.dish e ∧ (b.handDish g d).axis e j = b.axis e j := by
  refine ⟨?_, ?_⟩
  · rw [handDish_eq, dish_handAxis_other _ _ _ _ _ h, dish_handAxis_other _ _ _ _ _ h, dish_withdrawPending, if_neg h]
    simp [h]
  · rw [handDish_eq, axis_handAxis, if_neg (by simp [h]), axis_handAxis, if_neg (by simp [h]),
      (sameAxes_of_axes (withdrawPending_kept ..).1).2, (sameAxes_of_axes (setMode_kept ..).1).2]

/-- A dish handed over is SLEW_WAIT without a pending request, its axes handed. -/
theorem handDish_own :
    let t := b.handDish g d
    (t.dish d).mode = .slewWait ∧ (t.dish d).pendingReq = none
    ∧ ((b.dish d).pendingReq = some .hold → t.waits (.hold d) = false)
    ∧ ((b.dish d).pendingReq = some .track → t.waits (.track d) = false)
    ∧ ∀ k, t.axis d k = (b.axis d k).handed g := by
  have record := dish_withdrawPending (b.setMode d .slewWait .group) d d
  have az := dish_handAxis ((b.setMode d .slewWait .group).withdrawPending d) g d d .az
  have el := dish_handAxis (((b.setMode d .slewWait .group).withdrawPending d).handAxis g d .az) g d d .el
  have pending : ((b.setMode d .slewWait .group).dish d).pendingReq = (b.dish d).pendingReq := by simp
  obtain ⟨hold, track⟩ := waits_withdrawPending (b.setMode d .slewWait .group) d
  have waits (w) : (b.handDish g d).waits w = ((b.setMode d .slewWait .group).withdrawPending d).waits w := by
    simp [Block.waits, handDish_eq]
  have axes : ((b.setMode d .slewWait .group).withdrawPending d).axis = b.axis := by
    rw [(sameAxes_of_axes (withdrawPending_kept ..).1).2, (sameAxes_of_axes (setMode_kept ..).1).2]
  rw [pending] at hold track
  refine ⟨?_, ?_, fun h => (waits _).trans (hold h), fun h => (waits _).trans (track h), fun k => ?_⟩
  · have mode := (congrArg Dish.mode el).trans ((congrArg Dish.mode az).trans (congrArg Dish.mode record))
    simpa [handDish_eq] using mode
  · have request := (congrArg Dish.pendingReq el).trans ((congrArg Dish.pendingReq az).trans
      (congrArg Dish.pendingReq record))
    simpa [handDish_eq] using request
  · rw [handDish_eq, axis_handAxis, axis_handAxis]
    cases k <;> simp [axis_handAxis, axes]

end

section
variable (b : Block) (g : GroupId) (x : Group)

/-- The members are handed over dish by dish. -/
theorem handMembers_eq : b.handMembers g x = b.each (x.members.map (·.dish)) fun d s => s.handDish g d := by
  simp [Block.handMembers, Block.each, List.foldl_map]

theorem handMembers_kept : (b.handMembers g x).account.claims = b.account.claims
    ∧ (b.handMembers g x).planner = b.planner ∧ (b.handMembers g x).ground = b.ground := by
  rw [handMembers_eq]
  exact ⟨each_keeps (fun s : Block => s.account.claims) _ _ (fun d s => (handDish_kept s g d).1) b,
    each_keeps Block.planner _ _ (fun d s => (handDish_kept s g d).2.1) b,
    each_keeps Block.ground _ _ (fun d s => (handDish_kept s g d).2.2) b⟩

/-- A dish that is no member stands. -/
theorem handMembers_other (d : DishId) (h : ∀ m ∈ x.members, m.dish ≠ d) :
    (b.handMembers g x).dish d = b.dish d ∧ ∀ k, (b.handMembers g x).axis d k = b.axis d k := by
  rw [handMembers_eq]
  refine each_holds_mem (fun s => s.dish d = b.dish d ∧ ∀ k, s.axis d k = b.axis d k) _ _ ?_ b ⟨rfl, fun _ => rfl⟩
  rintro e mem s ⟨dish, axis⟩
  obtain ⟨m, hm, rfl⟩ := List.mem_map.mp mem
  exact ⟨(handDish_other s g m.dish d .az (h m hm)).1.trans dish,
    fun k => (handDish_other s g m.dish d k (h m hm)).2.trans (axis k)⟩

/-- What a member's dish becomes. -/
structure Block.HandedTo (b : Block) (g : GroupId) (d : DishId) (t : Block) : Prop where
  mode : (t.dish d).mode = .slewWait
  pending : (t.dish d).pendingReq = none
  hold : (b.dish d).pendingReq = some .hold → t.waits (.hold d) = false
  track : (b.dish d).pendingReq = some .track → t.waits (.track d) = false
  axis : ∀ k, t.axis d k = (b.axis d k).handed g

/-- Each member's dish is handed over. -/
theorem handMembers_own (apart : (x.members.map (·.dish)).Nodup) {m : Member} (mem : m ∈ x.members) :
    b.HandedTo g m.dish (b.handMembers g x) := by
  rw [handMembers_eq]
  refine each_at (fun s => s.dish m.dish = b.dish m.dish ∧ ∀ k, s.axis m.dish k = b.axis m.dish k)
    (b.HandedTo g m.dish) _ m.dish ?_ ?_ ?_ _ apart (List.mem_map_of_mem mem) b ⟨rfl, fun _ => rfl⟩
  · rintro e s other ⟨dish, axis⟩
    exact ⟨(handDish_other s g e m.dish .az other).1.trans dish,
      fun k => (handDish_other s g e m.dish k other).2.trans (axis k)⟩
  · rintro s ⟨dish, axis⟩
    obtain ⟨mode, pending, hold, track, axes⟩ := handDish_own s g m.dish
    rw [dish] at hold track
    exact ⟨mode, pending, hold, track, fun k => (axes k).trans (by rw [axis])⟩
  · rintro e s other ⟨mode, pending, hold, track, axis⟩
    obtain ⟨dish, -⟩ := handDish_other s g e m.dish .az other
    exact ⟨by rw [dish, mode], by rw [dish, pending], fun h => handDish_waits s g e _ (hold h),
      fun h => handDish_waits s g e _ (track h), fun k => (handDish_other s g e m.dish k other).2.trans (axis k)⟩

/-- The handing of a group's members. -/
theorem handMembers_row :
    let t := b.handMembers g x
    t = x.members.foldl (fun u m => u.handDish g m.dish) b
    ∧ (∀ d, b.handDish g d = (((b.setMode d .slewWait .group).withdrawPending d).handAxis g d .az).handAxis g d .el)
    ∧ t.account.claims = b.account.claims ∧ t.points = b.points
    ∧ (∀ d, (∀ m ∈ x.members, m.dish ≠ d) → t.dish d = b.dish d ∧ ∀ k, t.axis d k = b.axis d k)
    ∧ ((x.members.map (·.dish)).Nodup → ∀ m ∈ x.members,
      (t.dish m.dish).mode = .slewWait ∧ (t.dish m.dish).pendingReq = none
      ∧ ((b.dish m.dish).pendingReq = some .hold → t.waits (.hold m.dish) = false)
      ∧ ((b.dish m.dish).pendingReq = some .track → t.waits (.track m.dish) = false)
      ∧ ∀ k,
        let a := b.axis m.dish k
        let need : Option Need := if a.need = none then none else some ⟨.group g, none⟩
        (a.state = .moving → (t.axis m.dish k).state = .stopping ∧ (t.axis m.dish k).intent = .hold
          ∧ (t.axis m.dish k).order = .stop ∧ (t.axis m.dish k).need = need)
        ∧ (a.state ≠ .moving → t.axis m.dish k = { a with need := need })) := by
  obtain ⟨claims, -, ground⟩ := handMembers_kept b g x
  refine ⟨rfl, fun d => handDish_eq b g d, claims, (sameGround_of_ground ground).1, handMembers_other b g x,
    fun apart m mem => ?_⟩
  obtain ⟨mode, pending, hold, track, axis⟩ := handMembers_own b g x apart mem
  refine ⟨mode, pending, hold, track, fun k => ?_⟩
  intro a need
  have mapped : a.need.map (fun _ => (⟨.group g, none⟩ : Need)) = need := by
    cases h : a.need <;> simp [need, h]
  refine ⟨fun moving => ?_, fun resting => ?_⟩
  · rw [axis, Axis.handed, if_pos moving]
    simpa using mapped
  · rw [axis, Axis.handed, if_neg resting, ← mapped]

end

end Sys2Proof.Machine
end

-- ==== A group's start (R56) ====
section
/-! When a STARTING group starts, and what each of its movers becomes. -/

open Sys2Proof

namespace Sys2Proof.Machine

/-- One mover sent: the orders, the mode, and its record where an axis moves. -/
def Block.sendMover (g : GroupId) (n start : Nat) (m : Mover) (s : Block) : Block :=
  let u := (s.orderMoves m n start).setMode m.1 .slewing .group
  if m.moves then u.modMember g m.1 fun y => { y with state := .moving } else u

/-- Every axis of a group's movers is HELD under it. -/
def Block.allHeld (b : Block) (g : GroupId) (x : Group) : Bool :=
  x.movers.all fun m => b.heldFor m.1 .az (.group g) && b.heldFor m.1 .el (.group g)

section
variable {b : Block} {g : GroupId} {x : Group}

theorem startGroup_starts (by_ : Option DishId) (found : b.group g = some x) (starting : x.state = .starting)
    (held : b.allHeld g x = true) : b.startGroup g by_ =
      let t := (b.setGroup g (some { x with state := .running, start := some b.moveStart })).each x.movers fun m s =>
        s.sendMover g (x.nStar.getD 20) b.moveStart m
      t.tellGroup g ((startMember x.movers by_).bind (t.member g)) := by
  unfold Block.allHeld at held
  simp only [Block.startGroup, found, starting, held, and_self, if_true, Block.modGroup, Option.map_some]
  rfl

theorem startGroup_waits (by_ : Option DishId) (h : ∀ x, b.group g = some x → ¬(x.state = .starting ∧ b.allHeld g x = true)) :
    b.startGroup g by_ = b := by
  unfold Block.startGroup
  split
  · next x found =>
    rw [if_neg]
    exact h x found
  · rfl

/-- The movers are the members under way that have a plan. -/
theorem mem_movers (m : Mover) : m ∈ x.movers ↔ ∃ z ∈ x.members, z.active = true ∧ z.dish = m.1 ∧ z.plan = some m.2 := by
  obtain ⟨d, p⟩ := m
  simp only [Group.movers, List.mem_filterMap, List.mem_filter, Option.map_eq_some_iff, Prod.mk.injEq]
  constructor
  · rintro ⟨z, ⟨mem, active⟩, q, plan, dish, rfl⟩
    exact ⟨z, mem, active, dish, plan⟩
  · rintro ⟨z, mem, active, dish, plan⟩
    exact ⟨z, ⟨mem, active⟩, p, plan, dish, rfl⟩

theorem movers_sublist : (x.movers.map (·.1)).Sublist (x.members.map (·.dish)) := by
  have each (ms : List Member) : ((ms.filterMap fun m => m.plan.map fun p => (m.dish, p)).map (·.1)).Sublist
      (ms.map (·.dish)) := by
    induction ms with
    | nil => exact .slnil
    | cons m ms ih =>
      cases plan : m.plan with
      | none => simpa [plan] using ih.cons m.dish
      | some p => simpa [plan] using ih.cons_cons m.dish
  exact (each _).trans (List.filter_sublist.map _)

theorem active_iff (m : Member) : m.active = true ↔ m.state = .planned ∨ m.state = .moving := by
  simp [Member.active]

/-- All movers are held where each member under way with a plan has both axes HELD under the group. -/
theorem allHeld_iff : b.allHeld g x = true ↔ ∀ m ∈ x.members, m.state = .planned ∨ m.state = .moving → m.plan ≠ none →
    ∀ k, (b.axis m.dish k).state = .held ∧ ∃ n, (b.axis m.dish k).need = some n ∧ n.who = .group g := by
  have one (d : DishId) (k : AxisKind) : b.heldFor d k (.group g) = true ↔
      (b.axis d k).state = .held ∧ ∃ n, (b.axis d k).need = some n ∧ n.who = .group g := by
    cases need : (b.axis d k).need <;> simp [Block.heldFor, need]
  simp only [Block.allHeld, List.all_eq_true, Bool.and_eq_true, one]
  constructor
  · intro all m mem way plan k
    obtain ⟨p, plan⟩ := Option.ne_none_iff_exists'.mp plan
    obtain ⟨az, el⟩ := all (m.dish, p) ((mem_movers _).mpr ⟨m, mem, (active_iff m).mpr way, rfl, plan⟩)
    cases k
    · exact az
    · exact el
  · intro all m mem
    obtain ⟨z, hz, active, dish, plan⟩ := (mem_movers m).mp mem
    have held := all z hz ((active_iff z).mp active) (by simp [plan])
    rw [dish] at held
    exact ⟨held .az, held .el⟩

end

/-! ### One mover -/

section
variable (b : Block) (g : GroupId) (n start : Nat) (m : Mover)

theorem orderMoves_eq : b.orderMoves m n start =
    let t := if m.2.dist.az = 0 then b else b.orderMove m.1 .az m.2.target.az n start
    if m.2.dist.el = 0 then t else t.orderMove m.1 .el m.2.target.el n start := rfl

theorem beside_orderMoves : (b.orderMoves m n start).beside = b.beside := by
  rw [orderMoves_eq]
  simp only []
  (repeat' split) <;> simp

theorem account_orderMoves : (b.orderMoves m n start).account = b.account := by
  rw [orderMoves_eq]
  simp only []
  (repeat' split) <;> simp

/-- The axes of a mover: each with a distance goes to its target, the other stands. -/
theorem axis_orderMoves (e : DishId) (k : AxisKind) : (b.orderMoves m n start).axis e k =
    if m.1 = e ∧ m.2.dist.get k ≠ 0
    then ((b.axis e k).ordered (.move (match k with | .az => m.2.target.az | .el => m.2.target.el) n start)).entered .moving
    else b.axis e k := by
  rw [orderMoves_eq]
  simp only []
  by_cases same : m.1 = e
  · subst same
    cases k with
    | az => by_cases az : m.2.dist.az = 0 <;> by_cases el : m.2.dist.el = 0 <;> simp [az, el, PerAxis.get]
    | el => by_cases az : m.2.dist.az = 0 <;> by_cases el : m.2.dist.el = 0 <;> simp [az, el, PerAxis.get]
  · by_cases az : m.2.dist.az = 0 <;> by_cases el : m.2.dist.el = 0 <;> simp [az, el, same]

theorem dish_orderMoves_other (e : DishId) (h : m.1 ≠ e) : (b.orderMoves m n start).dish e = b.dish e := by
  have one (s : Block) (k : AxisKind) (t : Int) : (s.orderMove m.1 k t n start).dish e = s.dish e := by
    rw [Block.orderMove, (dish_enter _ m.1 e k .moving).resolve_right h]
    simp [setOrder_eq]
  rw [orderMoves_eq]
  simp only []
  (repeat' split) <;> simp [one]

/-- A mover sent leaves the claims and what stands beside the axes, the planner's groups apart. -/
theorem sendMover_kept : (b.sendMover g n start m).account = b.account ∧ (b.sendMover g n start m).ground = b.ground
    ∧ (b.sendMover g n start m).planner.moves = b.planner.moves := by
  obtain ⟨planner, -⟩ := records_of_beside (beside_orderMoves b n start m)
  have account := account_orderMoves b n start m
  have ground := ground_of_beside (beside_orderMoves b n start m)
  unfold Block.sendMover
  simp only []
  split <;> simp [account, planner]

theorem axis_sendMover (e : DishId) (k : AxisKind) :
    (b.sendMover g n start m).axis e k = (b.orderMoves m n start).axis e k := by
  have axes : (b.sendMover g n start m).axes = (b.orderMoves m n start).axes := by
    unfold Block.sendMover
    simp only []
    split <;> simp
  rw [(sameAxes_of_axes axes).2]

theorem dish_sendMover (e : DishId) : (b.sendMover g n start m).dish e =
    if m.1 = e then ((b.orderMoves m n start).dish e).into .slewing else b.dish e := by
  have dishes : (b.sendMover g n start m).dish = ((b.orderMoves m n start).setMode m.1 .slewing .group).dish := by
    refine (sameDishes_of_dishes ?_).2
    unfold Block.sendMover
    simp only []
    split <;> simp
  rw [dishes, dish_setMode]
  split
  · next h => subst h; rfl
  · next h => exact dish_orderMoves_other b n start m e h

theorem group_sendMover (e : GroupId) : (b.sendMover g n start m).group e = if g = e ∧ m.moves = true then
    (b.group g).map fun x => { x with members := x.members.map fun z => if z.dish = m.1 then { z with state := .moving } else z }
    else b.group e := by
  obtain ⟨planner, -⟩ := records_of_beside (beside_orderMoves b n start m)
  have group (e : GroupId) : ((b.orderMoves m n start).setMode m.1 .slewing .group).group e = b.group e := by
    simp only [Block.group, setMode_kept, planner]
  unfold Block.sendMover
  simp only []
  split
  · next moves =>
    rw [group_modMember, group, group]
    simp [moves]
  · next still => rw [group, if_neg (by simp [still])]

end

section
variable {b : Block} {g : GroupId} {n start : Nat} {m : Mover} {x : Group}

theorem group_sendMover_own (found : b.group g = some x) (moves : m.moves = true) :
    (b.sendMover g n start m).group g = some { x with
      members := x.members.map fun z => if z.dish = m.1 then { z with state := .moving } else z } := by
  rw [group_sendMover, if_pos ⟨rfl, moves⟩, found, Option.map_some]

theorem group_sendMover_stands (moves : ¬m.moves = true) : (b.sendMover g n start m).group g = b.group g := by
  rw [group_sendMover, if_neg fun h => moves h.2]

end

/-! ### The movers in turn -/

/-- The movers sent in turn. -/
def Block.sendAll (g : GroupId) (n start : Nat) (ms : List Mover) (b : Block) : Block :=
  b.each ms fun m s => s.sendMover g n start m

section
variable {b : Block} {g : GroupId} {n start : Nat} {ms : List Mover}

/-- The sending of movers leaves the dishes and axes of others. -/
theorem sendAll_other (d : DishId) (h : ∀ m ∈ ms, m.1 ≠ d) :
    (b.sendAll g n start ms).dish d = b.dish d ∧ ∀ k, (b.sendAll g n start ms).axis d k = b.axis d k := by
  unfold Block.sendAll
  refine each_holds_mem (fun s => s.dish d = b.dish d ∧ ∀ k, s.axis d k = b.axis d k) _ _ ?_ b ⟨rfl, fun _ => rfl⟩
  rintro m mem s ⟨dish, axis⟩
  refine ⟨by rw [dish_sendMover, if_neg (h m mem), dish], fun k => ?_⟩
  rw [axis_sendMover, axis_orderMoves, if_neg (by simp [h m mem]), axis]

theorem sendAll_account : (b.sendAll g n start ms).account = b.account := by
  unfold Block.sendAll
  exact each_keeps Block.account _ _ (fun m s => (sendMover_kept s g n start m).1) b

/-- The sending of movers leaves the ground and the moves. -/
theorem sendAll_ground : (b.sendAll g n start ms).ground = b.ground
    ∧ (b.sendAll g n start ms).planner.moves = b.planner.moves := by
  unfold Block.sendAll
  exact ⟨each_keeps Block.ground _ _ (fun m s => (sendMover_kept s g n start m).2.1) b,
    each_keeps (fun s : Block => s.planner.moves) _ _ (fun m s => (sendMover_kept s g n start m).2.2) b⟩

/-- The other groups stand. -/
theorem sendAll_group_other (e : GroupId) (h : g ≠ e) : (b.sendAll g n start ms).group e = b.group e := by
  unfold Block.sendAll
  exact each_keeps (fun s : Block => s.group e) _ _ (fun m s => by simp [group_sendMover, h]) b

/-- Each mover is SLEWING, its axes as ordered. -/
theorem sendAll_own (apart : (ms.map (·.1)).Nodup) {m : Mover} (mem : m ∈ ms) :
    ((b.sendAll g n start ms).dish m.1).mode = .slewing
    ∧ ∀ k, (b.sendAll g n start ms).axis m.1 k = (b.orderMoves m n start).axis m.1 k := by
  unfold Block.sendAll
  refine each_once Prod.fst (fun s => ∀ k, s.axis m.1 k = b.axis m.1 k) (fun s => (s.dish m.1).mode = .slewing
    ∧ ∀ k, s.axis m.1 k = (b.orderMoves m n start).axis m.1 k) _ m ?_ ?_ ?_ ms apart mem b fun _ => rfl
  · intro y s other axis k
    rw [axis_sendMover, axis_orderMoves, if_neg (by simp [other]), axis]
  · intro s axis
    refine ⟨by rw [dish_sendMover, if_pos rfl]; rfl, fun k => ?_⟩
    rw [axis_sendMover, axis_orderMoves, axis_orderMoves, axis]
  · rintro y s other ⟨mode, axis⟩
    refine ⟨by rw [dish_sendMover, if_neg other, mode], fun k => ?_⟩
    rw [axis_sendMover, axis_orderMoves, if_neg (by simp [other]), axis]

/-- The group's record but for its members stands. -/
theorem sendAll_record {x : Group} (found : b.group g = some x) :
    ∃ y, (b.sendAll g n start ms).group g = some y ∧ { y with members := x.members } = x := by
  unfold Block.sendAll
  refine each_holds (fun s => ∃ y, s.group g = some y ∧ { y with members := x.members } = x) _ _ ?_ b ⟨x, found, rfl⟩
  rintro m s ⟨y, found, same⟩
  by_cases moves : m.moves = true
  · exact ⟨_, group_sendMover_own found moves, same⟩
  · exact ⟨y, (group_sendMover_stands moves).trans found, same⟩

/-- A group holds, of a dish, members of one state and drop reason only. -/
def Block.Rests (g : GroupId) (d : DishId) (st : MemberState) (r : Option DropReason) (b : Block) : Prop :=
  ∃ y, b.group g = some y ∧ ∃ z ∈ y.members, z.dish = d ∧ z.state = st ∧ z.drop = r

/-- A member that is no mover stays as it is. -/
theorem sendAll_rests (d : DishId) (h : ∀ m ∈ ms, m.1 ≠ d) {st : MemberState} {r : Option DropReason}
    (rests : b.Rests g d st r) : (b.sendAll g n start ms).Rests g d st r := by
  unfold Block.sendAll
  refine each_holds_mem (Block.Rests g d st r) _ _ ?_ b rests
  rintro m mem s ⟨y, found, z, hz, rfl, state⟩
  by_cases moves : m.moves = true
  · refine ⟨_, group_sendMover_own found moves, _, List.mem_map_of_mem hz, ?_⟩
    rw [if_neg fun same => h m mem same.symm]
    exact ⟨rfl, state⟩
  · exact ⟨y, (group_sendMover_stands moves).trans found, z, hz, rfl, state⟩

/-- A member sent is MOVING where an axis of it moves, and as it was otherwise. -/
theorem sendAll_member (apart : (ms.map (·.1)).Nodup) {m : Mover} (mem : m ∈ ms) {st : MemberState}
    {r : Option DropReason} (rests : b.Rests g m.1 st r) :
    (b.sendAll g n start ms).Rests g m.1 (if m.moves = true then .moving else st) r := by
  have other (y : Mover) (s : Block) (h : y.1 ≠ m.1) {st : MemberState} (rests : s.Rests g m.1 st r) :
      (s.sendMover g n start y).Rests g m.1 st r :=
    sendAll_rests (ms := [y]) m.1 (by simpa using h) rests
  unfold Block.sendAll
  refine each_once Prod.fst (Block.Rests g m.1 st r) (Block.Rests g m.1 (if m.moves = true then .moving else st) r) _ m
    (fun y s h rests => other y s h rests) ?_ (fun y s h rests => other y s h rests) ms apart mem b rests
  rintro s ⟨y, found, z, hz, dish, state, drop⟩
  by_cases moves : m.moves = true
  · refine ⟨_, group_sendMover_own found moves, _, List.mem_map_of_mem hz, ?_⟩
    rw [if_pos dish, if_pos moves]
    exact ⟨dish, rfl, drop⟩
  · exact ⟨y, (group_sendMover_stands moves).trans found, z, hz, dish, by rw [if_neg moves, state], drop⟩

end

section
variable (b : Block) (g : GroupId) (by_ : Option DishId)

/-- The group as it starts. -/
def Block.underWay (b : Block) (g : GroupId) (x : Group) : Block :=
  b.setGroup g (some { x with state := .running, start := some b.moveStart })

/-- A start, but for its report. -/
theorem startGroup_sends {x : Group} (found : b.group g = some x) (starting : x.state = .starting)
    (held : b.allHeld g x = true) :
    ∃ m, b.startGroup g by_ = ((b.underWay g x).sendAll g (x.nStar.getD 20) b.moveStart x.movers).tellGroup g m :=
  ⟨_, startGroup_starts by_ found starting held⟩

/-- When a group starts, and what it makes of its movers. -/
theorem startGroup_row :
    let t := b.startGroup g by_
    let underway := fun (m : Member) => m.state = .planned ∨ m.state = .moving
    let ready := fun (x : Group) => x.state = .starting
      ∧ ∀ m ∈ x.members, underway m → m.plan ≠ none → ∀ k, (b.axis m.dish k).state = .held
        ∧ ∃ n, (b.axis m.dish k).need = some n ∧ n.who = .group g
    ((∀ x, b.group g = some x → ¬ready x) → t = b)
    ∧ ∀ x n, b.group g = some x → ready x → x.nStar = some n → (x.members.map (·.dish)).Nodup →
      ∃ y, t.group g = some y ∧ y.state = .running ∧ y.start = some b.moveStart ∧ y.nStar = some n
        ∧ ∀ m ∈ x.members, underway m → ∀ p, m.plan = some p →
          let served := fun (k : AxisKind) (dist : Nat) (target : Int) =>
            (dist = 0 → t.axis m.dish k = b.axis m.dish k)
            ∧ (dist ≠ 0 → (t.axis m.dish k).state = .moving ∧ (t.axis m.dish k).order = .move target n b.moveStart
              ∧ (t.axis m.dish k).need = (b.axis m.dish k).need ∧ t.claim m.dish k = b.claim m.dish k)
          (t.dish m.dish).mode = .slewing ∧ served .az p.dist.az p.target.az ∧ served .el p.dist.el p.target.el
          ∧ ∃ z ∈ y.members, z.dish = m.dish
            ∧ z.state = if p.dist.az = 0 ∧ p.dist.el = 0 then m.state else .moving := by
  intro t underway ready
  refine ⟨fun unready => startGroup_waits by_ fun x found h => unready x found ⟨h.1, allHeld_iff.mp h.2⟩, ?_⟩
  rintro x n found ⟨starting, held⟩ duration apart
  obtain ⟨told, sent⟩ := startGroup_sends b g by_ found starting (allHeld_iff.mpr held)
  have moversApart : (x.movers.map (·.1)).Nodup := movers_sublist.nodup apart
  have begun : (b.underWay g x).group g = some { x with state := .running, start := some b.moveStart } := by
    simp [Block.underWay]
  obtain ⟨y, record, same⟩ := sendAll_record (n := x.nStar.getD 20) (start := b.moveStart) (ms := x.movers) begun
  have group : t.group g = some y := by rw [← record]; simp [t, sent]
  have axis (d k) : t.axis d k = ((b.underWay g x).sendAll g (x.nStar.getD 20) b.moveStart x.movers).axis d k := by
    simp only [t, sent]
    rw [(sameAxes_of_axes (tellGroup_kept ..).1).2]
  have dish (d) : t.dish d = ((b.underWay g x).sendAll g (x.nStar.getD 20) b.moveStart x.movers).dish d := by
    simp only [t, sent]
    rw [(sameDishes_of_dishes (tellGroup_kept ..).2.2.1).2]
  have claim (d k) : t.claim d k = b.claim d k := by
    have account : t.account = b.account := by
      simp only [t, sent, tellGroup_kept]
      exact sendAll_account.trans rfl
    simp only [Block.claim, account]
  refine ⟨y, group, congrArg Group.state same, congrArg Group.start same, (congrArg Group.nStar same).trans duration,
    fun m mem way p plan => ?_⟩
  have mover : (m.dish, p) ∈ x.movers := (mem_movers _).mpr ⟨m, mem, (active_iff m).mpr way, rfl, plan⟩
  obtain ⟨mode, axes⟩ := sendAll_own (b := b.underWay g x) (g := g) (n := x.nStar.getD 20) (start := b.moveStart)
    moversApart mover
  have rests : (b.underWay g x).Rests g m.dish m.state m.drop := ⟨_, begun, m, mem, rfl, rfl, rfl⟩
  obtain ⟨y', found', z, hz, zd, zs, -⟩ := sendAll_member (n := x.nStar.getD 20) (start := b.moveStart) moversApart mover rests
  obtain rfl : y = y' := Option.some.inj (record.symm.trans found')
  have served (k : AxisKind) : t.axis m.dish k = if p.dist.get k ≠ 0
      then ((b.axis m.dish k).ordered (.move (match k with | .az => p.target.az | .el => p.target.el) n b.moveStart)).entered
        .moving
      else b.axis m.dish k := by
    rw [axis, axes, axis_orderMoves, duration]
    simp [Block.underWay]
  refine ⟨by rw [dish, mode], ⟨fun zero => ?_, fun far => ?_⟩, ⟨fun zero => ?_, fun far => ?_⟩, z, hz, zd, ?_⟩
  · rw [served, if_neg (by simpa [PerAxis.get] using zero)]
  · rw [served, if_pos (by simpa [PerAxis.get] using far)]
    exact ⟨rfl, by simp, by simp, claim ..⟩
  · rw [served, if_neg (by simpa [PerAxis.get] using zero)]
  · rw [served, if_pos (by simpa [PerAxis.get] using far)]
    exact ⟨rfl, by simp, by simp, claim ..⟩
  · rw [zs]
    by_cases az : p.dist.az = 0 <;> by_cases el : p.dist.el = 0 <;> simp [Mover.moves, az, el]

end

end Sys2Proof.Machine
end

-- ==== Needs delivered to a group's members (R55, R60) ====
section
/-! A group's needs are delivered member by member; a member whose axis refuses one is dropped, which may settle the group
or start it. What a delivery makes of its own member stands through the deliveries to the others. -/

open Sys2Proof

namespace Sys2Proof.Machine

/-! ### An axis that a group's start may have sent -/

/-- An axis as it was, or HELD before and sent since under the same need. -/
def Axis.SentFrom (a x : Axis) : Prop := x = a ∨ a.state = .held ∧ x.state = .moving ∧ x.need = a.need

/-- A dish's axes stand but for a start, and its claims stand. -/
structure Block.Abides (b : Block) (d : DishId) (t : Block) : Prop where
  axis : ∀ k, (b.axis d k).SentFrom (t.axis d k)
  claim : ∀ k, t.claim d k = b.claim d k
  ground : t.ground = b.ground

theorem sentFrom_trans {a x y : Axis} (h : a.SentFrom x) (h' : x.SentFrom y) : a.SentFrom y := by
  rcases h with rfl | ⟨held, moving, need⟩
  · exact h'
  · rcases h' with rfl | ⟨held', -⟩
    · exact Or.inr ⟨held, moving, need⟩
    · simp [moving] at held'

theorem sentFrom_need {a x : Axis} (h : a.SentFrom x) : x.need = a.need := by
  rcases h with rfl | ⟨-, -, need⟩
  · rfl
  · exact need

/-- Only an axis that was HELD is sent. -/
theorem sentFrom_resting {a x : Axis} (h : a.SentFrom x) (resting : a.state ≠ .held) : x = a :=
  h.resolve_right fun sent => resting sent.1

section
variable {b t u : Block} {d e : DishId} {g : GroupId}

theorem abides_refl (b : Block) (d : DishId) : b.Abides d b := ⟨fun _ => Or.inl rfl, fun _ => rfl, rfl⟩

theorem abides_trans (h : b.Abides d t) (h' : t.Abides d u) : b.Abides d u :=
  ⟨fun k => sentFrom_trans (h.axis k) (h'.axis k), fun k => (h'.claim k).trans (h.claim k), h'.ground.trans h.ground⟩

/-- Where axes, claims and the ground are unchanged a dish abides. -/
theorem abides_of_same (axes : t.axes = b.axes) (claims : t.account.claims = b.account.claims)
    (ground : t.ground = b.ground) : b.Abides d t :=
  ⟨fun k => Or.inl (by rw [(sameAxes_of_axes axes).2]), fun k => by rw [(sameClaims_of_claims claims).2], ground⟩

/-- What an abiding axis refuses it refuses still. -/
theorem needRefused_abides (h : b.Abides d t) (k : AxisKind) : t.needRefused d k = b.needRefused d k := by
  obtain ⟨axis, -, ground⟩ := h
  obtain ⟨-, -, -, -, -, site, -, -, -, -, -, -, -, -, locks, -⟩ := sameGround_of_ground ground
  unfold Block.needRefused
  rw [locks, site]
  rcases axis k with same | ⟨held, moving, -⟩
  · rw [same]
  · simp [held, moving]

/-- A group's start leaves a dish's axes but for those it sends. -/
theorem abides_startGroup (b : Block) (d : DishId) (g : GroupId) (by_ : Option DishId) :
    b.Abides d (b.startGroup g by_) := by
  by_cases ready : ∃ x, b.group g = some x ∧ x.state = .starting ∧ b.allHeld g x = true
  · obtain ⟨x, found, starting, held⟩ := ready
    obtain ⟨m, sent⟩ := startGroup_sends b g by_ found starting held
    refine abides_trans (t := b.underWay g x) (abides_of_same rfl rfl rfl) ?_
    rw [sent]
    refine abides_trans (t := (b.underWay g x).sendAll g (x.nStar.getD 20) b.moveStart x.movers) ?_
      (abides_of_same (by simp) (by simp) (by simp))
    refine ⟨fun k => ?_, fun k => by simp only [Block.claim, sendAll_account], sendAll_ground.1⟩
    unfold Block.sendAll
    refine each_holds_mem (fun s => ((b.underWay g x).axis d k).SentFrom (s.axis d k)) _ _ ?_ _ (Or.inl rfl)
    intro m mem s h
    rw [axis_sendMover, axis_orderMoves]
    split
    · next own =>
      obtain ⟨rfl, -⟩ := own
      have both := List.all_eq_true.mp held m mem
      have rest : ((b.underWay g x).axis m.1 k).state = .held := by
        cases k <;> simp_all [Block.heldFor, Block.underWay]
      exact Or.inr ⟨rest, by simp, by simpa using sentFrom_need h⟩
    · exact h
  · rw [startGroup_waits by_ fun x found h => ready ⟨x, found, h⟩]
    exact abides_refl b d

/-- R29's table for one axis leaves the axes and claims of the other dishes. -/
theorem abides_holdAfterEnd (b : Block) (h : e ≠ d) (k : AxisKind) : b.Abides d (b.holdAfterEnd e k) := by
  refine ⟨fun j => Or.inl ?_, fun j => ?_, ground_holdAfterEnd ..⟩
  all_goals
    unfold Block.holdAfterEnd
    simp only []
    (repeat' split) <;> simp [needHold_eq, reduceToHold_eq, modAxis_eq, h]

/-- A member dropped leaves the axes and claims of the other dishes, but for those of a group it starts (R56, R60). -/
theorem abides_dropMember (b : Block) (h : e ≠ d) (g : GroupId) (r : DropReason) : b.Abides d (b.dropMember g e r) := by
  unfold Block.dropMember
  refine abides_trans ?_ (abides_startGroup ..)
  refine abides_trans (t := (b.modMember g e fun m => { m with state := .dropped, drop := some r }).holdBoth e) ?_
    (abides_of_same (by simp) (by simp) (by simp))
  exact abides_trans (abides_of_same (by simp) (by simp) (by simp))
    (abides_trans (abides_holdAfterEnd _ h .az) (abides_holdAfterEnd _ h .el))

end

/-! ### One member's delivery -/

section
variable (b : Block) (g : GroupId) (d e : DishId) (k j : AxisKind) (n : Need) (m : Member)

/-- A delivery acts on one axis and its claim alone. -/
theorem deliverNeed_kept : (b.deliverNeed d k n).1.Outer b ∧ (b.deliverNeed d k n).1.SameDishes b
    ∧ ∀ e j, ¬(d = e ∧ k = j) → (b.deliverNeed d k n).1.axis e j = b.axis e j
      ∧ (b.deliverNeed d k n).1.claim e j = b.claim e j := by
  cases refused : b.needRefused d k with
  | none =>
    obtain ⟨-, axis, outer, claims, dishes⟩ := deliverNeed_taken n refused
    exact ⟨outer, dishes, fun e j other => ⟨(axis e j).trans (if_neg other), by rw [claims.2]⟩⟩
  | some why =>
    rw [deliverNeed_refused n refused]
    split
    · exact ⟨(releaseClaim_kept b d k).1, (releaseClaim_kept b d k).2.2.1, fun e j other => ⟨by simp, by simp [other]⟩⟩
    · exact ⟨outer_of_beside rfl, ⟨rfl, rfl⟩, fun _ _ _ => ⟨rfl, rfl⟩⟩

/-- A delivery's answer is the axis's refusal. -/
theorem deliverNeed_answer : (b.deliverNeed d k n).2 = b.needRefused d k := by
  cases refused : b.needRefused d k with
  | none => exact (deliverNeed_taken n refused).1
  | some why => rw [deliverNeed_refused n refused]

/-- What an axis refuses is read from its own record, the locks and the latch. -/
theorem needRefused_same {b t : Block} {d : DishId} {k : AxisKind} (outer : t.Outer b)
    (axis : (t.axis d k).state = (b.axis d k).state) : t.needRefused d k = b.needRefused d k := by
  obtain ⟨-, -, -, -, -, -, site, -, -, -, -, -, -, -, -, -, -, locks, -⟩ := outer
  simp only [Block.needRefused, locks, site, axis]

theorem ground_of_outer {b t : Block} (outer : t.Outer b) : t.ground = b.ground := by
  obtain ⟨points, -, weather, heater, lockout, field, site, -⟩ := outer
  simp only [Block.ground, points, weather, heater, lockout, field, site]

/-- The share granted to a member's axis. -/
def Member.share (m : Member) (k : AxisKind) : Option Nat := m.grant.map fun sh => (sh.get k).claim

/-- One member's needs delivered, the member dropped where one is refused. -/
def Block.deliverMember (g : GroupId) (m : Member) (s : Block) : Block :=
  match m.grant with
  | some sh =>
    let r := s.deliverBoth m.dish (.group g) sh.az.claim sh.el.claim
    match r.2 with
    | some why => r.1.dropMember g m.dish why
    | none => r.1
  | none => s

theorem deliverGroup_eq {x : Group} (found : b.group g = some x) :
    b.deliverGroup g = b.each x.members fun m s => s.deliverMember g m := by
  unfold Block.deliverGroup
  rw [found]
  rfl

/-- Both needs of a dish delivered: the planner, the dishes, the ground and the other dishes' axes stand. -/
theorem deliverBoth_kept (who : Requester) (wa we : Nat) :
    let t := (b.deliverBoth d who wa we).1
    t.planner = b.planner ∧ t.dish = b.dish ∧ t.ground = b.ground
    ∧ ∀ e, d ≠ e → ∀ j, t.axis e j = b.axis e j ∧ t.claim e j = b.claim e j := by
  obtain ⟨az, azDish, azOther⟩ := deliverNeed_kept b d .az ⟨who, some wa⟩
  obtain ⟨el, elDish, elOther⟩ := deliverNeed_kept (b.deliverNeed d .az ⟨who, some wa⟩).1 d .el ⟨who, some we⟩
  have planner := el.2.1.trans az.2.1
  refine ⟨planner, elDish.2.trans azDish.2, (ground_of_outer el).trans (ground_of_outer az), fun e other j => ?_⟩
  obtain ⟨axis, claim⟩ := azOther e j fun h => other h.1
  obtain ⟨axis', claim'⟩ := elOther e j fun h => other h.1
  exact ⟨axis'.trans axis, claim'.trans claim⟩

/-- The answer to both needs of a dish: the first refusal. -/
theorem deliverBoth_answer (who : Requester) (wa we : Nat) :
    (b.deliverBoth d who wa we).2 = (b.needRefused d .az <|> b.needRefused d .el) := by
  obtain ⟨outer, -, other⟩ := deliverNeed_kept b d .az ⟨who, some wa⟩
  have el := needRefused_same outer (congrArg Axis.state (other d .el (by simp)).1)
  simp only [Block.deliverBoth, deliverNeed_answer, el]

/-- Both needs of a dish taken: each is on its axis, and the claims stand. -/
theorem deliverBoth_taken (who : Requester) (wa we : Nat) (az : b.needRefused d .az = none)
    (el : b.needRefused d .el = none) (k : AxisKind) :
    let t := (b.deliverBoth d who wa we).1
    t.axis d k = (b.axis d k).needing ⟨who, some (match k with | .az => wa | .el => we)⟩ ∧ t.claim d k = b.claim d k := by
  obtain ⟨-, axis, outer, claims, -⟩ := deliverNeed_taken ⟨who, some wa⟩ az
  have el' : (b.deliverNeed d .az ⟨who, some wa⟩).1.needRefused d .el = none :=
    (needRefused_same outer (by rw [axis, if_neg (by simp)])).trans el
  obtain ⟨-, axis', -, claims', -⟩ := deliverNeed_taken ⟨who, some we⟩ el'
  refine ⟨(axis' d k).trans ?_, by simp only [Block.deliverBoth, claims'.2, claims.2]⟩
  cases k <;> simp [axis]

end

end Sys2Proof.Machine
end

-- ==== A group's needs delivered (R55, R60) ====
section
/-! A member whose axis refuses is dropped for good; a member whose axes take its needs has them at the end. -/

open Sys2Proof

namespace Sys2Proof.Machine

/-! ### Rosters: what holds of a group's list of members -/

/-- A group's record is there and its list of members has a property. -/
def Block.Roster (g : GroupId) (P : List Member → Prop) (b : Block) : Prop := ∃ y, b.group g = some y ∧ P y.members

/-- The members of a dish changed in a list. -/
def changeOf (d : DishId) (f : Member → Member) (ms : List Member) : List Member :=
  ms.map fun m => if m.dish = d then f m else m

/-- A dish is on the list. -/
def Lists (d : DishId) (ms : List Member) : Prop := ∃ z ∈ ms, z.dish = d

/-- A dish is on the list, and dropped there for a reason. -/
def DropsOf (d : DishId) (why : DropReason) (ms : List Member) : Prop :=
  Lists d ms ∧ ∀ z ∈ ms, z.dish = d → z.state = .dropped ∧ z.drop = some why

section
variable {d e : DishId} {f : Member → Member} {ms : List Member} {why : DropReason}

theorem lists_changeOf (dish : ∀ m, (f m).dish = m.dish) (h : Lists d ms) : Lists d (changeOf e f ms) := by
  obtain ⟨z, mem, own⟩ := h
  refine ⟨_, List.mem_map_of_mem mem, ?_⟩
  split
  · rw [dish, own]
  · exact own

theorem dropsOf_changeOf_other (dish : ∀ m, (f m).dish = m.dish) (other : e ≠ d) (h : DropsOf d why ms) :
    DropsOf d why (changeOf e f ms) := by
  obtain ⟨listed, dropped⟩ := h
  refine ⟨lists_changeOf dish listed, fun w hw own => ?_⟩
  obtain ⟨v, hv, rfl⟩ := List.mem_map.mp hw
  by_cases same : v.dish = e
  · simp [same, dish, other] at own
  · simp only [same, if_false] at own ⊢
    exact dropped v hv own

theorem dropsOf_changeOf_own (h : Lists d ms) (why : DropReason) :
    DropsOf d why (changeOf d (fun m => { m with state := .dropped, drop := some why }) ms) := by
  refine ⟨lists_changeOf (fun _ => rfl) h, fun w hw own => ?_⟩
  obtain ⟨v, -, rfl⟩ := List.mem_map.mp hw
  by_cases same : v.dish = d <;> simp_all

end

section
variable {b t : Block} {g : GroupId} {d e : DishId} {why : DropReason} {P Q : List Member → Prop}

theorem roster_of_planner (h : b.Roster g P) (same : t.planner = b.planner) : t.Roster g P := by
  unfold Block.Roster Block.group
  rwa [same]

theorem roster_modMember (h : b.Roster g P) (f : Member → Member) (step : ∀ ms, P ms → Q (changeOf d f ms)) :
    (b.modMember g d f).Roster g Q := by
  obtain ⟨y, found, holds⟩ := h
  exact ⟨_, group_modMember_own found d f, step _ holds⟩

theorem group_endGroup_own {y : Group} (found : b.group g = some y) (st : GroupState) (r : Option EndReason)
    (by_ : Option DishId) : (b.endGroup g st r by_).group g
      = some { y with state := st, reason := r, finishOrder := some b.planner.finished } := by
  rw [group_endGroup, if_pos rfl, found, Option.map_some]

theorem roster_settleGroup (h : b.Roster g P) (d : DishId) : (b.settleGroup g d).Roster g P := by
  obtain ⟨y, found, holds⟩ := h
  unfold Block.settleGroup
  rw [found]
  simp only []
  split
  · exact ⟨_, group_endGroup_own found .., holds⟩
  · exact ⟨y, found, holds⟩

/-- Movers sent change their members' records alone. -/
theorem roster_sendAll {n start : Nat} {ms : List Mover}
    (step : ∀ m ∈ ms, ∀ l, P l → P (changeOf m.1 (fun z => { z with state := .moving }) l)) (h : b.Roster g P) :
    (b.sendAll g n start ms).Roster g P := by
  unfold Block.sendAll
  refine each_holds_mem (Block.Roster g P) _ _ ?_ b h
  rintro m mem s ⟨y, found, holds⟩
  by_cases moves : m.moves = true
  · exact ⟨_, group_sendMover_own found moves, step m mem _ holds⟩
  · exact ⟨y, (group_sendMover_stands moves).trans found, holds⟩

/-- A group's start changes the records of its movers alone. -/
theorem roster_startGroup (by_ : Option DishId) (h : b.Roster g P) (step : ∀ x, b.group g = some x → ∀ m ∈ x.movers,
    ∀ l, P l → P (changeOf m.1 (fun z => { z with state := .moving }) l)) : (b.startGroup g by_).Roster g P := by
  by_cases ready : ∃ x, b.group g = some x ∧ x.state = .starting ∧ b.allHeld g x = true
  · obtain ⟨x, found, starting, held⟩ := ready
    obtain ⟨m, sent⟩ := startGroup_sends b g by_ found starting held
    obtain ⟨y, found', holds⟩ := h
    obtain rfl : x = y := Option.some.inj (found.symm.trans found')
    rw [sent]
    have begun : (b.underWay g x).Roster g P := ⟨_, (group_setGroup ..).trans (if_pos rfl), holds⟩
    exact roster_of_planner (roster_sendAll (step x found) begun) (tellGroup_kept ..).2.2.2.1
  · rwa [startGroup_waits by_ fun x found h => ready ⟨x, found, h⟩]

/-- A dish dropped is no mover. -/
theorem mover_of_dropsOf {x : Group} (h : DropsOf d why x.members) {m : Mover} (mem : m ∈ x.movers) : m.1 ≠ d := by
  rintro rfl
  obtain ⟨z, hz, active, own, -⟩ := (mem_movers m).mp mem
  simp [Member.active, (h.2 z hz own).1] at active

theorem beside_holdBoth (b : Block) (d : DishId) : (b.holdBoth d).beside = b.beside :=
  (beside_holdAfterEnd _ d .el).trans (beside_holdAfterEnd b d .az)

/-- A member marked as dropped, its dish IDLE with its axes held. -/
def Block.letGo (g : GroupId) (d : DishId) (r : DropReason) (b : Block) : Block :=
  ((b.modMember g d fun m => { m with state := .dropped, drop := some r }).holdBoth d).setMode d .idle .group

theorem dropMember_eq (b : Block) (g : GroupId) (d : DishId) (r : DropReason) :
    b.dropMember g d r = ((b.letGo g d r).settleGroup g d).startGroup g (some d) := rfl

theorem roster_letGo {r : DropReason} (h : b.Roster g P)
    (step : ∀ ms, P ms → Q (changeOf d (fun m => { m with state := .dropped, drop := some r }) ms)) :
    (b.letGo g d r).Roster g Q := by
  refine roster_of_planner (roster_modMember h _ step) ?_
  unfold Block.letGo
  rw [(setMode_kept ..).2.2.1, (records_of_beside (beside_holdBoth ..)).1]

/-- A drop leaves who is on the list. -/
theorem lists_dropMember (h : b.Roster g (Lists d)) (e : DishId) (r : DropReason) :
    (b.dropMember g e r).Roster g (Lists d) := by
  have left : (b.letGo g e r).Roster g (Lists d) := roster_letGo h fun ms listed => lists_changeOf (fun _ => rfl) listed
  rw [dropMember_eq]
  exact roster_startGroup _ (roster_settleGroup left e) fun _ _ _ _ l listed => lists_changeOf (fun _ => rfl) listed

/-- A group's start leaves the dishes dropped. -/
theorem dropsOf_startGroup (by_ : Option DishId) (h : b.Roster g (DropsOf d why)) :
    (b.startGroup g by_).Roster g (DropsOf d why) := by
  refine roster_startGroup _ h fun x found m mem l dropped => ?_
  obtain ⟨y, found', marked⟩ := h
  obtain rfl : x = y := Option.some.inj (found.symm.trans found')
  exact dropsOf_changeOf_other (fun _ => rfl) (mover_of_dropsOf marked mem) dropped

theorem dropsOf_letGo (h : b.Roster g (Lists d)) (why : DropReason) : (b.letGo g d why).Roster g (DropsOf d why) :=
  roster_letGo h fun _ listed => dropsOf_changeOf_own listed why

theorem dropsOf_letGo_other (h : b.Roster g (DropsOf d why)) (other : e ≠ d) (r : DropReason) :
    (b.letGo g e r).Roster g (DropsOf d why) :=
  roster_letGo h fun _ dropped => dropsOf_changeOf_other (fun _ => rfl) other dropped

/-- A drop settles its own dish's records. -/
theorem dropsOf_dropMember (h : b.Roster g (Lists d)) (why : DropReason) :
    (b.dropMember g d why).Roster g (DropsOf d why) := by
  rw [dropMember_eq]
  exact dropsOf_startGroup _ (roster_settleGroup (dropsOf_letGo h why) d)

/-- A drop of another dish leaves the dishes dropped. -/
theorem dropsOf_dropMember_other (h : b.Roster g (DropsOf d why)) (other : e ≠ d) (r : DropReason) :
    (b.dropMember g e r).Roster g (DropsOf d why) := by
  rw [dropMember_eq]
  exact dropsOf_startGroup _ (roster_settleGroup (dropsOf_letGo_other h other r) e)

/-! ### Modes -/

/-- A group settled leaves the dishes' modes. -/
theorem mode_settleGroup (b : Block) (g : GroupId) (d e : DishId) :
    ((b.settleGroup g e).dish d).mode = (b.dish d).mode := by
  unfold Block.settleGroup
  split
  · split
    · exact (congrArg Dish.mode (dish_endGroup ..) :)
    · rfl
  · rfl

/-- A group's start leaves the modes of the dishes dropped. -/
theorem mode_startGroup (by_ : Option DishId) (h : b.Roster g (DropsOf d why)) :
    ((b.startGroup g by_).dish d).mode = (b.dish d).mode := by
  by_cases ready : ∃ x, b.group g = some x ∧ x.state = .starting ∧ b.allHeld g x = true
  · obtain ⟨x, found, starting, held⟩ := ready
    obtain ⟨m, sent⟩ := startGroup_sends b g by_ found starting held
    obtain ⟨y, found', marked⟩ := h
    obtain rfl : x = y := Option.some.inj (found.symm.trans found')
    rw [sent, (sameDishes_of_dishes (tellGroup_kept ..).2.2.1).2, (sendAll_other d fun m mem =>
      mover_of_dropsOf marked mem).1]
    rfl
  · rw [startGroup_waits by_ fun x found h => ready ⟨x, found, h⟩]

theorem mode_letGo (b : Block) (g : GroupId) (d e : DishId) (r : DropReason) :
    ((b.letGo g e r).dish d).mode = if e = d then .idle else (b.dish d).mode := by
  unfold Block.letGo
  rw [dish_setMode]
  split
  · rfl
  · have same := dish_of_beside (beside_holdBoth (b.modMember g e fun m => { m with state := .dropped, drop := some r }) e) d
    rw [(sameDishes_of_dishes (modMember_kept ..).2.2.1).2] at same
    exact (congrArg Dish.mode same :)

/-- A member dropped: its dish is IDLE. -/
theorem mode_dropMember (h : b.Roster g (Lists d)) (why : DropReason) :
    ((b.dropMember g d why).dish d).mode = .idle := by
  rw [dropMember_eq, mode_startGroup _ (roster_settleGroup (dropsOf_letGo h why) d), mode_settleGroup, mode_letGo, if_pos rfl]

/-- A member dropped leaves the modes of the dishes dropped before. -/
theorem mode_dropMember_other (h : b.Roster g (DropsOf d why)) (other : e ≠ d) (r : DropReason) :
    ((b.dropMember g e r).dish d).mode = (b.dish d).mode := by
  rw [dropMember_eq, mode_startGroup _ (roster_settleGroup (dropsOf_letGo_other h other r) e), mode_settleGroup,
    mode_letGo, if_neg other]

end

/-! ### The deliveries in turn -/

section
variable {b : Block} {g : GroupId} {x : Group}

/-- A member not refused keeps the planner. -/
theorem deliverMember_taken {m : Member} (az : b.needRefused m.dish .az = none) (el : b.needRefused m.dish .el = none) :
    b.deliverMember g m = match m.grant with
      | some sh => (b.deliverBoth m.dish (.group g) sh.az.claim sh.el.claim).1
      | none => b := by
  unfold Block.deliverMember
  cases m.grant with
  | none => rfl
  | some sh =>
    simp only [deliverBoth_answer, az, el]
    rfl

/-- A member refused is dropped. -/
theorem deliverMember_refused {m : Member} {sh : PerAxis Share} (grant : m.grant = some sh) {why : DropReason}
    (h : (b.needRefused m.dish .az <|> b.needRefused m.dish .el) = some why) : b.deliverMember g m
      = (b.deliverBoth m.dish (.group g) sh.az.claim sh.el.claim).1.dropMember g m.dish why := by
  unfold Block.deliverMember
  simp only [grant, deliverBoth_answer, h]

/-- A member's delivery is both needs delivered, and the member dropped where one is refused. -/
theorem deliverMember_cases (b : Block) (g : GroupId) (m : Member) : b.deliverMember g m = b
    ∨ ∃ t, t.planner = b.planner ∧ t.dish = b.dish ∧ (∀ d, m.dish ≠ d → b.Abides d t)
      ∧ (b.deliverMember g m = t ∨ ∃ why, b.deliverMember g m = t.dropMember g m.dish why) := by
  unfold Block.deliverMember
  split
  · next sh _ =>
    obtain ⟨planner, dish, ground, others⟩ := deliverBoth_kept b m.dish (.group g) sh.az.claim sh.el.claim
    refine Or.inr ⟨_, planner, dish, fun d other => ⟨fun k => Or.inl (others d other k).1, fun k => (others d other k).2,
      ground⟩, ?_⟩
    simp only []
    split
    · next why _ => exact Or.inr ⟨why, rfl⟩
    · exact Or.inl rfl
  · exact Or.inl rfl

/-- A member's delivery leaves the axes and claims of the other dishes, but for those of a group it starts. -/
theorem abides_deliverMember (b : Block) (g : GroupId) (m : Member) {d : DishId} (other : m.dish ≠ d) :
    b.Abides d (b.deliverMember g m) := by
  rcases deliverMember_cases b g m with same | ⟨t, -, -, abides, same | ⟨why, same⟩⟩
  · rw [same]
    exact abides_refl b d
  · rw [same]
    exact abides d other
  · rw [same]
    exact abides_trans (abides d other) (abides_dropMember t other g why)

theorem lists_deliverMember {d : DishId} (h : b.Roster g (Lists d)) (m : Member) :
    (b.deliverMember g m).Roster g (Lists d) := by
  rcases deliverMember_cases b g m with same | ⟨t, planner, -, -, same | ⟨why, same⟩⟩
  · rwa [same]
  · rw [same]
    exact roster_of_planner h planner
  · rw [same]
    exact lists_dropMember (roster_of_planner h planner) _ _

/-- A dish IDLE and dropped stays so through the deliveries to others. -/
theorem fallen_deliverMember {d : DishId} {why : DropReason} (m : Member) (other : m.dish ≠ d)
    (h : b.Roster g (DropsOf d why) ∧ (b.dish d).mode = .idle) :
    (b.deliverMember g m).Roster g (DropsOf d why) ∧ ((b.deliverMember g m).dish d).mode = .idle := by
  obtain ⟨dropped, mode⟩ := h
  rcases deliverMember_cases b g m with same | ⟨t, planner, dish, -, same | ⟨r, same⟩⟩
  · rw [same]
    exact ⟨dropped, mode⟩
  · rw [same]
    exact ⟨roster_of_planner dropped planner, by rw [dish, mode]⟩
  · have before := roster_of_planner dropped planner
    rw [same]
    exact ⟨dropsOf_dropMember_other before other r, by rw [mode_dropMember_other before other, dish, mode]⟩

/-- What a dish has once its needs are taken. -/
structure Block.Granted (b : Block) (g : GroupId) (d : DishId) (sh : PerAxis Share) (t : Block) : Prop where
  need : ∀ k, (t.axis d k).need = some ⟨.group g, some (sh.get k).claim⟩
  claim : ∀ k, t.claim d k = b.claim d k
  braked : ∀ k, (b.axis d k).state = .braked → (t.axis d k).state = .braked ∧ (t.axis d k).stage = .beacon
  stopping : ∀ k, (b.axis d k).state = .stopping → (t.axis d k).state = .stopping ∧ (t.axis d k).intent = .hold

theorem granted_abides {t u : Block} {d : DishId} {sh : PerAxis Share} (h : b.Granted g d sh t) (still : t.Abides d u) :
    b.Granted g d sh u := by
  obtain ⟨need, claim, braked, stopping⟩ := h
  refine ⟨fun k => (sentFrom_need (still.axis k)).trans (need k), fun k => (still.claim k).trans (claim k),
    fun k rest => ?_, fun k halt => ?_⟩
  · obtain ⟨state, stage⟩ := braked k rest
    rw [sentFrom_resting (still.axis k) (by simp [state])]
    exact ⟨state, stage⟩
  · obtain ⟨state, intent⟩ := stopping k halt
    rw [sentFrom_resting (still.axis k) (by simp [state])]
    exact ⟨state, intent⟩

/-- The needs of a dish that abides taken. -/
theorem granted_deliverBoth {t : Block} {d : DishId} (abides : b.Abides d t) (az : b.needRefused d .az = none)
    (el : b.needRefused d .el = none) (sh : PerAxis Share) :
    b.Granted g d sh (t.deliverBoth d (.group g) sh.az.claim sh.el.claim).1 := by
  have taken := deliverBoth_taken t d (.group g) sh.az.claim sh.el.claim
    ((needRefused_abides abides .az).trans az) ((needRefused_abides abides .el).trans el)
  have same (k) (rest : (b.axis d k).state ≠ .held) := sentFrom_resting (abides.axis k) rest
  refine ⟨fun k => ?_, fun k => (taken k).2.trans (abides.claim k), fun k rest => ?_, fun k halt => ?_⟩
  · rw [(taken k).1]
    cases k <;> rfl
  · rw [(taken k).1, same k (by simp [rest])]
    simp [Axis.needing, rest]
  · rw [(taken k).1, same k (by simp [halt])]
    simp [Axis.needing, halt]

/-- A member whose axes take its needs has them when all are delivered. -/
theorem granted_deliverGroup (found : b.group g = some x) (apart : (x.members.map (·.dish)).Nodup) {m : Member}
    (mem : m ∈ x.members) {sh : PerAxis Share} (grant : m.grant = some sh) (az : b.needRefused m.dish .az = none)
    (el : b.needRefused m.dish .el = none) : b.Granted g m.dish sh (b.deliverGroup g) := by
  rw [deliverGroup_eq b g found]
  refine each_once Member.dish (b.Abides m.dish) (b.Granted g m.dish sh) _ m ?_ ?_ ?_ _ apart mem b (abides_refl b _)
  · exact fun y s other abides => abides_trans abides (abides_deliverMember s g y other)
  · intro s abides
    rw [deliverMember_taken ((needRefused_abides abides .az).trans az) ((needRefused_abides abides .el).trans el), grant]
    exact granted_deliverBoth abides az el sh
  · exact fun y s other granted => granted_abides granted (abides_deliverMember s g y other)

/-- A member an axis of which refuses is dropped when all are delivered. -/
theorem fallen_deliverGroup (found : b.group g = some x) (apart : (x.members.map (·.dish)).Nodup) {m : Member}
    (mem : m ∈ x.members) {sh : PerAxis Share} (grant : m.grant = some sh) {why : DropReason}
    (h : (b.needRefused m.dish .az <|> b.needRefused m.dish .el) = some why) :
    (b.deliverGroup g).Roster g (DropsOf m.dish why) ∧ ((b.deliverGroup g).dish m.dish).mode = .idle := by
  rw [deliverGroup_eq b g found]
  refine each_once Member.dish (fun s => b.Abides m.dish s ∧ s.Roster g (Lists m.dish))
    (fun s => s.Roster g (DropsOf m.dish why) ∧ (s.dish m.dish).mode = .idle) _ m ?_ ?_ ?_ _ apart mem b
    ⟨abides_refl b _, x, found, m, mem, rfl⟩
  · rintro y s other ⟨abides, listed⟩
    exact ⟨abides_trans abides (abides_deliverMember s g y other), lists_deliverMember listed y⟩
  · rintro s ⟨abides, listed⟩
    have refused : (s.needRefused m.dish .az <|> s.needRefused m.dish .el) = some why := by
      rw [needRefused_abides abides, needRefused_abides abides, h]
    rw [deliverMember_refused grant refused]
    have before := roster_of_planner listed (deliverBoth_kept s m.dish (.group g) sh.az.claim sh.el.claim).1
    exact ⟨dropsOf_dropMember before why, mode_dropMember before why⟩
  · exact fun y s other fallen => fallen_deliverMember y other fallen

/-- Where no axis refuses, the group stands. -/
theorem group_deliverGroup (found : b.group g = some x) (h : ∀ m ∈ x.members, ∀ k, b.needRefused m.dish k = none) :
    (b.deliverGroup g).group g = some x := by
  rw [deliverGroup_eq b g found]
  refine (each_holds_mem (fun s => s.group g = some x ∧ ∀ d k, s.needRefused d k = b.needRefused d k) _ _ ?_ b
    ⟨found, fun _ _ => rfl⟩).1
  rintro m mem s ⟨group, same⟩
  have az := (same m.dish .az).trans (h m mem .az)
  have el := (same m.dish .el).trans (h m mem .el)
  rw [deliverMember_taken az el]
  split
  · next sh _ =>
    obtain ⟨planner, -, ground, others⟩ := deliverBoth_kept s m.dish (.group g) sh.az.claim sh.el.claim
    refine ⟨by rw [← group]; simp only [Block.group, planner], fun d k => ?_⟩
    obtain ⟨-, -, -, -, -, site, -, -, -, -, -, -, -, -, locks, -⟩ := sameGround_of_ground ground
    rw [← same d k]
    simp only [Block.needRefused, locks, site]
    by_cases own : m.dish = d
    · subst own
      rw [(deliverBoth_taken s m.dish (.group g) sh.az.claim sh.el.claim az el k).1]
      rfl
    · rw [(others d own k).1]
  · exact ⟨group, same⟩

end

section
variable (b : Block) (g : GroupId) (x : Group)

/-- The deliveries of a group's needs. -/
theorem deliverGroup_row (found : b.group g = some x) :
    let t := b.deliverGroup g
    let one := fun (u : Block) (m : Member) => match m.grant with
      | none => u
      | some sh =>
        let az := u.deliverNeed m.dish .az ⟨.group g, some sh.az.claim⟩
        let el := az.1.deliverNeed m.dish .el ⟨.group g, some sh.el.claim⟩
        match az.2, el.2 with
        | some why, _ | none, some why => el.1.dropMember g m.dish why
        | none, none => el.1
    t = x.members.foldl one b
    ∧ (x.state = .starting → (x.members.map (·.dish)).Nodup → ∀ m ∈ x.members, ∀ sh, m.grant = some sh →
      (∀ why, b.needRefused m.dish .az = some why
          ∨ (b.needRefused m.dish .az = none ∧ b.needRefused m.dish .el = some why) →
        (t.dish m.dish).mode = .idle
        ∧ ∃ y, t.group g = some y ∧ ∃ z ∈ y.members, z.dish = m.dish ∧ z.state = .dropped ∧ z.drop = some why)
      ∧ (b.needRefused m.dish .az = none → b.needRefused m.dish .el = none → ∀ k,
        (t.axis m.dish k).need = some ⟨.group g, some (sh.get k).claim⟩ ∧ t.claim m.dish k = b.claim m.dish k
        ∧ ((b.axis m.dish k).state = .braked → (t.axis m.dish k).state = .braked ∧ (t.axis m.dish k).stage = .beacon)
        ∧ ((b.axis m.dish k).state = .stopping → (t.axis m.dish k).state = .stopping
          ∧ (t.axis m.dish k).intent = .hold)))
    ∧ ((∀ m ∈ x.members, ∀ k, b.needRefused m.dish k = none) → t.group g = some x) := by
  intro t one
  refine ⟨?_, fun _ apart m mem sh grant => ⟨fun why refused => ?_, fun az el k => ?_⟩, group_deliverGroup found⟩
  · have step (u : Block) (m : Member) : u.deliverMember g m = one u m := by
      unfold Block.deliverMember
      cases grant : m.grant with
      | none => simp only [one, grant]
      | some sh =>
        simp only [one, grant, Block.deliverBoth]
        cases (u.deliverNeed m.dish .az ⟨.group g, some sh.az.claim⟩).2 with
        | some why => rfl
        | none => cases ((u.deliverNeed m.dish .az ⟨.group g, some sh.az.claim⟩).1.deliverNeed m.dish .el
            ⟨.group g, some sh.el.claim⟩).2 <;> rfl
    rw [show t = _ from deliverGroup_eq b g found]
    unfold Block.each
    simp only [step]
  · have first : (b.needRefused m.dish .az <|> b.needRefused m.dish .el) = some why := by
      rcases refused with az | ⟨az, el⟩ <;> simp [*]
    obtain ⟨⟨y, group, ⟨z, hz, own⟩, dropped⟩, mode⟩ := fallen_deliverGroup found apart mem grant first
    exact ⟨mode, y, group, z, hz, own, dropped z hz own⟩
  · obtain ⟨need, claim, braked, stopping⟩ := granted_deliverGroup found apart mem grant az el
    exact ⟨need k, claim k, braked k, stopping k⟩

end

end Sys2Proof.Machine
end

-- ==== A group asks for its power (R47, R53, R55) ====
section
/-! A grant touches claims and heat only; the group's figures stand through the deliveries; so a START_GROUP granted at once
answers with the plan's duration and the granted one. -/

open Sys2Proof

namespace Sys2Proof.Machine

section
variable (b : Block)

/-! ### What a grant leaves -/

@[simp] theorem zoneless_cutZone (d : DishId) (z : ZoneKind) (n : Nat) : (b.cutZone d z n).1.zoneless = b.zoneless := by
  unfold Block.cutZone Block.setDuty Block.deriveZone
  simp only [modZone_eq]
  split <;> simp

@[simp] theorem zoneless_curtail (n : Nat) : (b.curtail n).zoneless = b.zoneless := by
  unfold Block.curtail
  generalize b.heater.serving.reverse = rs
  induction rs generalizing b n with
  | nil => rfl
  | cons r rs ih =>
    rw [List.foldl_cons]
    exact (ih (b.cutZone r.d r.z n).1 (b.cutZone r.d r.z n).2).trans (zoneless_cutZone ..)

/-- A grant leaves axes, dishes, planner, locks and site. -/
theorem grant_kept (ws : List Want) (c : ClaimClass) :
    let t := b.grant ws c
    t.axes = b.axes ∧ t.dishes = b.dishes ∧ t.planner = b.planner ∧ t.lockout = b.lockout ∧ t.site = b.site := by
  have one (w : Want) (s : Block) : let u := s.setClaim w.d w.k (some ⟨c, w.watts⟩)
      (u.axes, u.dishes, u.planner, u.lockout, u.site) = (s.axes, s.dishes, s.planner, s.lockout, s.site) := rfl
  have all := each_keeps (fun s : Block => (s.axes, s.dishes, s.planner, s.lockout, s.site)) ws _ one b
  have claimed : let u := (b.each ws fun w s => s.setClaim w.d w.k (some ⟨c, w.watts⟩)).followLag
      u.axes = b.axes ∧ u.dishes = b.dishes ∧ u.planner = b.planner ∧ u.lockout = b.lockout ∧ u.site = b.site := by
    simp only [followLag_kept]
    simpa only [Prod.mk.injEq] using all
  intro t
  obtain ⟨axes, dishes, planner, lockout, site⟩ := claimed
  unfold t Block.grant
  simp only []
  split
  · obtain ⟨axes', dishes', planner', -, -, lockout', -, site', -⟩ := sameButZones_of_zoneless (zoneless_curtail _ _)
    exact ⟨axes'.trans axes, dishes'.trans dishes, planner'.trans planner, lockout'.trans lockout, site'.trans site⟩
  · exact ⟨axes, dishes, planner, lockout, site⟩

variable {b} in
/-- The wants of a set of movers are read from the axes. -/
theorem wantsAt_of_axes {c : Block} (h : c.axes = b.axes) (ms : List Mover) (n : Nat) :
    c.wantsAt ms n = b.wantsAt ms n := by
  simp only [Block.wantsAt, Block.sharesAt, (sameAxes_of_axes h).2]

/-! ### A mode entered (R24) -/

/-- A mode entered: its record and its report. -/
theorem setMode_row (d : DishId) (m : Mode) (why : ModeCause) :
    let x := b.dish d
    let y := { x with
      mode := m
      blocks := if m = .stowBlocked then x.blocks else none
      intent := if m = .returning then x.intent else none
      dwell := if m = .shedDwell then x.dwell else .stopped }
    (x.mode = m → b.setMode d m why = b.setDish d y)
    ∧ (x.mode ≠ m → b.setMode d m why = (b.setDish d y).report .dishMode (dishNum d) [f1 m.ctorIdx]
        (some (f1 x.mode.ctorIdx)) (f1 why.ctorIdx :: match y.blocks with
          | some r => [f1 1, fb r.locked, fb r.estop, fb r.fault, fb r.offline]
          | none => [f1 0, f1 0, f1 0, f1 0, f1 0])) := by
  intro x y
  have set : b.setMode d m why = if x.mode = m then b.setDish d y else (b.setDish d y).report .dishMode (dishNum d)
      [f1 m.ctorIdx] (some (f1 x.mode.ctorIdx)) (f1 why.ctorIdx :: fopt y.blocks [1, 1, 1, 1] Blocks.fields) :=
    setMode_eq b d m why
  refine ⟨fun same => set.trans (if_pos same), fun other => set.trans ((if_neg other).trans ?_)⟩
  cases y.blocks <;> rfl

/-! ### Asking (R53) -/

variable {b} {g : GroupId} {x : Group} {ms : List Mover} {n0 limit : Nat}

/-- No examination is made where none is due. -/
theorem examine_id (quiet : b.account.examineDue = false) : b.examine = b := by
  unfold Block.examine Block.examineAll
  simp [quiet]

theorem askGroup_busy (quiet : b.account.examineDue = false) (full : 20 ≤ b.account.waitq.length) :
    b.askGroup g ms n0 limit = (b, .busy) := by
  simp [Block.askGroup, Block.askPlanned, examine_id quiet, Block.queueFull, full]

theorem askGroup_granted {k : Nat} (quiet : b.account.examineDue = false) (free : b.account.waitq = [])
    (calm : b.account.stowq = []) (fits : b.stretch ms n0 (max limit n0) = some k) : b.askGroup g ms n0 limit =
      (((b.grant (b.wantsAt ms k) .motion).recordPlan g ms n0).recordGrant g k (b.wantsAt ms k), .granted) := by
  have wants := wantsAt_of_axes (grant_kept b (b.wantsAt ms k) .motion).1 ms k
  simp [Block.askGroup, Block.askPlanned, examine_id quiet, Block.queueFull, Block.mustQueue, free, calm, fits, wants]

theorem askGroup_queued (quiet : b.account.examineDue = false) (room : b.account.waitq.length < 20)
    (waits : b.account.waitq ≠ [] ∨ b.account.stowq ≠ [] ∨ b.stretch ms n0 (max limit n0) = none) :
    b.askGroup g ms n0 limit
      = (((b.enqueue (.group g) (b.wantsAt ms (max limit n0))).recordPlan g ms n0).setGroupState g .waiting, .queued) := by
  have asked : (if b.mustQueue then none else b.stretch ms n0 (max limit n0)) = none := by
    rcases waits with h | h | h <;> simp [Block.mustQueue, h]
  simp [Block.askGroup, Block.askPlanned, examine_id quiet, Block.queueFull, Nat.not_le.mpr room, asked]

/-- Whether a group has a cold member. -/
theorem groupCold_iff : b.groupCold x = true ↔ ∃ m ∈ x.members, b.cold m.dish = true := by simp [Block.groupCold]

end

/-- A WARMING group planned anew (R48). -/
theorem replan_row (b : Block) (g : GroupId) :
    (b.group g = none → b.replan g = b)
    ∧ ∀ x, b.group g = some x →
      let cold := ∃ m ∈ x.members, b.cold m.dish = true
      (x.state ≠ .warming ∨ cold → b.replan g = b)
      ∧ (x.state = .warming → ¬cold →
        (b.planGroup x = none → b.replan g = b.abortGroup g .plan none)
        ∧ ∀ ms, b.planGroup x = some ms →
          let n0 := b.minDuration ms
          let limit := max x.limit n0
          (6000 < n0 → b.replan g = b.abortGroup g .plan none)
          ∧ (n0 ≤ 6000 → b.account.examineDue = false →
            (20 ≤ b.account.waitq.length → b.replan g = (b.recordPlan g ms n0).abortGroup g .busy none)
            ∧ (∀ k, b.account.waitq = [] → b.account.stowq = [] → b.stretch ms n0 limit = some k →
              b.replan g = (((b.grant (b.wantsAt ms k) .motion).recordPlan g ms n0).recordGrant g k (b.wantsAt ms k)
                ).deliverGroup g)
            ∧ (b.account.waitq.length < 20 →
              b.account.waitq ≠ [] ∨ b.account.stowq ≠ [] ∨ b.stretch ms n0 limit = none →
              b.replan g = ((b.enqueue (.group g) (b.wantsAt ms limit)).recordPlan g ms n0).setGroupState g .waiting))) := by
  refine ⟨fun h => by simp [Block.replan, h], fun x found => ⟨fun stays => ?_, fun warming warm => ?_⟩⟩
  · have still : ¬(x.state = .warming ∧ (!b.groupCold x) = true) := by
      rintro ⟨warming, warm⟩
      rcases stays with other | cold
      · exact other warming
      · simp [groupCold_iff.mpr cold] at warm
    simp only [Block.replan, found, if_neg still]
  · have warm' : b.groupCold x = false := by simpa using mt groupCold_iff.mp warm
    have go : b.replan g = match b.planGroup x with
        | none => b.abortGroup g .plan none
        | some ms => if 6000 < b.minDuration ms then b.abortGroup g .plan none
          else match (b.askGroup g ms (b.minDuration ms) x.limit).2 with
            | .busy => (b.recordPlan g ms (b.minDuration ms)).abortGroup g .busy none
            | .queued => (b.askGroup g ms (b.minDuration ms) x.limit).1
            | .granted => (b.askGroup g ms (b.minDuration ms) x.limit).1.deliverGroup g := by
      simp only [Block.replan, found, warming, warm']
      rfl
    refine ⟨fun unplanned => ?_, fun ms planned => ⟨fun long => ?_, fun short quiet => ⟨fun full => ?_,
      fun k free calm fits => ?_, fun room waits => ?_⟩⟩⟩
    · rw [go, unplanned]
    · rw [go, planned]
      exact if_pos long
    · simp only [go, planned, if_neg (Nat.not_lt.mpr short), askGroup_busy quiet full]
    · simp only [go, planned, if_neg (Nat.not_lt.mpr short), askGroup_granted quiet free calm fits]
    · simp only [go, planned, if_neg (Nat.not_lt.mpr short), askGroup_queued quiet room waits]

end Sys2Proof.Machine
end

-- ==== START_GROUP (R46 to R48, R53, R55) ====
section
/-! What START_GROUP answers, and the machine it leaves. -/

open Sys2Proof

namespace Sys2Proof.Machine

/-! ### The group's figures stand through the deliveries -/

/-- A group's plan duration and granted duration. -/
def Block.Figures (g : GroupId) (n0 nStar : Option Nat) (b : Block) : Prop :=
  ∃ y, b.group g = some y ∧ y.n0 = n0 ∧ y.nStar = nStar

section
variable {b t : Block} {g : GroupId} {n0 nStar : Option Nat}

theorem figures_of_planner (h : b.Figures g n0 nStar) (same : t.planner = b.planner) : t.Figures g n0 nStar := by
  unfold Block.Figures Block.group
  rwa [same]

theorem group_of_planner {t : Block} (h : t.planner = b.planner) : t.group g = b.group g := by
  simp only [Block.group, h]

theorem figures_letGo (h : b.Figures g n0 nStar) (d : DishId) (r : DropReason) : (b.letGo g d r).Figures g n0 nStar := by
  obtain ⟨y, found, figures⟩ := h
  refine figures_of_planner (b := b.modMember g d fun m => { m with state := .dropped, drop := some r })
    ⟨_, group_modMember_own found .., figures⟩ ?_
  unfold Block.letGo
  rw [(setMode_kept ..).2.2.1, (records_of_beside (beside_holdBoth ..)).1]

theorem figures_settleGroup (h : b.Figures g n0 nStar) (d : DishId) : (b.settleGroup g d).Figures g n0 nStar := by
  obtain ⟨y, found, figures⟩ := h
  unfold Block.settleGroup
  rw [found]
  simp only []
  split
  · exact ⟨_, group_endGroup_own found .., figures⟩
  · exact ⟨y, found, figures⟩

theorem figures_startGroup (h : b.Figures g n0 nStar) (by_ : Option DishId) :
    (b.startGroup g by_).Figures g n0 nStar := by
  by_cases ready : ∃ x, b.group g = some x ∧ x.state = .starting ∧ b.allHeld g x = true
  · obtain ⟨x, found, starting, held⟩ := ready
    obtain ⟨m, sent⟩ := startGroup_sends b g by_ found starting held
    obtain ⟨y, found', plan, granted⟩ := h
    obtain rfl : x = y := Option.some.inj (found.symm.trans found')
    have begun : (b.underWay g x).group g = some { x with state := .running, start := some b.moveStart } :=
      (group_setGroup ..).trans (if_pos rfl)
    obtain ⟨z, record, same⟩ := sendAll_record (n := x.nStar.getD 20) (start := b.moveStart) (ms := x.movers) begun
    rw [sent]
    refine figures_of_planner ⟨z, record, ?_, ?_⟩ (tellGroup_kept ..).2.2.2.1
    · exact (congrArg Group.n0 same :).trans plan
    · exact (congrArg Group.nStar same :).trans granted
  · rwa [startGroup_waits by_ fun x found h => ready ⟨x, found, h⟩]

theorem figures_dropMember (h : b.Figures g n0 nStar) (d : DishId) (r : DropReason) :
    (b.dropMember g d r).Figures g n0 nStar := by
  rw [dropMember_eq]
  exact figures_startGroup (figures_settleGroup (figures_letGo h d r) d) _

theorem figures_deliverGroup (h : b.Figures g n0 nStar) : (b.deliverGroup g).Figures g n0 nStar := by
  obtain ⟨x, found, -⟩ := id h
  rw [deliverGroup_eq b g found]
  refine each_holds (Block.Figures g n0 nStar) _ _ (fun m s hs => ?_) b h
  rcases deliverMember_cases s g m with same | ⟨t, planner, -, -, same | ⟨why, same⟩⟩
  · rwa [same]
  · rw [same]
    exact figures_of_planner hs planner
  · rw [same]
    exact figures_dropMember (figures_of_planner hs planner) _ _

end

/-! ### The records of the plan and of the grant -/

/-- A group as its plan is recorded. -/
def Group.planned (x : Group) (ms : List Mover) (n0 : Nat) : Group :=
  { x with
    n0 := some n0
    limit := max x.limit n0
    members := x.members.map fun m => { m with plan := (ms.find? fun p => p.1 == m.dish).map (·.2) } }

section
variable {b : Block} {g : GroupId} {x : Group}

theorem recordPlan_eq (found : b.group g = some x) (ms : List Mover) (n0 : Nat) :
    b.recordPlan g ms n0 = b.setGroup g (some (x.planned ms n0)) := by
  simp only [Block.recordPlan, Block.modGroup, found, Option.map_some]
  rfl

theorem group_recordPlan (found : b.group g = some x) (ms : List Mover) (n0 : Nat) :
    (b.recordPlan g ms n0).group g = some (x.planned ms n0) := by
  rw [recordPlan_eq found, group_setGroup, if_pos rfl]

theorem group_setGroupState (found : b.group g = some x) (st : GroupState) :
    (b.setGroupState g st).group g = some { x with state := st } := by
  simp [Block.setGroupState, Block.modGroup, found]

/-- A recorded grant leaves the group STARTING with the duration granted, its members the same dishes. -/
theorem group_recordGrant (found : b.group g = some x) (n : Nat) (ws : List Want) :
    ∃ ms, (b.recordGrant g n ws).group g
        = some { x with state := .starting, nStar := some n, total := some (total ws), members := ms }
      ∧ ms.map (·.dish) = x.members.map (·.dish) := by
  refine ⟨x.members.map fun m => match m.plan with
    | some p => { m with grant := some (b.sharesUnder (m.dish, p) n ws) }
    | none => m, ?_, ?_⟩
  · unfold Block.recordGrant
    rw [found]
    exact (group_tellGroup ..).trans ((group_setGroup ..).trans (if_pos rfl))
  · rw [List.map_map]
    refine List.map_congr_left fun m _ => ?_
    simp only [Function.comp_apply]
    split <;> rfl

/-- The record of the plan and that of the grant leave axes, locks and site. -/
theorem recordGrant_kept (b : Block) (g : GroupId) (ms : List Mover) (n0 n : Nat) (ws : List Want) :
    let t := (b.recordPlan g ms n0).recordGrant g n ws
    t.axes = b.axes ∧ t.ground = b.ground := by
  unfold Block.recordGrant
  simp only []
  split
  · exact ⟨rfl, rfl⟩
  · rw [(tellGroup_kept ..).1, (tellGroup_kept ..).2.2.2.2]
    exact ⟨rfl, rfl⟩

end

/-! ### What the owner answers -/

section
variable {b : Block} {g : GroupId} {x : Group} {ms : List Mover} {n0 : Nat}

/-- A reply tells the group's state, its plan's duration and the one granted. -/
theorem startReply_granted {t : Block} {y : Group} {n : Nat} (code : Code) (found : t.group g = some y)
    (plan : y.n0 = some n0) (granted : y.nStar = some n) :
    t.startReply g code = reply t code [f1 y.state.ctorIdx, f2 n0, f1 1, f2 n] := by
  simp only [Block.startReply, found, plan, granted]
  rfl

theorem startReply_waiting {t : Block} {y : Group} (code : Code) (found : t.group g = some y) (plan : y.n0 = some n0)
    (granted : y.nStar = none) : t.startReply g code = reply t code [f1 y.state.ctorIdx, f2 n0, f1 0, f2 0] := by
  simp only [Block.startReply, found, plan, granted]
  rfl

/-- The group's record after its members are handed over. -/
theorem group_handMembers (b : Block) (g e : GroupId) (x : Group) : (b.handMembers g x).group e = b.group e := by
  simp only [Block.group, (handMembers_kept b g x).2.1]

/-- A group sent to WARMING. -/
theorem startWarming_reply (found : b.group g = some x) (ungranted : x.nStar = none) :
    (b.startWarming g x ms n0).startReply g .ok
      = reply (((b.recordPlan g ms n0).setGroupState g .warming).handMembers g x) .ok
          [f1 GroupState.warming.ctorIdx, f2 n0, f1 0, f2 0] :=
  startReply_waiting .ok ((group_handMembers ..).trans (group_setGroupState (group_recordPlan found ms n0) .warming))
    rfl ungranted

theorem startAsking_busy (quiet : b.account.examineDue = false) (full : 20 ≤ b.account.waitq.length) :
    b.startAsking g x ms n0 = refuse b .busy := by
  simp only [Block.startAsking, askGroup_busy quiet full]

theorem startAsking_queued (found : b.group g = some x) (ungranted : x.nStar = none)
    (quiet : b.account.examineDue = false) (room : b.account.waitq.length < 20)
    (waits : b.account.waitq ≠ [] ∨ b.account.stowq ≠ [] ∨ b.stretch ms n0 (max x.limit n0) = none) :
    b.startAsking g x ms n0
      = reply ((((b.enqueue (.group g) (b.wantsAt ms (max x.limit n0))).recordPlan g ms n0).setGroupState g .waiting
          ).handMembers g x) .queued [f1 GroupState.waiting.ctorIdx, f2 n0, f1 0, f2 0] := by
  have queued : (b.enqueue (.group g) (b.wantsAt ms (max x.limit n0))).group g = some x := by
    rw [← found]
    unfold Block.enqueue
    simp only []
    split <;> rfl
  simp only [Block.startAsking, askGroup_queued quiet room waits]
  exact startReply_waiting .queued ((group_handMembers ..).trans (group_setGroupState (group_recordPlan queued ms n0)
    .waiting)) rfl ungranted

/-- What a group's start checks says of its axes: none refuses a need but one that is LOCKED. -/
theorem unrefused_of_startRefused (passed : b.startRefused x = none) {m : Member} (mem : m ∈ x.members) (k : AxisKind)
    (free : (b.axis m.dish k).state ≠ .locked) : b.needRefused m.dish k = none := by
  unfold Block.startRefused at passed
  repeat' split at passed
  all_goals try exact absurd passed (Option.some_ne_none _)
  next clear _ unlocked able =>
    simp only [List.any_eq_true, not_exists, not_and, Bool.or_eq_true, not_or] at unlocked able
    have unlocked := unlocked m mem
    obtain ⟨fit, -⟩ := able m mem
    rw [needRefused_none]
    cases k <;> simp_all [Block.dishLocked, Block.outOfService, Block.blockReasons]

theorem state_handed (a : Axis) (g : GroupId) : (a.handed g).state = if a.state = .moving then .stopping else a.state := by
  unfold Axis.handed
  split <;> simp [*]

/-- A need is refused after the handing of the members only where it was before. -/
theorem unrefused_handMembers {t : Block} (axes : t.axes = b.axes) (lockout : t.lockout = b.lockout)
    (site : t.site = b.site) (d : DishId) (k : AxisKind) (taken : b.needRefused d k = none) :
    (t.handMembers g x).needRefused d k = none := by
  obtain ⟨unlocked, clear, off, fit, free⟩ := needRefused_none.mp taken
  obtain ⟨-, -, ground⟩ := handMembers_kept t g x
  obtain ⟨-, -, -, -, -, site', -, -, -, -, -, -, -, -, locks', -⟩ := sameGround_of_ground ground
  have locks : t.axisLocks d k = b.axisLocks d k := by simp only [Block.axisLocks, lockout]
  refine needRefused_none.mpr ⟨by rw [locks', locks, unlocked], by rw [site', site, clear], ?_⟩
  rw [handMembers_eq]
  refine each_holds (fun s => (s.axis d k).state ≠ .offline ∧ (s.axis d k).state ≠ .faulted
    ∧ (s.axis d k).state ≠ .locked) _ _ (fun e s able => ?_) t (by rw [(sameAxes_of_axes axes).2]; exact ⟨off, fit, free⟩)
  by_cases same : e = d
  · subst same
    obtain ⟨-, -, -, -, axis⟩ := handDish_own s g e
    rw [axis, state_handed]
    split
    · simp
    · exact able
  · rwa [(handDish_other s g e d k same).2]

/-- A group granted at once: STARTING unless a member is dropped, with the plan's duration and the one granted. -/
theorem startAsking_granted {k : Nat} (found : b.group g = some x) (passed : b.startRefused x = none)
    (quiet : b.account.examineDue = false) (free : b.account.waitq = []) (calm : b.account.stowq = [])
    (fits : b.stretch ms n0 (max x.limit n0) = some k) :
    let granted := ((b.grant (b.wantsAt ms k) .motion).recordPlan g ms n0).recordGrant g k (b.wantsAt ms k)
    let u := (granted.handMembers g x).deliverGroup g
    ∃ y, u.group g = some y ∧ b.startAsking g x ms n0 = reply u .ok [f1 y.state.ctorIdx, f2 n0, f1 1, f2 k]
      ∧ ((∀ m ∈ x.members, ∀ j, (b.axis m.dish j).state ≠ .locked) → y.state = .starting) := by
  intro granted u
  obtain ⟨axes, -, planner, lockout, site⟩ := grant_kept b (b.wantsAt ms k) .motion
  obtain ⟨axes', ground'⟩ := recordGrant_kept (b.grant (b.wantsAt ms k) .motion) g ms n0 k (b.wantsAt ms k)
  obtain ⟨-, -, -, lockout', -, site', -⟩ := sameGround_of_ground ground'
  have group : (b.grant (b.wantsAt ms k) .motion).group g = some x := (group_of_planner planner).trans found
  obtain ⟨members, recorded, dishes⟩ := group_recordGrant (group_recordPlan group ms n0) k (b.wantsAt ms k)
  have handed : (granted.handMembers g x).group g = _ := (group_handMembers ..).trans recorded
  obtain ⟨y, delivered, plan, duration⟩ := figures_deliverGroup (n0 := some n0) (nStar := some k) ⟨_, handed, rfl, rfl⟩
  refine ⟨y, delivered, ?_, fun unlocked => ?_⟩
  · simp only [Block.startAsking, askGroup_granted quiet free calm fits]
    exact startReply_granted .ok delivered plan duration
  · have able : ∀ m ∈ members, ∀ j, (granted.handMembers g x).needRefused m.dish j = none := by
      intro m mem j
      obtain ⟨z, hz, same⟩ : ∃ z ∈ x.members, z.dish = m.dish := by
        have listed : m.dish ∈ (x.planned ms n0).members.map (·.dish) := dishes ▸ List.mem_map_of_mem mem
        simpa [Group.planned] using listed
      rw [← same]
      exact unrefused_handMembers (axes'.trans axes) (lockout'.trans lockout) (site'.trans site) _ _
        (unrefused_of_startRefused passed hz j (unlocked z hz j))
    have stands := group_deliverGroup handed able
    exact congrArg Group.state (Option.some.inj (delivered.symm.trans stands))

end

end Sys2Proof.Machine
end

-- ==== O46: START_GROUP and the start of a group ====
section
/-! START_GROUP's answers, then the obligation from its parts. -/

open Sys2Proof

namespace Sys2Proof.Machine

section
variable {s : State} {tag : Tag} {n : Nat}

theorem useGroup_bad {b : Block} (bad : groupOf n = none) : b.useGroup n = .error .badValue := by
  simp only [Block.useGroup, bad]

theorem useGroup_empty {b : Block} {g : GroupId} (slot : groupOf n = some g) (empty : b.group g = none) :
    b.useGroup n = .error .noSuch := by
  simp only [Block.useGroup, slot, empty]

theorem useGroup_found {b : Block} {g : GroupId} {x : Group} (slot : groupOf n = some g) (found : b.group g = some x) :
    b.useGroup n = .ok (g, x) := by
  simp only [Block.useGroup, slot, found]

/-- START_GROUP without a group it may start. -/
theorem ownStartGroup_unfound {b : Block} {code : Code} (h : b.useGroup n = .error code) :
    ownStartGroup n b = refuse b code := by
  simp only [ownStartGroup, h]

theorem ownStartGroup_refused {b : Block} {g : GroupId} {x : Group} {code : Code} (slot : groupOf n = some g)
    (found : b.group g = some x) (refused : b.startRefused x = some code) : ownStartGroup n b = refuse b code := by
  simp only [ownStartGroup, useGroup_found slot found, refused]

/-- START_GROUP on a group, once its checks pass and its members fit. -/
theorem ownStartGroup_planned {b : Block} {g : GroupId} {x : Group} {ms : List Mover} (slot : groupOf n = some g)
    (found : b.group g = some x) (passed : b.startRefused x = none) (planned : b.planGroup x = some ms) :
    ownStartGroup n b = b.startPlanned g x ms := by
  simp only [ownStartGroup, useGroup_found slot found, passed, planned]

/-- START_GROUP on a group a member of which does not fit. -/
theorem ownStartGroup_misfit {b : Block} {g : GroupId} {x : Group} (slot : groupOf n = some g)
    (found : b.group g = some x) (passed : b.startRefused x = none) (unplanned : b.planGroup x = none) :
    ownStartGroup n b = reply b .badValue ((b.misfit x).toList.map fun d => f1 (dishNum d)) := by
  simp only [ownStartGroup, useGroup_found slot found, passed, unplanned]

/-- START_GROUP's checks, and what it does once they pass. -/
theorem startGroup_request (s : State) (tag : Tag) (n : Nat) (taken : s.takes (.startGroup tag n)) :
    let c : Instr := .startGroup tag n
    let f := s.found c
    (groupOf n = none → exec c s = .next (s.refuses c .badValue))
    ∧ ∀ g, groupOf n = some g →
      (s.block.group g = none → exec c s = .next (s.refuses c .noSuch))
      ∧ ∀ x, s.block.group g = some x →
        (∀ code, s.block.startRefused x = some code → exec c s = .next (s.refuses c code))
        ∧ (s.block.startRefused x = none →
          (s.block.planGroup x = none → ∃ body, exec c s = .next (s.replies f .badValue body))
          ∧ (∀ before m after, x.members = before ++ m :: after →
            (∀ p ∈ before, s.block.memberTarget p.dish x.az x.el x.pref ≠ none) →
            s.block.memberTarget m.dish x.az x.el x.pref = none →
            exec c s = .next (s.replies f .badValue [f1 (dishNum m.dish)]))
          ∧ ∀ ms, s.block.planGroup x = some ms →
            let n0 := s.block.minDuration ms
            let limit := max x.limit n0
            let cold := x.waitWarm = true ∧ ∃ m ∈ x.members, s.block.cold m.dish = true
            (6000 < n0 → exec c s = .next (s.refuses c .tooLong))
            ∧ (n0 ≤ 6000 → cold → x.nStar = none →
                exec c s = .next (s.replies (((f.recordPlan g ms n0).setGroupState g .warming).handMembers g x) .ok
                  [f1 GroupState.warming.ctorIdx, f2 n0, f1 0, f2 0]))
            ∧ (n0 ≤ 6000 → ¬cold → s.block.account.examineDue = false →
              (20 ≤ s.block.account.waitq.length → exec c s = .next (s.refuses c .busy))
              ∧ (∀ k, s.block.account.waitq = [] → s.block.account.stowq = [] → s.block.stretch ms n0 limit = some k →
                let granted := ((f.grant (f.wantsAt ms k) .motion).recordPlan g ms n0).recordGrant g k (f.wantsAt ms k)
                let u := (granted.handMembers g x).deliverGroup g
                ∃ y, u.group g = some y
                  ∧ exec c s = .next (s.replies u .ok [f1 y.state.ctorIdx, f2 n0, f1 1, f2 k])
                  ∧ ((∀ m ∈ x.members, ∀ j, (s.block.axis m.dish j).state ≠ .locked) → y.state = .starting))
              ∧ (s.block.account.waitq.length < 20 → x.nStar = none →
                s.block.account.waitq ≠ [] ∨ s.block.account.stowq ≠ [] ∨ s.block.stretch ms n0 limit = none →
                exec c s = .next (s.replies ((((f.enqueue (.group g) (f.wantsAt ms limit)).recordPlan g ms n0
                  ).setGroupState g .waiting).handMembers g x) .queued
                  [f1 GroupState.waiting.ctorIdx, f2 n0, f1 0, f2 0])))) := by
  intro c f
  refine ⟨fun bad => request_refused taken (ownStartGroup_unfound (useGroup_bad bad)), fun g slot =>
    ⟨fun empty => request_refused taken (ownStartGroup_unfound (useGroup_empty (b := f) slot empty)), fun x found =>
      ⟨fun code refused => request_refused taken (ownStartGroup_refused (b := f) slot found refused), fun passed => ?_⟩⟩⟩
  have found' : f.group g = some x := found
  have passed' : f.startRefused x = none := passed
  refine ⟨fun unplanned => ⟨_, request_replies taken (ownStartGroup_misfit slot found' passed' unplanned)⟩,
    fun before m after split fit unfit => ?_, fun ms planned => ?_⟩
  · have unplanned : s.block.planGroup x = none := by
      refine (planMembers_row s.block x x.members).1 ⟨m, ?_, unfit⟩
      simp [split]
    have misfit : f.misfit x = some m.dish := misfit_first s.block x split fit unfit
    have own := ownStartGroup_misfit slot found' passed' unplanned
    rw [misfit] at own
    exact request_replies taken own
  intro n0 limit cold
  have own : ownStartGroup n f = f.startPlanned g x ms := ownStartGroup_planned slot found' passed' planned
  have cold_iff : (x.waitWarm && f.groupCold x) = true ↔ cold := by
    rw [Bool.and_eq_true, groupCold_iff]
    exact Iff.rfl
  refine ⟨fun long => ?_, fun short warming ungranted => ?_, fun short warm quiet => ?_⟩
  · refine request_refused taken (own.trans ?_)
    exact if_pos long
  · refine request_replies taken (own.trans ?_)
    have go : f.startPlanned g x ms = (f.startWarming g x ms n0).startReply g .ok :=
      (if_neg (Nat.not_lt.mpr short)).trans (if_pos (cold_iff.mpr warming))
    exact go.trans (startWarming_reply found' ungranted)
  have go : ownStartGroup n f = f.startAsking g x ms n0 :=
    own.trans ((if_neg (Nat.not_lt.mpr short)).trans (if_neg (mt cold_iff.mp warm)))
  have quiet' : f.account.examineDue = false := quiet
  refine ⟨fun full => request_refused taken (go.trans (startAsking_busy quiet' full)), fun k free calm fits => ?_,
    fun room ungranted waits => ?_⟩
  · obtain ⟨y, group, answer, starting⟩ := startAsking_granted (ms := ms) (n0 := n0) found' passed' quiet' free calm
      ((found_stretch ..).trans fits)
    exact ⟨y, group, request_replies taken (go.trans answer), starting⟩
  · refine request_replies taken (go.trans (startAsking_queued found' ungranted quiet' room ?_))
    rcases waits with h | h | h
    · exact Or.inl h
    · exact Or.inr (Or.inl h)
    · exact Or.inr (Or.inr ((found_stretch ..).trans h))

end

/-- Settles O46, from the request and the laws of its parts. -/
theorem startGroupStarts : Obligations.StartGroupStarts := by
  unfold Obligations.StartGroupStarts
  refine ⟨startGroup_request, startRefused_row, memberTarget_row, fun b x => ?_, minDuration_row, replan_row, setMode_row,
    handMembers_row, deliverGroup_row, startGroup_row⟩
  exact planMembers_row b x x.members

end Sys2Proof.Machine
end

-- ==== What the machine has been told (R90, R121, R147, R161) ====
section
/-! What nodes have last said: axis reports, zone temperatures and contactors, cold flags, key switches, weather entries,
and the field's own records. The work that an answer or a reading sets off leaves it. -/

open Sys2Proof

namespace Sys2Proof.Machine

/-- What nodes have said, with the field's records, the time and the settings it is judged by. -/
def Block.sensed (b : Block) :=
  (b.field, b.heater.cold, b.lockout.keys, b.weather.entries, b.site.tb, b.site.cfg, b.site.clock,
    (fun d k => (b.axis d k).reported), fun d z => ((b.zone d z).temp, (b.zone d z).reported, (b.zone d z).mismatch))

/-- The same in two machines, record by record. -/
structure Block.SameSensed (b c : Block) : Prop where
  field : b.field = c.field
  cold : b.heater.cold = c.heater.cold
  keys : b.lockout.keys = c.lockout.keys
  entries : b.weather.entries = c.weather.entries
  tb : b.site.tb = c.site.tb
  cfg : b.site.cfg = c.site.cfg
  clock : b.site.clock = c.site.clock
  reported : ∀ d k, (b.axis d k).reported = (c.axis d k).reported
  zone : ∀ d z, (b.zone d z).temp = (c.zone d z).temp ∧ (b.zone d z).reported = (c.zone d z).reported
    ∧ (b.zone d z).mismatch = (c.zone d z).mismatch

theorem sensed_iff {b c : Block} : b.sensed = c.sensed ↔ b.SameSensed c := by
  simp only [Block.sensed, Prod.mk.injEq, funext_iff]
  constructor
  · rintro ⟨field, cold, keys, entries, tb, cfg, clock, reported, zone⟩
    exact ⟨field, cold, keys, entries, tb, cfg, clock, reported, zone⟩
  · rintro ⟨field, cold, keys, entries, tb, cfg, clock, reported, zone⟩
    exact ⟨field, cold, keys, entries, tb, cfg, clock, reported, zone⟩

/-- Settling, and the operations it uses, leave it. -/
theorem sensed_of_still {b c : Block} (h : b.still = c.still) : b.sensed = c.sensed := by
  refine sensed_iff.mpr ⟨(congrArg Block.field h :), (congrArg (fun x : Block => x.heater.cold) h :),
    (congrArg (fun x : Block => x.lockout.keys) h :), (congrArg (fun x : Block => x.weather.entries) h :),
    (congrArg (fun x : Block => x.site.tb) h :), (congrArg (fun x : Block => x.site.cfg) h :),
    (congrArg (fun x : Block => x.site.clock) h :), fun d k => ?_, fun d z => ?_⟩
  · exact (congrArg Axis.reported (axis_still_of_still h d k) :)
  · have zone := zone_still_of_still h d z
    exact ⟨(congrArg Zone.temp zone :), (congrArg Zone.reported zone :), (congrArg Zone.mismatch zone :)⟩

/-- An operation on one axis leaves it that leaves the axes' reports. -/
theorem sensed_of_beside {b c : Block} (h : b.beside = c.beside)
    (reported : ∀ d k, (b.axis d k).reported = (c.axis d k).reported) : b.sensed = c.sensed := by
  obtain ⟨-, -, weather, heater, lockout, field, site⟩ := records_of_beside h
  refine sensed_iff.mpr ⟨field, by rw [heater], by rw [lockout], by rw [weather], by rw [site], by rw [site], by rw [site],
    reported, fun d z => ?_⟩
  simp only [Block.zone, heater, and_self]

section
variable (b : Block) (d : DishId) (k : AxisKind) (z : ZoneKind)

/-! ### Axes, zones, dishes -/

@[simp] theorem still_rest : (b.rest d k).still = b.still := by
  unfold Block.rest
  simp only []
  split <;> simp

@[simp] theorem still_abandonTest : (b.abandonTest d k).still = b.still := by
  simp [Block.abandonTest]

@[simp] theorem sensed_faultAxis (r : FaultReason) : (b.faultAxis d k r).sensed = b.sensed := by
  refine sensed_of_beside (by simp) fun e j => ?_
  rw [axis_faultAxis]
  split
  · next same =>
    obtain ⟨rfl, rfl⟩ := same
    simp
  · rfl

@[simp] theorem still_lockRise : (b.lockRise d k).still = b.still := by
  unfold Block.lockRise
  split <;> simp

@[simp] theorem still_lockFall : (b.lockFall d k).still = b.still := by
  unfold Block.lockFall
  split <;> simp

@[simp] theorem still_shutZone : (b.shutZone d z).still = b.still := by
  unfold Block.shutZone
  simp only []
  split <;> simp

@[simp] theorem still_zoneLockRise : (b.zoneLockRise d z).still = b.still := by
  simp [Block.zoneLockRise]

@[simp] theorem still_zoneLockFall : (b.zoneLockFall d z).still = b.still := by
  unfold Block.zoneLockFall
  split <;> simp

@[simp] theorem still_cutEngaging : (b.cutEngaging d k).still = b.still := by
  unfold Block.cutEngaging
  split <;> simp

@[simp] theorem still_abortGroup (g : GroupId) (r : EndReason) (by_ : Option DishId) :
    (b.abortGroup g r by_).still = b.still := by
  have released (s : Block) (ms : List Member) : (s.releaseMembers ms).still = s.still := by
    unfold Block.releaseMembers Block.bothAxes
    refine still_each _ _ _ fun m t => ?_
    (repeat' split) <;> simp
  unfold Block.abortGroup
  (repeat' split) <;> simp [released]

@[simp] theorem still_abortAll (r : EndReason) : (b.abortAll r).still = b.still := by
  unfold Block.abortAll
  refine still_each _ _ _ fun g s => ?_
  (repeat' split) <;> simp

@[simp] theorem still_groupLoses (g : GroupId) (r : DropReason) : (b.groupLoses g d r).still = b.still := by
  unfold Block.groupLoses
  (repeat' split) <;> simp

@[simp] theorem still_loseDish (r : DropReason) : (b.loseDish d r).still = b.still := by
  unfold Block.loseDish
  simp only [still_losePending]
  (repeat' split) <;> simp

@[simp] theorem still_reactLost (b0 : Block) : (Block.reactLost b0 b d).still = b.still := by
  unfold Block.reactLost
  simp only []
  split <;> simp

/-! ### Moves and groups -/

@[simp] theorem still_satisfyHold : (b.satisfyHold d).still = b.still := by simp [Block.satisfyHold, Block.bothAxes]

@[simp] theorem still_askTrack (why : ModeCause) : (b.askTrack d why).1.still = b.still := by
  unfold Block.askTrack
  simp only []
  split <;> simp

/-- A move asked for leaves what settling leaves. -/
theorem still_askMove {t : AzEl} {u : Block} {n : Option Nat} (h : b.askMove d t = .ok (u, n)) : u.still = b.still := by
  unfold Block.askMove at h
  simp only [] at h
  (repeat' split at h) <;> simp at h
  all_goals
    obtain ⟨rfl, -⟩ := h
    simp

@[simp] theorem still_beginMove (n : Option Nat) : (b.beginMove d n).still = b.still := by
  unfold Block.beginMove
  split <;> simp

@[simp] theorem still_memberOutcome (v : Bool) : (b.memberOutcome d v).still = b.still := by
  unfold Block.memberOutcome
  simp only []
  split <;> simp

@[simp] theorem still_judgeMember : (b.judgeMember d).still = b.still := by
  unfold Block.judgeMember
  simp only []
  (repeat' split) <;> simp

@[simp] theorem still_recordPlan (g : GroupId) (ms : List Mover) (n0 : Nat) : (b.recordPlan g ms n0).still = b.still := by
  simp [Block.recordPlan]

@[simp] theorem still_askGroup (g : GroupId) (ms : List Mover) (n0 limit : Nat) :
    (b.askGroup g ms n0 limit).1.still = b.still := by
  unfold Block.askGroup
  simp only []
  split <;> simp

@[simp] theorem still_replan (g : GroupId) : (b.replan g).still = b.still := by
  unfold Block.replan
  simp only []
  (repeat' split) <;> simp

end

end Sys2Proof.Machine
end

-- ==== What the machine has been told stands through the work it sets off ====
section
/-! The level of the wind, the snow episode, the stop marks and the key locks move dishes and queues; none of them touches
what nodes have said. -/

open Sys2Proof

namespace Sys2Proof.Machine

section
variable (b : Block) (d : DishId) (k : AxisKind) (z : ZoneKind)

/-! ### Queues and clamps -/

@[simp] theorem sensed_setQueue (q : List Point) : (b.setQueue d q).sensed = b.sensed := rfl

@[simp] theorem sensed_modDish (f : Dish → Dish) : (b.modDish d f).sensed = b.sensed := rfl

@[simp] theorem sensed_dropBefore (t : Nat) : (b.dropBefore d t).sensed = b.sensed := rfl

@[simp] theorem sensed_flush : (b.flush d).sensed = b.sensed := rfl

@[simp] theorem sensed_openClamp (p : Point) (asked : Int) : (b.openClamp d p asked).sensed = b.sensed := by
  unfold Block.openClamp Block.tellClamped
  split
  · rfl
  · exact (sensed_of_still (still_tell ..)).trans rfl

@[simp] theorem sensed_raisePoints : (b.raisePoints d).sensed = b.sensed := by
  unfold Block.raisePoints
  simp only []
  split <;> simp

/-! ### Protective moves (R104, R110, R113 to R116) -/

@[simp] theorem still_saveContext (o : Origin) : (b.saveContext d o).still = b.still := by
  unfold Block.saveContext
  split <;> simp

@[simp] theorem still_takeIntoStow : (b.takeIntoStow d).still = b.still := by
  unfold Block.takeIntoStow
  simp only []
  split <;> simp

@[simp] theorem still_enterStowLevel : b.enterStowLevel.still = b.still := by
  unfold Block.enterStowLevel
  simp only []
  rw [still_callExamine, still_each _ _ _ fun d s => ?_, still_each _ _ _ fun d s => ?_, still_abortAll]
  · split <;> simp
  · split <;> simp

@[simp] theorem sensed_resumeDish : (b.resumeDish d).sensed = b.sensed := by
  have planned (c : SavedContext) : (b.resumePlan d c).1.sensed = b.sensed := by
    unfold Block.resumePlan
    split <;> simp
  unfold Block.resumeDish
  split
  · rfl
  · next c _ =>
    refine Eq.trans (sensed_of_still ?_) (planned c)
    simp only []
    split
    · simp
    · split
      · simp
      · next h => rw [still_beginMove, still_askMove _ _ h]; simp

@[simp] theorem sensed_leaveStowLevel : b.leaveStowLevel.sensed = b.sensed := by
  unfold Block.leaveStowLevel
  refine (each_keeps Block.sensed _ _ (fun d s => ?_) _).trans rfl
  unfold Block.leaveStowDish
  simp only []
  split
  · have braked : (if (s.dish d).mode = .stowed then s else s.brakeBoth d).sensed = s.sensed := by
      refine sensed_of_still ?_
      split <;> simp
    generalize (if (s.dish d).mode = .stowed then s else s.brakeBoth d) = t at braked ⊢
    rw [← braked]
    (repeat' split) <;> simp [sensed_of_still (still_setMode ..)]
  · rfl

/-- A shed made leaves what nodes have said. -/
theorem sensed_shedDish {u : Block} {v : Bool} (h : b.shedDish d = .ok (u, v)) : u.sensed = b.sensed := by
  unfold Block.shedDish at h
  (repeat' split at h) <;> simp at h
  next t n asked =>
    obtain ⟨rfl, -⟩ := h
    have planned : t.sensed = b.sensed := sensed_of_still (still_askMove b d asked)
    have saved : ((t.saveContext d .shed).modDish d fun x => { x with deferred := false, pendingReq := none }).sensed
        = b.sensed := (sensed_modDish ..).trans ((sensed_of_still (still_saveContext ..)).trans planned)
    refine (sensed_of_still ?_).trans saved
    have needs (s : Block) : (s.holdNeeds d).still = s.still := by
      unfold Block.holdNeeds Block.bothAxes
      simp only []
      (repeat' split) <;> simp
    simp [needs, Block.bothAxes]

theorem sensed_autoShedDish : (b.autoShedDish d).sensed = b.sensed := by
  unfold Block.autoShedDish
  split
  · split
    · next h => exact sensed_shedDish b d h
    · rfl
  · rfl

theorem sensed_deferredSheds : b.deferredSheds.sensed = b.sensed := by
  unfold Block.deferredSheds
  refine each_keeps Block.sensed _ _ (fun d s => ?_) b
  split
  · exact (sensed_autoShedDish ..).trans (sensed_modDish ..)
  · rfl

/-! ### Weather (R90 to R98, R125) -/

theorem sensed_clearDeferrals : b.clearDeferrals.sensed = b.sensed := by
  unfold Block.clearDeferrals
  exact each_keeps Block.sensed _ _ (fun d s => sensed_modDish s d _) b

theorem sensed_tell (kind : RepKind) (n : Nat) (fs : List Fld) : (b.tell kind n fs).sensed = b.sensed :=
  sensed_of_still (still_tell ..)

@[simp] theorem sensed_judgeSnow : b.judgeSnow.sensed = b.sensed := by
  unfold Block.judgeSnow Block.tellSnow
  simp only []
  split
  · split
    · rfl
    · rw [sensed_clearDeferrals, sensed_tell]
      rfl
  · split <;> rfl

@[simp] theorem sensed_changeLevel (lv : Level) (why : LevelCause) : (b.changeLevel lv why).sensed = b.sensed := by
  unfold Block.changeLevel
  simp only []
  generalize reported : Block.report _ _ _ _ _ _ = t
  have same : t.sensed = b.sensed := by
    rw [← reported]
    exact (sensed_of_still (still_report ..)).trans rfl
  cases lv with
  | stow => exact (sensed_of_still (still_enterStowLevel t)).trans same
  | watch =>
    refine (each_keeps Block.sensed _ _ (fun d s => sensed_raisePoints s d) _).trans ?_
    split
    · exact (sensed_leaveStowLevel t).trans same
    · exact same
  | calm => exact (sensed_deferredSheds t).trans same

@[simp] theorem sensed_settleTimers : b.settleTimers.sensed = b.sensed := rfl

@[simp] theorem sensed_figuresChanged : b.figuresChanged.sensed = b.sensed := by
  unfold Block.figuresChanged Block.evaluate
  simp only [sensed_judgeSnow]
  split <;> simp

/-! ### Stop marks and the latch (R180) -/

@[simp] theorem sensed_estopAxis : (b.estopAxis d k).sensed = b.sensed := by
  refine sensed_of_still ?_
  unfold Block.estopAxis
  split <;> simp

theorem sensed_estopAxes : b.estopAxes.sensed = b.sensed := by
  unfold Block.estopAxes
  exact each_keeps Block.sensed allAxes (fun p u => u.estopAxis p.1 p.2) (fun p s => sensed_estopAxis s p.1 p.2) b

theorem still_estopGroups (b0 : Block) : (Block.estopGroups b0 b).still = b.still := by
  unfold Block.estopGroups
  rw [still_abortAll, still_each _ _ _ fun g s => ?_]
  unfold Block.stopMembers
  (repeat' split) <;> simp

theorem sensed_estopDish : (b.estopDish d).sensed = b.sensed := by
  have mode (s : Block) : (s.estopMode d).still = s.still := by
    unfold Block.estopMode
    (repeat' split) <;> simp
  rw [estopDish_eq, sensed_of_still (mode _), Block.workEnded, sensed_modDish]
  exact sensed_of_still (by simp)

@[simp] theorem sensed_latchEstop (src : StopSource) : (b.latchEstop src).sensed = b.sensed := by
  have latched : (b.latched src).sensed = b.sensed := by
    unfold Block.latched Block.tellEstop
    exact (sensed_tell ..).trans rfl
  rw [latchEstop_eq, Block.flushAll, each_keeps Block.sensed _ _ fun d s => sensed_flush s d, Block.estopDishes,
    each_keeps Block.sensed _ _ fun d s => sensed_estopDish s d, sensed_of_still (still_estopGroups ..), sensed_estopAxes,
    latched]

/-- A stop mark set leaves what nodes have said. -/
@[simp] theorem sensed_setMark (src : StopSource) (v : Bool) : (b.setMark src v).sensed = b.sensed := by
  have marked : (b.marked src v).sensed = b.sensed := rfl
  unfold Block.setMark
  simp only []
  split
  · rfl
  · split
    · exact (sensed_tell (b.marked src v) _ _ _).trans marked
    · split
      · exact (sensed_latchEstop (b.marked src v) src).trans marked
      · exact marked

/-! ### Arrivals (R65, R111, R116) -/

@[simp] theorem sensed_judgeMove : (b.judgeMove d).sensed = b.sensed := by
  have shed (s : Block) : (s.shedArrived d).still = s.still := by
    simp [Block.shedArrived, Block.bothAxes]
  have returned (s : Block) (i : ReturnIntent) : (s.returnArrived d i).sensed = s.sensed := by
    unfold Block.returnArrived
    simp only []
    split
    · exact sensed_of_still (by simp)
    · have held : ((s.satisfyHold d).dropBefore d ((s.satisfyHold d).site.clock.getD 0)).sensed = s.sensed :=
        (sensed_dropBefore ..).trans (sensed_of_still (by simp))
      split
      · exact (sensed_of_still (by simp)).trans held
      · exact (sensed_of_still (by simp)).trans held
  unfold Block.judgeMove
  simp only []
  (repeat' split) <;> simp [sensed_of_still (shed _), returned, sensed_of_still (still_setMove ..)]

/-! ### Locks (R139, R141, R145) -/

theorem still_actOnRise (b0 : Block) : (Block.actOnRise b0 b d).still = b.still := by
  unfold Block.actOnRise
  simp only [still_reactLost]
  (repeat' split) <;> simp

theorem still_actOnFall (b0 : Block) : (Block.actOnFall b0 b d).still = b.still := by
  unfold Block.actOnFall
  simp only []
  (repeat' split) <;> simp

@[simp] theorem sensed_placeLock (kind : LockKind) (holder : Nat) (key : Bool) :
    (b.placeLock kind d holder key).1.sensed = b.sensed := by
  unfold Block.placeLock Block.tellLock
  simp only [sensed_tell]
  refine (sensed_of_still (still_setEngaged ..)).trans ((sensed_of_still (still_setMarks _)).trans ?_)
  exact (sensed_of_still (still_actOnRise ..)).trans rfl

@[simp] theorem sensed_takeLock (e : LockEntry) : (b.takeLock e).sensed = b.sensed := by
  unfold Block.takeLock Block.tellLock
  rw [sensed_tell]
  exact (sensed_of_still (still_actOnFall ..)).trans rfl

end

end Sys2Proof.Machine
end

-- ==== Answers and readings reach their owners (R88, R121, R163) ====
section
/-! What an accepted answer makes known, and that its other consequences leave that as it is. -/

open Sys2Proof

namespace Sys2Proof.Machine

/-! ### An axis's answer -/

section
variable (b : Block) (d : DishId) (k : AxisKind)

@[simp] theorem sensed_modAxis (f : Axis → Axis) (h : ∀ a, (f a).reported = a.reported) :
    (b.modAxis d k f).sensed = b.sensed := by
  refine sensed_of_beside rfl fun e j => ?_
  rw [modAxis_eq, axis_setAxis]
  split
  · next same =>
    obtain ⟨rfl, rfl⟩ := same
    exact h _
  · rfl

theorem sensed_askCounts : b.askCounts.sensed = b.sensed := by
  obtain ⟨w, r, h⟩ := askCounts_eq b
  rw [h]
  rfl

theorem sensed_releaseConfirmed : (b.releaseConfirmed d k).sensed = b.sensed := by
  have judged (s : Block) : (s.judgeWear d k).sensed = s.sensed := by
    unfold Block.judgeWear
    simp only []
    split <;> simp [sensed_tell]
  have held : ∀ n, ((((b.setOrder d k .hold).modAxis d k fun a => { a with opDue := none, releases := n }).judgeWear d k
      ).enter d k .held).sensed = b.sensed := fun n => by
    rw [sensed_of_still (still_enter ..), judged]
    simp [sensed_of_still (still_setOrder ..)]
  unfold Block.releaseConfirmed
  simp only []
  split
  · rw [sensed_askCounts, held]
  · exact held _

theorem still_stopComplete : (b.stopComplete d k).still = b.still := by
  unfold Block.stopComplete
  simp only []
  (repeat' split) <;> simp

theorem still_engageConfirmed : (b.engageConfirmed d k).still = b.still := by
  unfold Block.engageConfirmed
  simp only []
  (repeat' split) <;> simp

theorem still_arrive : (b.arrive d k).still = b.still := by simp [Block.arrive]

theorem sensed_answerByState (r : AxisReport) : (b.answerByState d k r).sensed = b.sensed := by
  unfold Block.answerByState
  simp only []
  split
  · split
    · exact sensed_modAxis _ _ _ _ fun _ => rfl
    · exact sensed_faultAxis ..
    · rfl
  · split
    · exact sensed_releaseConfirmed ..
    · rfl
  · split
    · split
      · exact sensed_of_still (still_arrive ..)
      · rfl
    · rfl
  · split
    · exact sensed_of_still (still_stopComplete ..)
    · rfl
  · split
    · rfl
    · exact sensed_of_still (still_engageConfirmed ..)
  · rfl

theorem sensed_heardAgain (r : AxisReport) : (b.heardAgain d k r).sensed = b.sensed := by
  have unheld := sensed_modAxis b d k (fun a => { a with holdDue := none }) fun _ => rfl
  unfold Block.heardAgain
  split
  · exact sensed_faultAxis ..
  · simp only []
    split
    · rw [sensed_of_still (still_engage ..), sensed_of_still (still_reduceToHold ..), unheld]
    · rw [sensed_of_still (still_rest ..), unheld]

/-- An axis's answer makes its report known, and nothing else. -/
theorem sensed_axisAnswer (r : AxisReport) : (b.axisAnswer d k r).sensed = (b.taking d k r).sensed := by
  by_cases off : (b.axis d k).state = .offline
  · rw [axisAnswer_offline off, sensed_heardAgain]
  by_cases fit : (b.axis d k).state = .faulted
  · rw [axisAnswer_faulted fit]
  cases code : r.code.reason with
  | some why => rw [axisAnswer_code off fit code, sensed_faultAxis]
  | none =>
    cases unasked : unbidden (b.axis d k).state r.released with
    | true => rw [axisAnswer_unbidden off fit code unasked, sensed_faultAxis]
    | false => rw [axisAnswer_quiet off fit code unasked, sensed_answerByState]

theorem sensed_axisRefused : (b.axisRefused d k).sensed = b.sensed := by
  unfold Block.axisRefused
  simp only []
  split
  · rfl
  · exact sensed_faultAxis ..

theorem sensed_judgeLag (r : AxisReport) : (b.judgeLag d k r).sensed = b.sensed := by
  unfold Block.judgeLag
  simp only []
  (repeat' split) <;> simp

end

/-! ### A zone's answer (R121, R129, R134) -/

/-- One zone's temperature and contactor heard. -/
def Block.hearZone (b : Block) (d : DishId) (z : ZoneKind) (t : Int) (on_ ordered : Bool) (tb : Nat) : Block :=
  (b.modZone d z fun x => ({ x with temp := some t, reported := some on_ }).compare ordered tb).rederiveZone d z

section
variable (b : Block) (d e : DishId) (z y : ZoneKind)

theorem zoneAnswer_eq (x : CabBody) (s r : Bool) : b.zoneAnswer d x s r =
    ((b.hearZone d .surf x.surfTemp x.surfOn s b.site.tb).hearZone d .drive x.driveTemp x.driveOn r b.site.tb).judgeCold d
      x.driveTemp := rfl

/-- What is known once a zone is heard. -/
theorem hearZone_row (t : Int) (on_ ordered : Bool) (tb : Nat) :
    let u := b.hearZone d z t on_ ordered tb
    (u.field = b.field ∧ u.heater.cold = b.heater.cold ∧ u.lockout.keys = b.lockout.keys ∧ u.site.tb = b.site.tb)
    ∧ (∀ e j, (u.axis e j).reported = (b.axis e j).reported)
    ∧ ((u.zone d z).temp = some t ∧ (u.zone d z).reported = some on_
      ∧ (u.zone d z).mismatch = if on_ = ordered then none else some ((b.zone d z).mismatch.getD tb))
    ∧ ∀ y, z ≠ y → (u.zone d y).temp = (b.zone d y).temp ∧ (u.zone d y).reported = (b.zone d y).reported
      ∧ (u.zone d y).mismatch = (b.zone d y).mismatch := by
  intro u
  have derived (s : Block) : (s.rederiveZone d z).still = s.still := by
    unfold Block.rederiveZone
    simp only []
    split <;> simp
  obtain ⟨field, cold, keys, -, tb, -, -, reported, zone⟩ := sensed_iff.mp (sensed_of_still (derived (b.modZone d z
    fun x => ({ x with temp := some t, reported := some on_ }).compare ordered tb)))
  refine ⟨⟨field, cold, keys, tb⟩, reported, ?_, fun y other => ?_⟩
  · obtain ⟨temp, seen, mismatch⟩ := zone d z
    rw [modZone_eq, zone_setZone, if_pos ⟨rfl, rfl⟩] at temp seen mismatch
    refine ⟨temp.trans ?_, seen.trans ?_, mismatch.trans ?_⟩
    all_goals
      unfold Zone.compare
      by_cases same : on_ = ordered <;> simp [same]
  · have stands := zone d y
    rwa [modZone_eq, zone_setZone, if_neg fun h => other h.2] at stands

/-- What is known once the cold flag is judged. -/
theorem judgeCold_row (t : Int) :
    let u := b.judgeCold d t
    (u.field = b.field ∧ u.lockout.keys = b.lockout.keys ∧ u.site.tb = b.site.tb)
    ∧ u.cold d = coldAfter (b.cold d) t
    ∧ (∀ e j, (u.axis e j).reported = (b.axis e j).reported)
    ∧ ∀ e y, (u.zone e y).temp = (b.zone e y).temp ∧ (u.zone e y).reported = (b.zone e y).reported
      ∧ (u.zone e y).mismatch = (b.zone e y).mismatch := by
  intro u
  let flagged : Block := { b with heater := { b.heater with cold := b.heater.cold.set d (coldAfter (b.cold d) t) } }
  have warmed (s : Block) : (s.modZone d .drive fun x => { x with prewarm := none }).sensed = s.sensed := by
    refine sensed_iff.mpr ⟨rfl, rfl, rfl, rfl, rfl, rfl, rfl, fun _ _ => rfl, fun e y => ?_⟩
    rw [modZone_eq, zone_setZone]
    split
    · next same =>
      obtain ⟨rfl, rfl⟩ := same
      exact ⟨rfl, rfl, rfl⟩
    · exact ⟨rfl, rfl, rfl⟩
  have known : u.sensed = flagged.sensed := by
    unfold u Block.judgeCold
    simp only []
    split
    · next same =>
      have unmoved : flagged = b := by
        unfold flagged
        rw [same]
        unfold Block.cold
        rw [vec_set_self]
      rw [unmoved]
    · have told : ((if coldAfter (b.cold d) t = true then flagged
          else flagged.modZone d .drive fun x => { x with prewarm := none }).tellZone d .drive).sensed = flagged.sensed := by
        rw [sensed_of_still (still_tellZone ..)]
        split
        · rfl
        · exact warmed _
      refine Eq.trans ?_ told
      split
      · exact sensed_of_still (still_replan ..)
      · rfl
  obtain ⟨field, cold, keys, -, tb, -, -, reported, zone⟩ := sensed_iff.mp known
  refine ⟨⟨field, keys, tb⟩, ?_, reported, zone⟩
  unfold Block.cold
  rw [cold]
  exact (vec_get_set ..).trans (if_pos rfl)

end

/-! ### A cabinet's answer (R163) -/

/-- Both axes' answers make their reports known. -/
theorem axisAnswers_row (b : Block) (d : DishId) (x : CabBody) :
    let u := (b.axisAnswer d .az x.az).axisAnswer d .el x.el
    (u.field = b.field ∧ u.heater.cold = b.heater.cold ∧ u.lockout.keys = b.lockout.keys ∧ u.site.tb = b.site.tb)
    ∧ ((u.axis d .az).reported = some x.az ∧ (u.axis d .el).reported = some x.el)
    ∧ ∀ e y, (u.zone e y).temp = (b.zone e y).temp ∧ (u.zone e y).reported = (b.zone e y).reported
      ∧ (u.zone e y).mismatch = (b.zone e y).mismatch := by
  intro u
  obtain ⟨field, cold, keys, -, tb, -, -, az, zone⟩ := sensed_iff.mp (sensed_axisAnswer b d .az x.az)
  obtain ⟨field', cold', keys', -, tb', -, -, el, zone'⟩ :=
    sensed_iff.mp (sensed_axisAnswer (b.axisAnswer d .az x.az) d .el x.el)
  refine ⟨⟨field'.trans field, cold'.trans cold, keys'.trans keys, tb'.trans tb⟩, ⟨(el d .az).trans ?_, (el d .el).trans ?_⟩,
    fun e y => ?_⟩
  · simpa [Block.taking] using az d .az
  · simp [Block.taking]
  · obtain ⟨temp, seen, mismatch⟩ := zone e y
    obtain ⟨temp', seen', mismatch'⟩ := zone' e y
    exact ⟨temp'.trans temp, seen'.trans seen, mismatch'.trans mismatch⟩

/-- A key position heard leaves what else is known. -/
theorem sensed_keyAnswer (b : Block) (d : DishId) (lockout : Bool) :
    (b.keyAnswer d lockout).sensed = (b.setKey d (b.lockout.keys[d].next lockout)).sensed := by
  unfold Block.keyAnswer
  simp only []
  (repeat' split) <;> simp

/-- A zone's answer makes both zones known, and judges the cold flag. -/
theorem zoneAnswer_row (b : Block) (d : DishId) (x : CabBody) (s r : Bool) :
    let u := b.zoneAnswer d x s r
    let since := fun (z : ZoneKind) (on_ ordered : Bool) =>
      if on_ = ordered then none else some ((b.zone d z).mismatch.getD b.site.tb)
    (u.field = b.field ∧ u.lockout.keys = b.lockout.keys)
    ∧ (∀ e j, (u.axis e j).reported = (b.axis e j).reported)
    ∧ ((u.zone d .surf).temp = some x.surfTemp ∧ (u.zone d .surf).reported = some x.surfOn
      ∧ (u.zone d .surf).mismatch = since .surf x.surfOn s)
    ∧ ((u.zone d .drive).temp = some x.driveTemp ∧ (u.zone d .drive).reported = some x.driveOn
      ∧ (u.zone d .drive).mismatch = since .drive x.driveOn r)
    ∧ u.cold d = coldAfter (b.cold d) x.driveTemp := by
  intro u since
  obtain ⟨⟨field, cold, keys, tb⟩, reported, own, others⟩ := hearZone_row b d .surf x.surfTemp x.surfOn s b.site.tb
  obtain ⟨⟨field', cold', keys', tb'⟩, reported', own', others'⟩ :=
    hearZone_row (b.hearZone d .surf x.surfTemp x.surfOn s b.site.tb) d .drive x.driveTemp x.driveOn r b.site.tb
  obtain ⟨⟨field'', keys'', -⟩, judged, reported'', zone⟩ :=
    judgeCold_row ((b.hearZone d .surf x.surfTemp x.surfOn s b.site.tb).hearZone d .drive x.driveTemp x.driveOn r b.site.tb)
      d x.driveTemp
  obtain ⟨surfTemp, surfSeen, surfMismatch⟩ := zone d .surf
  obtain ⟨driveTemp, driveSeen, driveMismatch⟩ := zone d .drive
  obtain ⟨stillTemp, stillSeen, stillMismatch⟩ := others' .surf (by simp)
  obtain ⟨-, -, before⟩ := others .drive (by simp)
  refine ⟨⟨field''.trans (field'.trans field), keys''.trans (keys'.trans keys)⟩,
    fun e j => (reported'' e j).trans ((reported' e j).trans (reported e j)),
    ⟨surfTemp.trans (stillTemp.trans own.1), surfSeen.trans (stillSeen.trans own.2.1),
      surfMismatch.trans (stillMismatch.trans own.2.2)⟩,
    ⟨driveTemp.trans own'.1, driveSeen.trans own'.2.1, driveMismatch.trans (own'.2.2.trans ?_)⟩, judged.trans ?_⟩
  · rw [before]
  · simp only [Block.cold, cold', cold]

theorem cold_of_flags {b c : Block} (h : b.heater.cold = c.heater.cold) (d : DishId) : b.cold d = c.cold d := by
  simp only [Block.cold, h]

theorem key_of_setKey {b c : Block} {d : DishId} {r : KeyRec} (h : b.lockout.keys = (c.setKey d r).lockout.keys) :
    b.lockout.keys[d] = r := by
  rw [h]
  exact (vec_get_set ..).trans (if_pos rfl)

/-- What a cabinet's accepted answer makes known. -/
theorem handCabinet_row (b : Block) (d : DishId) (x : CabBody) :
    let t := b.handCabinet d x
    let o := ((b.node (.cab d)).lastOrder.getD .poll).contactors
    let key := b.lockout.keys[d]
    let since := fun (z : ZoneKind) (on_ ordered : Bool) =>
      if on_ = ordered then none else some ((b.zone d z).mismatch.getD b.site.tb)
    ((t.axis d .az).reported = some x.az ∧ (t.axis d .el).reported = some x.el
    ∧ (t.zone d .surf).temp = some x.surfTemp ∧ (t.zone d .surf).reported = some x.surfOn
    ∧ (t.zone d .drive).temp = some x.driveTemp ∧ (t.zone d .drive).reported = some x.driveOn
    ∧ (t.zone d .surf).mismatch = since .surf x.surfOn o.1
    ∧ (t.zone d .drive).mismatch = since .drive x.driveOn o.2
    ∧ t.cold d = (if x.driveTemp < -100 then true else if -80 ≤ x.driveTemp then false else b.cold d)
    ∧ t.lockout.keys[d] = (if x.lockout = true then ⟨some true, min 3 (key.lockRun + 1), 0⟩
        else ⟨some false, 0, min 3 (key.remoteRun + 1)⟩))
    ∧ t.field = b.field := by
  intro t o key since
  let answered := (b.axisAnswer d .az x.az).axisAnswer d .el x.el
  let lagged := ((Block.reactLost b answered d).judgeLag d .az x.az).judgeLag d .el x.el
  let zoned := lagged.zoneAnswer d x o.1 o.2
  let arrived := (zoned.judgeMember d).judgeMove d
  obtain ⟨⟨field, cold, keys, tb⟩, ⟨az, el⟩, zones⟩ := axisAnswers_row b d x
  have lags : lagged.sensed = answered.sensed :=
    (sensed_judgeLag ..).trans ((sensed_judgeLag ..).trans (sensed_of_still (still_reactLost ..)))
  obtain ⟨field', cold', keys', -, tb', -, -, reported', zones'⟩ := sensed_iff.mp lags
  obtain ⟨⟨field'', keys''⟩, reported'', surf, drive, coldness⟩ := zoneAnswer_row lagged d x o.1 o.2
  have arrivals : arrived.sensed = zoned.sensed := (sensed_judgeMove ..).trans (sensed_of_still (still_judgeMember ..))
  obtain ⟨field3, cold3, keys3, -, -, -, -, reported3, zones3⟩ := sensed_iff.mp arrivals
  obtain ⟨field4, cold4, keys4, -, -, -, -, reported4, zones4⟩ := sensed_iff.mp (sensed_keyAnswer arrived d x.lockout)
  have zone (z : ZoneKind) : (t.zone d z).temp = (zoned.zone d z).temp ∧ (t.zone d z).reported = (zoned.zone d z).reported
      ∧ (t.zone d z).mismatch = (zoned.zone d z).mismatch := by
    obtain ⟨temp, seen, mismatch⟩ := zones3 d z
    obtain ⟨temp', seen', mismatch'⟩ := zones4 d z
    exact ⟨temp'.trans temp, seen'.trans seen, mismatch'.trans mismatch⟩
  have known (k : AxisKind) : (t.axis d k).reported = (answered.axis d k).reported :=
    (reported4 d k).trans ((reported3 d k).trans ((reported'' d k).trans (reported' d k)))
  have before (z : ZoneKind) : (lagged.zone d z).mismatch = (b.zone d z).mismatch :=
    (zones' d z).2.2.trans (zones d z).2.2
  have time : lagged.site.tb = b.site.tb := tb'.trans tb
  simp only [before, time] at surf drive
  have run : arrived.lockout.keys[d] = key := by rw [keys3, keys'', keys', keys]
  refine ⟨⟨(known .az).trans az, (known .el).trans el, (zone .surf).1.trans surf.1, (zone .surf).2.1.trans surf.2.1,
    (zone .drive).1.trans drive.1, (zone .drive).2.1.trans drive.2.1, (zone .surf).2.2.trans surf.2.2,
    (zone .drive).2.2.trans drive.2.2, ?_, ?_⟩, field4.trans (field3.trans (field''.trans (field'.trans field)))⟩
  · have flag : t.cold d = zoned.cold d := (cold_of_flags cold4 d).trans (cold_of_flags cold3 d)
    have same : lagged.cold d = b.cold d := (cold_of_flags cold' d).trans (cold_of_flags cold d)
    rw [flag, coldness, same]
    rfl
  · refine (key_of_setKey keys4).trans ?_
    rw [run]
    rfl

end Sys2Proof.Machine
end

-- ==== Answers handed (R88, R89, R163) ====
section
/-! What a weather node's reading makes of its entry, and which part of an answer is handed. -/

open Sys2Proof

namespace Sys2Proof.Machine

section
variable (b : Block) (n : WeatherId)

theorem wx_of_sensed {b c : Block} (h : b.sensed = c.sensed) (n : WeatherId) : b.wx n = c.wx n := by
  simp only [Block.wx, (sensed_iff.mp h).entries]

@[simp] theorem sensed_tellWx (why : WxCause) : (b.tellWx n why).sensed = b.sensed := sensed_tell ..

/-- A reading that shows a fault clears its entry and counts. -/
theorem wx_wxFault : (b.wxFault n).wx n = { (b.wx n).cleared with faults := bump16 (b.wx n).faults } := by
  have told : ((b.setWx n { (b.wx n).cleared with faults := bump16 (b.wx n).faults }).tellWx n .fault).wx n
      = { (b.wx n).cleared with faults := bump16 (b.wx n).faults } := by
    rw [wx_of_sensed (sensed_tellWx ..), wx_setWx, if_pos rfl]
  unfold Block.wxFault
  simp only []
  split
  · rw [wx_of_sensed (sensed_figuresChanged ..), told]
  · exact told

/-- An entry that warms becomes ACTIVE at the target. -/
theorem wx_wxWarmed : (b.wxWarmed n).wx n = { b.wx n with
    state := if (b.wx n).state = .warming ∧ (b.wx n).reading.isSome = true ∧ b.site.cfg.warmTarget ≤ (b.wx n).warm
      then .active else (b.wx n).state } := by
  unfold Block.wxWarmed
  simp only []
  split
  · rw [wx_of_sensed (sensed_figuresChanged ..), wx_of_sensed (sensed_tellWx ..), wx_setWx, if_pos rfl]
  · rfl

/-- A good reading replaces the entry's, and a WARMING entry counts it. -/
theorem wx_wxTake (r : Reading) :
    let e := b.wx n
    let warm := if e.state = .warming then e.warm + 1 else e.warm
    (b.wxTake n r).wx n = { e with
      warm := warm
      state := if e.state = .warming ∧ b.site.cfg.warmTarget ≤ warm then .active else e.state
      reading := some r } := by
  intro e warm
  have taken (v : Bool) : let t := b.setWx n { e with reading := some r, warm := warm }
      (if v = true then t.tellWx n .clamped else t).sensed = t.sensed := by
    intro t
    split
    · exact sensed_tellWx ..
    · rfl
  have entry : (b.setWx n { e with reading := some r, warm := warm }).wx n = { e with reading := some r, warm := warm } :=
    (wx_setWx ..).trans (if_pos rfl)
  unfold Block.wxTake
  simp only []
  split
  · next active =>
    rw [wx_of_sensed (sensed_figuresChanged ..), wx_of_sensed (taken _), entry]
    simp [e, active]
  · rw [wx_wxWarmed, wx_of_sensed (taken _), entry, (sensed_iff.mp (taken _)).cfg]
    simp only [Option.isSome_some, true_and]
    rfl

/-- A reading brought into range. -/
theorem wxHeld_eq (x : WxBody) (p : Precip) :
    let mean := min x.mean 750
    let gust := max (min x.gust 750) mean
    let ambient := max (-600) (min 600 x.ambient)
    b.wxHeld x p = { mean := mean, gust := gust, ambient := ambient, precip := p
                     clamp := decide (mean ≠ x.mean ∨ gust ≠ x.gust ∨ ambient ≠ x.ambient)
                     expiry := b.weather.sec + b.site.cfg.lifetime } := by
  intro mean gust ambient
  have held : clampInt (-600) 600 x.ambient = ambient := by
    unfold clampInt
    omega
  unfold Block.wxHeld
  simp only [held]
  congr 1
  rw [Bool.eq_iff_iff]
  simp [mean, gust, or_assoc]

/-- A weather node's answer, handed. -/
theorem hand_wx_row (acc : Acceptance) (x : WxBody) :
    let a : Answer := ⟨acc, .wx x⟩
    let e := b.wx n
    let t := b.hand (.wx n) a
    let mean := min x.mean 750
    let gust := max (min x.gust 750) mean
    let ambient := max (-600) (min 600 x.ambient)
    let clamp := decide (mean ≠ x.mean ∨ gust ≠ x.gust ∨ ambient ≠ x.ambient)
    let warm := if e.state = .warming then e.warm + 1 else e.warm
    let handed := (b.node (.wx n)).reach ≠ .unreachable ∧ acc ≠ .refused ∧ e.state ≠ .disabled
    (¬handed → t = b)
    ∧ (handed → x.fault = true ∨ x.precip = none →
        t.wx n = { state := .warming, warm := 0, reading := none, faults := (e.faults + 1) % 65536 })
    ∧ (∀ p, handed → x.fault = false → x.precip = some p →
        t.wx n =
          { e with
            warm := warm
            state := if e.state = .warming ∧ b.site.cfg.warmTarget ≤ warm then .active else e.state
            reading := some
              { mean := mean, gust := gust, ambient := ambient, precip := p, clamp := clamp
                expiry := b.weather.sec + b.site.cfg.lifetime } }) := by
  intro a e t mean gust ambient clamp warm handed
  have go : t = if (b.node (.wx n)).reach = .unreachable ∨ acc = .refused then b else b.wxReading n x := rfl
  have reads (h : handed) : t = b.wxReading n x := by
    obtain ⟨there, taken, -⟩ := h
    rw [go, if_neg (by simp [there, taken])]
  refine ⟨fun h => ?_, fun h bad => ?_, fun p h good known => ?_⟩
  · rw [go]
    split
    · rfl
    · next open_ =>
      obtain ⟨there, taken⟩ := not_or.mp open_
      have disabled : (b.wx n).state = .disabled := by_contra fun on_ => h ⟨there, taken, on_⟩
      unfold Block.wxReading
      exact if_pos disabled
  · have faulty : b.wxReading n x = b.wxFault n := by
      unfold Block.wxReading
      rw [if_neg h.2.2]
      rcases bad with bad | bad
      · rw [bad]
      · rw [bad]
        cases x.fault <;> rfl
    rw [reads h, faulty, wx_wxFault]
    rfl
  · have good_ : b.wxReading n x = b.wxTake n (b.wxHeld x p) := by
      unfold Block.wxReading
      rw [if_neg h.2.2, good, known]
    rw [reads h, good_, wx_wxTake, wxHeld_eq]

/-- A cabinet's answer, handed: its stop flag always, every other part unless the cabinet is away or refuses. -/
theorem hand_cab_row (d : DishId) (acc : Acceptance) (x : CabBody) :
    let a : Answer := ⟨acc, .cab x⟩
    let reach := (b.node (.cab d)).reach
    b.handStop (.cab d) a = b.setMark (.cabinet d) x.estop
    ∧ (reach = .unreachable → b.hand (.cab d) a = b.setMark (.cabinet d) x.estop)
    ∧ (reach ≠ .unreachable → acc = .refused →
        b.hand (.cab d) a
          = (Block.reactLost b ((b.axisRefused d .az).axisRefused d .el) d).setMark (.cabinet d) x.estop)
    ∧ (reach ≠ .unreachable → acc ≠ .refused →
        b.hand (.cab d) a = (b.handCabinet d x).setMark (.cabinet d) x.estop) := by
  intro a reach
  have go : b.hand (.cab d) a = (if reach = .unreachable then b
      else if acc = .refused then Block.reactLost b ((b.axisRefused d .az).axisRefused d .el) d
      else b.handCabinet d x).setMark (.cabinet d) x.estop := rfl
  refine ⟨rfl, fun away => ?_, fun there refused => ?_, fun there taken => ?_⟩
  · rw [go, if_pos away]
  · rw [go, if_neg there, if_pos refused]
  · rw [go, if_neg there, if_neg taken]

/-- A reading leaves the field's records. -/
theorem field_wxReading (x : WxBody) : (b.wxReading n x).field = b.field := by
  have figures (s : Block) : s.figuresChanged.field = s.field := (sensed_iff.mp (sensed_figuresChanged s)).field
  have told (s : Block) (why : WxCause) : (s.tellWx n why).field = s.field := (sensed_iff.mp (sensed_tellWx s n why)).field
  have fault : (b.wxFault n).field = b.field := by
    unfold Block.wxFault
    simp only []
    split <;> simp [figures, told]
  have take (r : Reading) : (b.wxTake n r).field = b.field := by
    unfold Block.wxTake Block.wxWarmed
    simp only []
    (repeat' split) <;> simp [figures, told]
  unfold Block.wxReading
  split
  · rfl
  · split
    · exact take _
    · exact fault

/-- Answers handed leave the field's records. -/
theorem field_handAll (r : NodeRef) (as : List Answer) : (b.handAll r as).field = b.field := by
  have mark (s : Block) (d : DishId) (v : Bool) : (s.setMark (.cabinet d) v).field = s.field :=
    (sensed_iff.mp (sensed_setMark ..)).field
  have stop (s : Block) (a : Answer) : (s.handStop r a).field = s.field := by
    unfold Block.handStop
    split
    · exact mark ..
    · rfl
  have one (s : Block) (a : Answer) : (s.hand r a).field = s.field := by
    unfold Block.hand
    simp only []
    split
    · rw [stop]
      split
      · rfl
      · split
        · rw [(sensed_iff.mp (sensed_of_still (still_reactLost ..))).field, (sensed_iff.mp (sensed_axisRefused ..)).field,
            (sensed_iff.mp (sensed_axisRefused ..)).field]
        · exact (handCabinet_row ..).2
    · split
      · rfl
      · exact field_wxReading ..
    · rfl
  induction as generalizing b with
  | nil => rfl
  | cons a as ih =>
    cases as with
    | nil => exact one b a
    | cons c cs => exact (ih (b.handStop r a)).trans (stop b a)

end

end Sys2Proof.Machine
end

-- ==== A field cycle begins (R39, R58, R154, R155) ====
section
/-! The phases of a cycle's beginning: polarities, consumption of the tracks, TRACK points, late deadlines. -/

open Sys2Proof

namespace Sys2Proof.Machine

/-! ### Phases -/

/-- The cycle's site time taken and the waiting polarities applied. -/
def Block.polarised (b : Block) : Block :=
  { b with field := { b.field with
      cycleTime := b.site.clock, successor := false
      lineA := b.field.lineA.applyPol, lineB := b.field.lineB.applyPol } }

/-- Every TRACKING dish's queue consumed, where the clock is set. -/
def Block.consumeAll (b : Block) (clock : Option Nat) : Block :=
  match clock with
  | some now => b.each allDishes fun d s => s.consume d now
  | none => b

/-- Every TRACK order given the points ahead. -/
def Block.refreshAll (b : Block) : Block := b.each allAxes fun p s => s.refreshTrack p.1 p.2

/-- Every group judged against its deadline, where the clock is set. -/
def Block.judgeAllLate (b : Block) (clock : Option Nat) : Block :=
  match clock with
  | some now => b.each allGroups fun g s => s.judgeLate g now
  | none => b

theorem beginCycle_eq (b : Block) : b.beginCycle =
    let t := ((b.polarised.consumeAll b.site.clock).refreshAll).judgeAllLate b.site.clock
    { t with field := { t.field with todo := allNodes.filter t.inCycle } } := by
  cases clock : b.site.clock <;>
    simp only [Block.beginCycle, Block.polarised, Block.consumeAll, Block.refreshAll, Block.judgeAllLate, clock]

/-! ### Consumption (R39) -/

section
variable (b : Block) (d e : DishId) (k : AxisKind) (now : Nat)

theorem queue_of_points {b c : Block} (h : b.points = c.points) : b.queue = c.queue := by
  funext d
  simp only [Block.queue, h]

/-- What stands through a cycle's phases. -/
def Block.backdrop (b : Block) : FieldCtl × Weather × Site := (b.field, b.weather, b.site)

theorem site_of_backdrop {b c : Block} (h : b.backdrop = c.backdrop) : b.site = c.site := by
  simp only [Block.backdrop, Prod.mk.injEq] at h
  exact h.2.2

/-- The end of a tracking makes the dish IDLE and leaves the rest. -/
theorem endTracking_row (why : ModeCause) :
    ((b.endTracking d why).dish e).mode = (if d = e then .idle else (b.dish e).mode)
    ∧ (b.endTracking d why).points = b.points ∧ (b.endTracking d why).backdrop = b.backdrop := by
  have held := beside_holdBoth (b.setMode d .idle why) d
  obtain ⟨-, points, weather, -, -, field, site⟩ := records_of_beside held
  obtain ⟨points', weather', -, -, field', site', -⟩ := sameGround_of_ground (setMode_kept b d .idle why).2.2.2
  refine ⟨?_, points.trans points', ?_⟩
  · have mode := (congrArg Dish.mode (dish_of_beside held e) :)
    refine Eq.trans mode ?_
    rw [dish_setMode]
    split <;> rfl
  · unfold Block.backdrop Block.endTracking
    rw [field, weather, site, field', weather', site']

/-- A TRACKING dish's queue is consumed; one that runs out ends the tracking. -/
theorem consume_tracking (tracking : (b.dish d).mode = .tracking) :
    (b.consume d now).queue d = consumed (b.queue d) now
    ∧ ((b.consume d now).dish d).mode = if consumed (b.queue d) now = [] then .idle else .tracking := by
  unfold Block.consume
  rw [if_pos tracking]
  simp only []
  split
  · obtain ⟨mode, points, -⟩ := endTracking_row (b.setQueue d (consumed (b.queue d) now)) d d .trackEnd
    exact ⟨by rw [queue_of_points points, queue_setQueue, if_pos rfl], mode.trans (if_pos rfl)⟩
  · simp [tracking]

/-- No other dish is touched, and none that does not track. -/
theorem consume_other (h : d ≠ e ∨ (b.dish d).mode ≠ .tracking) :
    (b.consume d now).queue e = b.queue e ∧ ((b.consume d now).dish e).mode = (b.dish e).mode := by
  unfold Block.consume
  simp only []
  split
  · next tracking =>
    have other : d ≠ e := h.resolve_right fun no => no tracking
    split
    · obtain ⟨mode, points, -⟩ := endTracking_row (b.setQueue d (consumed (b.queue d) now)) d e .trackEnd
      exact ⟨by rw [queue_of_points points, queue_setQueue, if_neg other], (mode.trans (if_neg other)).trans (by simp)⟩
    · simp [other]
  · exact ⟨rfl, rfl⟩

theorem backdrop_consume : (b.consume d now).backdrop = b.backdrop := by
  unfold Block.consume
  simp only []
  split
  · split
    · exact (endTracking_row _ d d .trackEnd).2.2
    · rfl
  · rfl

theorem backdrop_consumeAll (clock : Option Nat) : (b.consumeAll clock).backdrop = b.backdrop := by
  unfold Block.consumeAll
  split
  · exact each_keeps Block.backdrop _ _ (fun d s => backdrop_consume s d _) b
  · rfl

/-- What consumption makes of each dish. -/
theorem consumeAll_row (clock : Option Nat) :
    ((b.dish d).mode ≠ .tracking ∨ clock = none →
      (b.consumeAll clock).queue d = b.queue d ∧ ((b.consumeAll clock).dish d).mode = (b.dish d).mode)
    ∧ ∀ now, (b.dish d).mode = .tracking → clock = some now →
      (b.consumeAll clock).queue d = consumed (b.queue d) now
      ∧ ((b.consumeAll clock).dish d).mode = if consumed (b.queue d) now = [] then .idle else .tracking := by
  constructor
  · intro still
    unfold Block.consumeAll
    split
    · have mode : (b.dish d).mode ≠ .tracking := still.resolve_right (by simp)
      refine each_holds (fun s => s.queue d = b.queue d ∧ (s.dish d).mode = (b.dish d).mode) _ _ ?_ b ⟨rfl, rfl⟩
      rintro e s ⟨queue, same⟩
      have stands : e ≠ d ∨ (s.dish e).mode ≠ .tracking := by
        by_cases own : e = d
        · subst own
          exact Or.inr (by rw [same]; exact mode)
        · exact Or.inl own
      obtain ⟨queue', same'⟩ := consume_other s e d _ stands
      exact ⟨queue'.trans queue, same'.trans same⟩
    · exact ⟨rfl, rfl⟩
  · rintro now tracking rfl
    refine each_at (fun s => s.queue d = b.queue d ∧ (s.dish d).mode = (b.dish d).mode) (fun s =>
      s.queue d = consumed (b.queue d) now
      ∧ (s.dish d).mode = if consumed (b.queue d) now = [] then .idle else .tracking) (fun d s => s.consume d now) d ?_ ?_ ?_ _
      allDishes_nodup (mem_allDishes d) b ⟨rfl, rfl⟩
    · rintro e s other ⟨queue, mode⟩
      obtain ⟨queue', mode'⟩ := consume_other s e d now (Or.inl other)
      exact ⟨queue'.trans queue, mode'.trans mode⟩
    · rintro s ⟨queue, mode⟩
      obtain ⟨queue', mode'⟩ := consume_tracking s d now (mode.trans tracking)
      rw [queue] at queue' mode'
      exact ⟨queue', mode'⟩
    · rintro e s other ⟨queue, mode⟩
      obtain ⟨queue', mode'⟩ := consume_other s e d now (Or.inl other)
      exact ⟨queue'.trans queue, mode'.trans mode⟩

/-! ### TRACK points (R12) -/

theorem refreshTrack_kept : (b.refreshTrack d k).backdrop = b.backdrop ∧ (b.refreshTrack d k).points = b.points
    ∧ (b.refreshTrack d k).dishes = b.dishes := by
  unfold Block.refreshTrack
  split <;> exact ⟨rfl, rfl, rfl⟩

/-- The points of an order are read from the clock and the queue. -/
theorem trackPoints_same {b c : Block} (points : b.points = c.points) (site : b.site = c.site) :
    b.trackPoints = c.trackPoints := by
  funext d k
  simp only [Block.trackPoints, queue_of_points points, site]

/-- A TRACK order holds the points ahead. -/
structure Block.Aims (b : Block) (d : DishId) (k : AxisKind) : Prop where
  points : ∀ pts, (b.axis d k).order = .track pts → pts = b.trackPoints d k

theorem refreshTrack_aims : (b.refreshTrack d k).Aims d k := by
  refine ⟨fun pts order => ?_⟩
  obtain ⟨backdrop, points, -⟩ := refreshTrack_kept b d k
  rw [trackPoints_same points (site_of_backdrop backdrop)]
  unfold Block.refreshTrack at order
  split at order
  · simpa [modAxis_eq, eq_comm] using order
  · next other => exact absurd order (other pts)

theorem refreshTrack_aims_other {e : DishId} {j : AxisKind} (other : ¬(d = e ∧ k = j)) (aims : b.Aims e j) :
    (b.refreshTrack d k).Aims e j := by
  refine ⟨fun pts order => ?_⟩
  obtain ⟨backdrop, points, -⟩ := refreshTrack_kept b d k
  rw [trackPoints_same points (site_of_backdrop backdrop)]
  refine aims.points pts ?_
  unfold Block.refreshTrack at order
  split at order
  · simpa [modAxis_eq, other] using order
  · exact order

theorem refreshAll_kept : b.refreshAll.backdrop = b.backdrop ∧ b.refreshAll.points = b.points
    ∧ b.refreshAll.dishes = b.dishes := by
  unfold Block.refreshAll
  exact ⟨each_keeps Block.backdrop allAxes (fun p s => s.refreshTrack p.1 p.2) (fun p s => (refreshTrack_kept s p.1 p.2).1) b,
    each_keeps Block.points allAxes (fun p s => s.refreshTrack p.1 p.2) (fun p s => (refreshTrack_kept s p.1 p.2).2.1) b,
    each_keeps Block.dishes allAxes (fun p s => s.refreshTrack p.1 p.2) (fun p s => (refreshTrack_kept s p.1 p.2).2.2) b⟩

theorem refreshAll_aims : b.refreshAll.Aims d k := by
  have aims := each_at (fun _ => True) (fun s => s.Aims d k) (fun p s => s.refreshTrack p.1 p.2) (d, k)
    (fun _ _ _ _ => trivial) (fun s _ => refreshTrack_aims s d k)
    (fun p s other aims => refreshTrack_aims_other s p.1 p.2 (fun h => other (Prod.ext h.1 h.2)) aims)
    allAxes allAxes_nodup (mem_allAxes _) b trivial
  unfold Block.refreshAll
  exact aims

/-! ### Late deadlines (R58) -/

/-- One member of a list marked LATE, where it is still under way. -/
def Block.markMember (g : GroupId) (m : Member) (s : Block) : Block :=
  if m.active && !m.late then s.modMember g m.dish fun y => { y with late := true } else s

theorem markLate_eq {g : GroupId} {x : Group} (found : b.group g = some x) :
    b.markLate g = b.each x.members fun m s => s.markMember g m := by
  unfold Block.markLate
  rw [found]
  rfl

theorem markLate_kept (g : GroupId) : (b.markLate g).backdrop = b.backdrop ∧ (b.markLate g).points = b.points
    ∧ (b.markLate g).dishes = b.dishes ∧ (b.markLate g).axes = b.axes := by
  have one (m : Member) (s : Block) : ((s.markMember g m).backdrop, (s.markMember g m).points, (s.markMember g m).dishes,
      (s.markMember g m).axes) = (s.backdrop, s.points, s.dishes, s.axes) := by
    unfold Block.markMember
    split
    · obtain ⟨axes, -, dishes, -, ground⟩ := modMember_kept s m.dish g fun y => { y with late := true }
      obtain ⟨points, weather, -, -, field, site, -⟩ := sameGround_of_ground ground
      simp only [Block.backdrop, axes, dishes, points, weather, field, site]
    · rfl
  cases found : b.group g with
  | none =>
    unfold Block.markLate
    rw [found]
    exact ⟨rfl, rfl, rfl, rfl⟩
  | some x =>
    have all := each_keeps (fun s : Block => (s.backdrop, s.points, s.dishes, s.axes)) x.members _ one b
    rw [markLate_eq b found]
    simpa only [Prod.mk.injEq] using all

theorem judgeLate_kept (g : GroupId) : (b.judgeLate g now).backdrop = b.backdrop ∧ (b.judgeLate g now).points = b.points
    ∧ (b.judgeLate g now).dishes = b.dishes ∧ (b.judgeLate g now).axes = b.axes := by
  unfold Block.judgeLate
  split
  · split
    · exact markLate_kept b g
    · exact ⟨rfl, rfl, rfl, rfl⟩
  · exact ⟨rfl, rfl, rfl, rfl⟩

theorem judgeAllLate_kept (clock : Option Nat) : (b.judgeAllLate clock).backdrop = b.backdrop
    ∧ (b.judgeAllLate clock).points = b.points ∧ (b.judgeAllLate clock).dishes = b.dishes
    ∧ (b.judgeAllLate clock).axes = b.axes := by
  unfold Block.judgeAllLate
  split
  · next now =>
    exact ⟨each_keeps Block.backdrop _ _ (fun g s => (judgeLate_kept s now g).1) b,
      each_keeps Block.points _ _ (fun g s => (judgeLate_kept s now g).2.1) b,
      each_keeps Block.dishes _ _ (fun g s => (judgeLate_kept s now g).2.2.1) b,
      each_keeps Block.axes _ _ (fun g s => (judgeLate_kept s now g).2.2.2) b⟩
  · exact ⟨rfl, rfl, rfl, rfl⟩

/-! ### The cycle -/

/-- The phases before the list of nodes. -/
def Block.cycled (b : Block) : Block :=
  ((b.polarised.consumeAll b.site.clock).refreshAll).judgeAllLate b.site.clock

theorem cycled_kept : b.cycled.backdrop = b.polarised.backdrop
    ∧ b.cycled.points = (b.polarised.consumeAll b.site.clock).points
    ∧ b.cycled.dishes = (b.polarised.consumeAll b.site.clock).dishes := by
  obtain ⟨backdrop, points, dishes, -⟩ := judgeAllLate_kept (b.polarised.consumeAll b.site.clock).refreshAll b.site.clock
  obtain ⟨backdrop', points', dishes'⟩ := refreshAll_kept (b.polarised.consumeAll b.site.clock)
  exact ⟨(backdrop.trans backdrop').trans (backdrop_consumeAll ..), points.trans points', dishes.trans dishes'⟩

theorem points_cycled : b.cycled.trackPoints = (b.polarised.consumeAll b.site.clock).refreshAll.trackPoints := by
  obtain ⟨backdrop, points, -⟩ := judgeAllLate_kept (b.polarised.consumeAll b.site.clock).refreshAll b.site.clock
  exact trackPoints_same points (site_of_backdrop backdrop)

theorem cycled_aims : b.cycled.Aims d k := by
  obtain ⟨-, -, -, axes⟩ := judgeAllLate_kept (b.polarised.consumeAll b.site.clock).refreshAll b.site.clock
  refine ⟨fun pts order => ?_⟩
  have axis : b.cycled.axis d k = (b.polarised.consumeAll b.site.clock).refreshAll.axis d k := by
    unfold Block.cycled
    rw [(sameAxes_of_axes axes).2]
  rw [points_cycled]
  exact (refreshAll_aims _ d k).points pts (by rw [← axis, order])

/-- What a cycle's beginning makes of the field, the lines, the dishes and the TRACK orders. -/
theorem beginCycle_row :
    let u := b.beginCycle
    u.field.cycleTime = b.site.clock ∧ u.field.successor = false ∧ u.field.todo = allNodes.filter b.inCycle
    ∧ (∀ l, (u.line l).inverted = (b.line l).newPol.getD (b.line l).inverted ∧ (u.line l).newPol = none)
    ∧ (∀ d, (b.dish d).mode ≠ .tracking ∨ b.site.clock = none →
       u.queue d = b.queue d ∧ (u.dish d).mode = (b.dish d).mode)
    ∧ (∀ d now, (b.dish d).mode = .tracking → b.site.clock = some now →
       let past := (b.queue d).filter fun p => decide (p.time ≤ now)
       let ahead := (b.queue d).filter fun p => decide (now < p.time)
       (ahead = [] → u.queue d = [] ∧ (u.dish d).mode = .idle)
       ∧ (ahead ≠ [] → u.queue d = past.getLast?.toList ++ ahead ∧ (u.dish d).mode = .tracking))
    ∧ ∀ d k pts, (u.axis d k).order = .track pts → pts = u.trackPoints d k
      ∧ u.trackPoints d k = (((u.queue d).filter fun p => decide (b.site.clock.getD 0 < p.time)).take 3).map
          fun p => ⟨p.time, if k = .az then p.az else p.el⟩ := by
  intro u
  obtain ⟨backdrop, points, dishes⟩ := cycled_kept b
  obtain ⟨field, weather, site⟩ : b.cycled.field = b.polarised.field ∧ b.cycled.weather = b.weather
      ∧ b.cycled.site = b.site := by
    simp only [Block.backdrop, Prod.mk.injEq] at backdrop
    exact backdrop
  have begun : u = { b.cycled with field := { b.cycled.field with todo := allNodes.filter b.cycled.inCycle } } :=
    beginCycle_eq b
  have cycle : b.cycled.inCycle = b.inCycle := by
    funext r
    cases r with
    | cab d => simp only [Block.inCycle, Block.configured, field]; rfl
    | wx n => simp only [Block.inCycle, Block.wx, weather]
  have queue (d) : u.queue d = (b.polarised.consumeAll b.site.clock).queue d := by
    rw [begun, ← queue_of_points points]
    rfl
  have dish (d) : u.dish d = (b.polarised.consumeAll b.site.clock).dish d := by
    rw [begun]
    simp only [Block.dish, dishes]
  refine ⟨by rw [begun]; simp only [field]; rfl, by rw [begun]; simp only [field]; rfl, by rw [begun, cycle], fun l => ?_,
    fun d still => ?_, fun d now tracking clock => ?_, fun d k pts order => ?_⟩
  · have line : u.line l = (b.line l).applyPol := by
      rw [begun]
      cases l <;> simp only [Block.line, field] <;> rfl
    rw [line]
    unfold LineRec.applyPol
    cases new : (b.line l).newPol <;> simp [new]
  · rw [queue, dish]
    exact (consumeAll_row b.polarised d b.site.clock).1 still
  · intro past ahead
    obtain ⟨queued, mode⟩ := (consumeAll_row b.polarised d b.site.clock).2 now tracking clock
    rw [queue, dish, queued, mode]
    have left : consumed (b.polarised.queue d) now = if ahead = [] then [] else past.getLast?.toList ++ ahead := rfl
    rw [left]
    refine ⟨fun none_ => by simp [none_], fun some_ => by simp [some_]⟩
  · have aims : pts = b.cycled.trackPoints d k := (cycled_aims b d k).points pts (by rw [← order, begun]; rfl)
    have same : u.trackPoints d k = b.cycled.trackPoints d k := by rw [begun]; rfl
    refine ⟨aims.trans same.symm, ?_⟩
    have clock : u.site.clock = b.site.clock := by rw [begun, ← site]
    unfold Block.trackPoints
    rw [clock]
    cases k <;> rfl

end

end Sys2Proof.Machine
end

-- ==== Visits, lateness, track lag (R22, R58, R156, R159, R161, R163) ====
section
/-! What a visit's beginning and end make of the field, which members a deadline marks, when a tracking axis lags. -/

open Sys2Proof

namespace Sys2Proof.Machine

/-! ### Late members -/

/-- A member that is under way and not marked yet is on the list, for this dish. -/
def unmarked (ms : List Member) (d : DishId) : Bool := ms.any fun m => m.active && !m.late && m.dish == d

/-- A member marked where it is listed. -/
def Member.markedBy (ms : List Member) (z : Member) : Member := if unmarked ms z.dish = true then { z with late := true } else z

section
variable {b : Block} {g : GroupId} {x : Group}

/-- The marking of a list of members, on their group's record. -/
theorem group_markMembers (ms : List Member) : ∀ {b : Block}, b.group g = some x →
    (b.each ms fun m s => s.markMember g m).group g
      = some { x with members := x.members.map (Member.markedBy ms) } := by
  have marked (m : Member) {s : Block} {y : Group} (found : s.group g = some y) :
      (s.markMember g m).group g = some { y with members := y.members.map (Member.markedBy [m]) } := by
    have step (z : Member) (open_ : (m.active && !m.late) = true) :
        z.markedBy [m] = if z.dish = m.dish then { z with late := true } else z := by
      have listed : unmarked [m] z.dish = true ↔ z.dish = m.dish := by
        unfold unmarked
        rw [List.any_cons, List.any_nil, open_, Bool.true_and, Bool.or_false, beq_iff_eq, eq_comm]
      simp only [Member.markedBy, listed]
    have none_ (closed : ¬(m.active && !m.late) = true) : y.members.map (Member.markedBy [m]) = y.members := by
      have same : Member.markedBy [m] = id := by
        funext z
        simp [Member.markedBy, unmarked, Bool.eq_false_of_not_eq_true closed]
      rw [same, List.map_id]
    unfold Block.markMember
    split
    · next open_ =>
      rw [group_modMember_own found, funext fun z => step z open_]
    · next closed => rw [found, none_ closed]
  induction ms generalizing x with
  | nil =>
    intro b found
    have same : Member.markedBy [] = id := by
      funext z
      simp [Member.markedBy, unmarked]
    rw [same, List.map_id]
    exact found
  | cons m ms ih =>
    intro b found
    refine (ih (b := b.markMember g m) (marked m found)).trans ?_
    simp only [List.map_map]
    congr 3
    funext z
    by_cases first : unmarked [m] z.dish = true
    · have both : unmarked (m :: ms) z.dish = true := by simp_all [unmarked]
      simp [Member.markedBy, first, both]
    · have rest : unmarked (m :: ms) z.dish = unmarked ms z.dish := by
        simp only [unmarked, List.any_cons, List.any_nil, Bool.or_false, Bool.not_eq_true] at first ⊢
        rw [first, Bool.false_or]
      simp [Member.markedBy, first, rest]

/-- Every member still under way is LATE. -/
theorem markLate_row (found : b.group g = some x) : ∃ y, (b.markLate g).group g = some y
    ∧ ∀ m ∈ y.members, m.state = .planned ∨ m.state = .moving → m.late = true := by
  rw [markLate_eq b found]
  refine ⟨_, group_markMembers x.members found, fun m mem way => ?_⟩
  obtain ⟨z, hz, rfl⟩ := List.mem_map.mp mem
  unfold Member.markedBy at way ⊢
  by_cases listed : unmarked x.members z.dish = true
  · rw [if_pos listed]
  · rw [if_neg listed] at way ⊢
    refine (Bool.not_eq_false _).mp fun early => listed (List.any_eq_true.mpr ⟨z, hz, ?_⟩)
    simp [(active_iff z).mpr way, early]

end

/-! ### Track lag (R22) -/

/-- A tracking axis is judged against the position expected at the cycle's site time. -/
theorem judgeLag_row (b : Block) (d : DishId) (k : AxisKind) (r : AxisReport) :
    let a := b.axis d k
    let t := b.judgeLag d k r
    let stopped := b.setAxis d k { a with lag := none }
    ((∀ pts, a.order ≠ .track pts) ∨ a.state ≠ .moving → t = b)
    ∧ ∀ pts, a.order = .track pts → a.state = .moving →
      (b.field.cycleTime = none → t = stopped)
      ∧ ∀ now, b.field.cycleTime = some now →
        let past := (b.queue d).filter fun p => decide (p.time ≤ now)
        let ahead := (b.queue d).filter fun p => decide (now < p.time)
        let at_ := fun (p : Point) => if k = .az then p.az else p.el
        (past = [] ∨ ahead = [] → t = stopped)
        ∧ ∀ p q, past.getLast? = some p → ahead.head? = some q →
          let e := at_ p + ((at_ q - at_ p) * ((now : Int) - p.time)).tdiv ((q.time : Int) - p.time)
          let off := a.cfg.lagTol < (r.pos - e).natAbs
          (¬off → t = b.setAxis d k { a with lag := none, lagOpen := false })
          ∧ (off → a.lag = none → t = b.setAxis d k { a with lag := some ⟨b.site.tb, e⟩ })
          ∧ (off → ∀ l, a.lag = some l → t = b.setAxis d k { a with lag := some ⟨l.since, e⟩ }) := by
  intro a t stopped
  refine ⟨fun still => ?_, fun pts order moving => ?_⟩
  · unfold t Block.judgeLag
    simp only []
    split
    · next state order =>
      rcases still with other | other
      · exact absurd order (other _)
      · exact absurd state other
    · rfl
  have go : t = match b.field.cycleTime.bind (b.expectedPos d k) with
      | none => stopped
      | some e => if a.cfg.lagTol < absDiff r.pos e
        then b.setAxis d k { a with lag := some ⟨(a.lag.map (·.since)).getD b.site.tb, e⟩ }
        else b.setAxis d k { a with lag := none, lagOpen := false } := by
    unfold t Block.judgeLag
    simp only []
    split
    · rfl
    · next other => exact (other pts moving order).elim
  refine ⟨fun untimed => by rw [go, untimed]; rfl, fun now timed => ?_⟩
  intro past ahead at_
  have expected : b.expectedPos d k now = match past.getLast?, ahead.head? with
      | some p, some q => some (at_ p + ((at_ q - at_ p) * ((now : Int) - p.time)).tdiv ((q.time : Int) - p.time))
      | _, _ => none := by
    unfold Block.expectedPos
    rw [← List.head?_filter]
    cases k <;> rfl
  rw [go, timed, Option.bind_some, expected]
  refine ⟨fun bare => ?_, fun p q last first => ?_⟩
  · rcases bare with bare | bare
    · rw [bare]
      rfl
    · rw [bare]
      cases past.getLast? <;> rfl
  · intro e off
    rw [last, first]
    refine ⟨fun near => if_neg near, fun far fresh => ?_, fun far l running => ?_⟩
    · refine (if_pos far).trans ?_
      rw [fresh]
      rfl
    · refine (if_pos far).trans ?_
      rw [running]
      rfl

end Sys2Proof.Machine
end

-- ==== O57: field cycles and visits (R155, R156, R161, R163) ====
section
/-! What the end of a visit makes of its node, then the obligation from its parts. -/

open Sys2Proof

namespace Sys2Proof.Machine

/-! ### Reach -/

section
variable (b : Block) (r : NodeRef)

/-- A reach set on its own node. -/
theorem node_setReach_own (new : Reach) : (b.setReach r new).node r = { b.node r with
    reach := new
    lastStatus := if new = .unreachable ∧ (b.node r).reach ≠ .unreachable then none else (b.node r).lastStatus } := by
  by_cases same : (b.node r).reach = new
  · rw [setReach_same b r new same, if_neg fun h => h.2 (same.trans h.1), ← same]
  · by_cases away : new = .unreachable
    · subst away
      rw [node_setReach_unreachable b r r same, if_pos rfl, if_pos ⟨rfl, same⟩]
    · rw [setReach_other b r new away, node_reportReach, if_pos rfl, if_neg fun h => away h.1]

/-- A reach set leaves the visit in progress. -/
theorem visit_setReach (new : Reach) : (b.setReach r new).field.visit = b.field.visit := by
  have silenced : (b.silenced r).field.visit = b.field.visit :=
    (congrArg (fun x : Block => x.field.visit) (nodeless_silenced b r) :)
  by_cases away : new = .unreachable
  · subst away
    by_cases same : (b.node r).reach = .unreachable
    · rw [setReach_same b r _ same]
    · cases r with
      | wx n => rw [setReach_wx n same, silenced]
      | cab d => rw [setReach_cab d same, (loseCabinet_kept _ d).1, silenced]
  · rw [setReach_other b r new away]
    exact (congrArg (fun x : Block => x.field.visit) (nodeless_reportReach b r new) :)

/-- A change of reach and its report. -/
theorem reach_row (new : Reach) :
    let x := b.node r
    (x.reach = new → b.reportReach r new = b ∧ b.setReach r new = b)
    ∧ (x.reach ≠ new → b.reportReach r new = (b.setNode r { x with reach := new }).report .nodeReach (nodeNum r)
        [f1 new.ctorIdx] (some (f1 x.reach.ctorIdx)) [f1 x.missA, f1 x.missB])
    ∧ (new ≠ .unreachable → b.setReach r new = b.reportReach r new) := by
  intro x
  refine ⟨fun same => ⟨?_, setReach_same b r new same⟩, fun other => ?_, setReach_other b r new⟩
  · unfold Block.reportReach
    exact if_pos same
  · unfold Block.reportReach
    exact if_neg other

end

/-! ### The end of a visit -/

section
variable (b : Block)

/-- A cycle's beginning leaves the nodes and the visit. -/
theorem nextCycle_kept : b.nextCycle.field.visit = b.field.visit ∧ b.nextCycle.node = b.node := by
  have begun : b.beginCycle.field.visit = b.field.visit ∧ b.beginCycle.node = b.node := by
    have field : b.cycled.field = b.polarised.field := by
      have backdrop := (cycled_kept b).1
      simp only [Block.backdrop, Prod.mk.injEq] at backdrop
      exact backdrop.1
    have eq : b.beginCycle = { b.cycled with field := { b.cycled.field with todo := allNodes.filter b.cycled.inCycle } } :=
      beginCycle_eq b
    refine ⟨by rw [eq, field]; rfl, ?_⟩
    funext r
    rw [eq, field]
    cases r <;> rfl
  unfold Block.nextCycle
  split
  · exact begun
  · exact ⟨rfl, rfl⟩

/-- A node with the counts a visit leaves. -/
def Node.counted (x : Node) (v : Visit) : Node :=
  { x with missA := missNext v.heardA x.missA, missB := missNext v.heardB x.missB }

/-- The reach a visit leaves. -/
def Block.reachLeft (b : Block) (v : Visit) : Reach :=
  (b.setVisit none).reachAfter ((b.node v.node).counted v) !v.answers.isEmpty

/-- A visit's counts and reach settled. -/
def Block.visited (b : Block) (v : Visit) : Block :=
  ((b.setVisit none).setNode v.node ((b.node v.node).counted v)).setReach v.node (b.reachLeft v)

variable {b} {v : Visit}

theorem endVisit_in (visiting : b.field.visit = some v) (inside : b.inCycle v.node = true) :
    b.endVisit = ((b.visited v).handAll v.node v.answers).nextCycle := by
  have cycle : (b.setVisit none).inCycle v.node = true := by
    cases h : v.node <;> rw [h] at inside <;> exact inside
  have node : (b.setVisit none).node v.node = b.node v.node := by cases v.node <;> rfl
  unfold Block.endVisit Block.visited Block.reachLeft Node.counted
  simp only [visiting, cycle, node]
  rfl

theorem endVisit_out (visiting : b.field.visit = some v) (left : b.inCycle v.node = false) :
    b.endVisit = ((b.setVisit none).handStops v.node v.answers).nextCycle := by
  have cycle : (b.setVisit none).inCycle v.node = false := by
    cases h : v.node <;> rw [h] at left <;> exact left
  unfold Block.endVisit
  simp only [visiting, cycle]
  rfl

/-- The node a visit leaves. -/
theorem node_endVisit (visiting : b.field.visit = some v) (inside : b.inCycle v.node = true) :
    b.endVisit.node v.node = { (b.node v.node).counted v with
      reach := b.reachLeft v
      lastStatus := if b.reachLeft v = .unreachable ∧ (b.node v.node).reach ≠ .unreachable then none
        else (b.node v.node).lastStatus } := by
  have handed : ((b.visited v).handAll v.node v.answers).node v.node = (b.visited v).node v.node := by
    have field := field_handAll (b.visited v) v.node v.answers
    cases h : v.node <;> rw [h] at field <;> simp only [Block.node, field]
  rw [endVisit_in visiting inside, (nextCycle_kept _).2, handed, Block.visited, node_setReach_own, node_setNode, if_pos rfl]
  rfl

theorem visit_endVisit (visiting : b.field.visit = some v) : b.endVisit.field.visit = none := by
  cases inside : b.inCycle v.node with
  | true =>
    rw [endVisit_in visiting inside, (nextCycle_kept _).1, field_handAll, Block.visited, visit_setReach]
    cases v.node <;> rfl
  | false =>
    have stops : ((b.setVisit none).handStops v.node v.answers).field = (b.setVisit none).field := by
      unfold Block.handStops
      refine each_keeps Block.field _ _ (fun a s => ?_) _
      unfold Block.handStop
      split
      · exact (sensed_iff.mp (sensed_setMark ..)).field
      · rfl
    rw [endVisit_out visiting inside, (nextCycle_kept _).1, stops]
    rfl

/-- A visit that has ended: its node's counts and reach, and the answers handed. -/
theorem endVisit_row (visiting : b.field.visit = some v) :
    let u := b.endVisit
    let x := b.node v.node
    u.field.visit = none
    ∧ (b.inCycle v.node = false →
      u = (v.answers.foldl (fun t a => t.handStop v.node a) (b.setVisit none)).nextCycle)
    ∧ (b.inCycle v.node = true →
      (u.node v.node).missA = (if v.heardA = true then 0 else min 3 (x.missA + 1))
      ∧ (u.node v.node).missB = (if v.heardB = true then 0 else min 3 (x.missB + 1))
      ∧ (let lostA := (u.node v.node).missA = 3
         let lostB := (u.node v.node).missB = 3
         ((x.reach ≠ .unknown ∨ v.answers ≠ []) →
           (u.node v.node).reach
             = if lostA ∧ lostB then .unreachable else if lostA ∨ lostB then .degraded else .reachable)
         ∧ (x.reach = .unknown → v.answers = [] → (u.node v.node).reach
             = if lostA ∧ lostB ∧ b.site.startup = .ready then .unreachable else .unknown))
      ∧ (x.reach ≠ .unreachable → (u.node v.node).reach = .unreachable → (u.node v.node).lastStatus = none)
      ∧ ∃ t : Block, u = (t.handAll v.node v.answers).nextCycle ∧ (t.node v.node).reach = (u.node v.node).reach
        ∧ t = ((b.setVisit none).setNode v.node { x with
            missA := (u.node v.node).missA, missB := (u.node v.node).missB }).setReach v.node
              (u.node v.node).reach) := by
  intro u x
  refine ⟨visit_endVisit visiting, fun left => endVisit_out visiting left, fun inside => ?_⟩
  have node := node_endVisit visiting inside
  have lowA := missNext_le v.heardA x.missA
  have lowB := missNext_le v.heardB x.missB
  have missA : (u.node v.node).missA = missNext v.heardA x.missA := by rw [show u.node v.node = _ from node]; rfl
  have missB : (u.node v.node).missB = missNext v.heardB x.missB := by rw [show u.node v.node = _ from node]; rfl
  have reach : (u.node v.node).reach = b.reachLeft v := by rw [show u.node v.node = _ from node]
  have lost (n : Nat) (h : n ≤ 3) : 3 ≤ n ↔ n = 3 := by omega
  refine ⟨missA, missB, ⟨fun known => ?_, fun unknown silent => ?_⟩, fun here away => ?_, b.visited v,
    endVisit_in visiting inside, ?_, ?_⟩
  · have answered : (x.counted v).reach ≠ .unknown ∨ (!v.answers.isEmpty) = true := by
      refine known.imp id fun some_ => ?_
      cases h : v.answers
      · exact absurd h some_
      · rfl
    rw [reach, missA, missB]
    refine (reachAfter_known _ _ _ answered).trans ?_
    simp only [reachOf, Node.counted, lost _ lowA, lost _ lowB, x]
  · rw [reach, missA, missB]
    unfold Block.reachLeft Block.reachAfter
    rw [if_pos ⟨unknown, by simp [silent]⟩]
    simp only [Node.counted, lost _ lowA, lost _ lowB, x]
    rfl
  · rw [show u.node v.node = _ from node]
    exact if_pos ⟨reach.symm.trans away, here⟩
  · rw [reach, Block.visited, node_setReach_own]
  · rw [reach, missA, missB]
    rfl

end

/-! ### The visit that begins -/

section
variable {s : State}

/-- The next visit of a cycle. -/
theorem nodeVisit_row (started : s.started) :
    (s.block.field.visit ≠ none → exec .nodeVisit s = .next (s.ends s.block))
    ∧ (∀ r rest, s.block.field.visit = none →
        s.block.field.todo.dropWhile (fun r => !s.block.inCycle r) = r :: rest →
        let on_ := fun l => s.block.lineCarries l
        let phase := fun l => if on_ l = true then LinePhase.sending else .unused
        let v : Visit :=
          { node := r, a := phase .a, b := phase .b, sentAt := s.block.site.tb, answers := [], heardA := false
            heardB := false }
        let t := { s.block with field := { s.block.field with todo := rest, visit := some v } }
        let x := s.block.node r
        let sent := { x with seq := (x.seq + 1) % 256, lastOrder := some (s.block.orderFor r) }
        (on_ .a = true ∨ on_ .b = true → exec .nodeVisit s = .next (s.ends (t.setNode r sent)))
        ∧ (on_ .a = false → on_ .b = false → exec .nodeVisit s = .next (s.ends t)))
    ∧ (s.block.field.visit = none → s.block.field.todo.dropWhile (fun r => !s.block.inCycle r) = [] →
        let t := { s.block with field := { s.block.field with todo := [] } }
        exec .nodeVisit s = .next (s.ends t.nextCycle)) := by
  have ran : exec .nodeVisit s = .next (s.ends s.block.visitNext) := event_started started Block.visitNext
  refine ⟨fun busy => ?_, fun r rest free list => ?_, fun free list => ?_⟩
  · have stays : s.block.visitNext = s.block := if_pos (Option.isSome_iff_ne_none.mpr busy)
    rw [ran, stays]
  · intro on_ phase v t x sent
    have go : s.block.visitNext = s.block.visitNode r rest := by
      unfold Block.visitNext
      rw [if_neg (by simp [free]), list]
    have node : t.node r = x := by cases r <;> rfl
    have visits : s.block.visitNode r rest = if (s.block.lineCarries .a || s.block.lineCarries .b) = true
        then t.setNode r { t.node r with seq := ((t.node r).seq + 1) % 256, lastOrder := some (s.block.orderFor r) }
        else t := rfl
    rw [node] at visits
    refine ⟨fun carried => ?_, fun a b => ?_⟩
    · rw [ran, go, visits, if_pos (by simpa using carried)]
    · have none_ : (s.block.lineCarries .a || s.block.lineCarries .b) = false := by
        rw [show s.block.lineCarries .a = false from a, show s.block.lineCarries .b = false from b]
        rfl
      rw [ran, go, visits, if_neg (by simp [none_])]
  · intro t
    have go : s.block.visitNext = t.nextCycle := by
      unfold Block.visitNext
      rw [if_neg (by simp [free]), list]
    rw [ran, go]

/-- A cycle that falls due. -/
theorem fieldCycle_row (started : s.started) :
    let due := s.block.field.cycleDue
    let b := s.block.carryTo due
    let t := { b with field := { b.field with cycleDue := b.nextDue due 100 } }
    let busy := s.block.field.visit ≠ none ∨ s.block.field.todo ≠ []
    (¬busy → exec .fieldCycle s = .next (s.ends t.beginCycle.judgeStartup))
    ∧ (busy → exec .fieldCycle s = .next (s.ends { t with field := { t.field with successor := true } })) := by
  intro due b t busy
  have ran : exec .fieldCycle s = .next (s.ends s.block.cycleComes) := event_started started Block.cycleComes
  have comes : s.block.cycleComes = if (t.field.visit.isSome || !t.field.todo.isEmpty) = true
      then { t with field := { t.field with successor := true } } else t.beginCycle.judgeStartup := rfl
  have busy_iff : (t.field.visit.isSome || !t.field.todo.isEmpty) = true ↔ busy := by
    rw [Bool.or_eq_true, Option.isSome_iff_ne_none, Bool.not_eq_true', List.isEmpty_eq_false_iff]
    exact Iff.rfl
  refine ⟨fun idle => ?_, fun working => ?_⟩
  · rw [ran, comes, if_neg (mt busy_iff.mp idle)]
  · rw [ran, comes, if_pos (busy_iff.mpr working)]

/-- A late deadline that falls due. -/
theorem lateDeadline_row (started : s.started) (g : GroupId) :
    ((s.block.group g).bind Group.deadline = none → exec (.lateDeadline g) s = .next (s.ends s.block))
    ∧ ∀ t, (s.block.group g).bind Group.deadline = some t →
      exec (.lateDeadline g) s = .next (s.ends ((s.block.clockTo t).markLate g))
      ∧ ∀ x, s.block.group g = some x →
        ∃ y, ((s.block.clockTo t).markLate g).group g = some y
          ∧ ∀ m ∈ y.members, m.state = .planned ∨ m.state = .moving → m.late = true := by
  have ran : exec (.lateDeadline g) s = .next (s.ends (s.block.deadlineComes g)) :=
    event_started started fun b => b.deadlineComes g
  refine ⟨fun none_ => ?_, fun t due => ⟨?_, fun x found => markLate_row (x := x) ?_⟩⟩
  · unfold Block.deadlineComes at ran
    rw [ran, none_]
  · unfold Block.deadlineComes at ran
    rw [ran, due]
  · unfold Block.clockTo
    split
    · exact found
    · exact found

end

/-- Settles O57, from the rows of the cycle, of the visit and of the answers. -/
theorem cycleEvents : Obligations.CycleEvents := by
  intro s started
  obtain ⟨busy, next, done⟩ := nodeVisit_row started
  have ended : exec .visitEnd s = .next (s.ends s.block.endVisit.judgeStartup) :=
    event_started started fun b => b.endVisit.judgeStartup
  refine ⟨fieldCycle_row started, busy, next, done, ?_, fun free => ?_, fun v visiting => ?_, lateDeadline_row started,
    beginCycle_row s.block, judgeLag_row s.block, reach_row s.block, ⟨fun _ => rfl, fun _ _ => rfl, fun _ _ _ _ => rfl,
      hand_cab_row s.block, fun d x => (handCabinet_row s.block d x).1, hand_wx_row s.block⟩, fun d here => ?_⟩
  · intro due
    have due_iff : (s.block.field.successor && s.block.field.visit.isNone && s.block.field.todo.isEmpty) = true ↔ due := by
      rw [Bool.and_eq_true, Bool.and_eq_true, Option.isNone_iff_eq_none, List.isEmpty_iff, and_assoc]
    exact ⟨fun h => if_pos (due_iff.mpr h), fun h => if_neg (mt due_iff.mp h)⟩
  · have same : s.block.endVisit = s.block := by
      unfold Block.endVisit
      rw [free]
    rw [ended, same]
  · obtain ⟨freed, left, inside⟩ := endVisit_row visiting
    exact ⟨ended, freed, left, inside⟩
  · intro t
    obtain ⟨axes, zones, key, status⟩ := setReach_cabinet s.block d here
    refine ⟨fun k => ?_, zones, key, status⟩
    obtain ⟨axis, claim⟩ := axes k
    rw [show t.axis d k = _ from axis]
    exact ⟨rfl, rfl, rfl, rfl, rfl, claim⟩

end Sys2Proof.Machine
end


-- ==== What leaves every axis record as it stands ====
section
/-! Most of the machine never writes an axis record: reports, claims and queues, zones, locks, nodes, lines and
frames. -/

open Sys2Proof

namespace Sys2Proof.Machine

section
variable (b : Block)

theorem axes_each {α : Type} (xs : List α) (f : α → Block → Block) (h : ∀ x s, (f x s).axes = s.axes) :
    (b.each xs f).axes = b.axes := each_keeps Block.axes xs f h b

@[simp] theorem axes_modZone (d : DishId) (z : ZoneKind) (f : Zone → Zone) : (b.modZone d z f).axes = b.axes := rfl

@[simp] theorem axes_carryTo (t : Nat) : (b.carryTo t).axes = b.axes := rfl

@[simp] theorem axes_tellBudget : b.tellBudget.axes = b.axes := by simp [Block.tellBudget]

@[simp] theorem axes_reduceToHold (d : DishId) (k : AxisKind) : (b.reduceToHold d k).axes = b.axes := by
  simp [Block.reduceToHold]

@[simp] theorem axes_tellZone (d : DishId) (z : ZoneKind) : (b.tellZone d z).axes = b.axes := by
  unfold Block.tellZone
  (repeat' split) <;> simp

@[simp] theorem axes_deriveZone (d : DishId) (z : ZoneKind) : (b.deriveZone d z).axes = b.axes := rfl

@[simp] theorem axes_rederiveZone (d : DishId) (z : ZoneKind) : (b.rederiveZone d z).axes = b.axes := by
  unfold Block.rederiveZone
  dsimp only
  (repeat' split) <;> simp

@[simp] theorem axes_setDuty (d : DishId) (z : ZoneKind) (duty : Nat) : (b.setDuty d z duty).axes = b.axes := rfl

@[simp] theorem axes_shutZone (d : DishId) (z : ZoneKind) : (b.shutZone d z).axes = b.axes := by
  unfold Block.shutZone
  (repeat' split) <;> simp

@[simp] theorem axes_cutZone (d : DishId) (z : ZoneKind) (need : Nat) : (b.cutZone d z need).1.axes = b.axes := by
  unfold Block.cutZone
  dsimp only
  split <;> simp

theorem axes_cutZones (rs : List ZoneRef) (x : Block × Nat) :
    (rs.foldl (fun (p : Block × Nat) r => p.1.cutZone r.d r.z p.2) x).1.axes = x.1.axes := by
  induction rs generalizing x with
  | nil => rfl
  | cons r rs ih => exact (ih _).trans (axes_cutZone ..)

@[simp] theorem axes_curtail (x : Nat) : (b.curtail x).axes = b.axes := axes_cutZones _ _

@[simp] theorem axes_grant (ws : List Want) (cls : ClaimClass) : (b.grant ws cls).axes = b.axes := by
  have claimed : (b.each ws fun w s => s.setClaim w.d w.k (some ⟨cls, w.watts⟩)).axes = b.axes :=
    axes_each _ _ _ fun _ _ => rfl
  unfold Block.grant
  dsimp only
  split <;> simp [claimed]

@[simp] theorem axes_enqueue (who : Waiter) (ws : List Want) : (b.enqueue who ws).axes = b.axes := by
  unfold Block.enqueue
  (repeat' split) <;> simp

@[simp] theorem axes_withdrawStow (d : DishId) : (b.withdrawStow d).axes = b.axes := by
  unfold Block.withdrawStow
  (repeat' split) <;> simp

@[simp] theorem axes_enterStow (d : DishId) : (b.enterStow d).axes = b.axes := by
  unfold Block.enterStow
  (repeat' split) <;> simp

@[simp] theorem axes_recomputeFloor : b.recomputeFloor.axes = b.axes := by
  unfold Block.recomputeFloor
  dsimp only
  (repeat' split) <;> simp

@[simp] theorem axes_beginWrite : b.beginWrite.axes = b.axes := by
  unfold Block.beginWrite
  (repeat' split) <;> simp

@[simp] theorem axes_setWaiting (ws : List WriteReq) : (b.setWaiting ws).axes = b.axes := rfl

@[simp] theorem axes_tellStoreFault (kind : Option WriteKind) (nums : List Nat) :
    (b.tellStoreFault kind nums).axes = b.axes := by
  simp [Block.tellStoreFault]

@[simp] theorem axes_storeFail (kind : Option WriteKind) (nums : List Nat) :
    (b.storeFail kind nums).axes = b.axes := by
  simp [Block.storeFail]

@[simp] theorem axes_answer (id : Nat) (code : Code) (body : List Fld) (after : After) :
    (b.answer id code body after).axes = b.axes := rfl

@[simp] theorem axes_replyLock (ok : Bool) (a : LockAsk) : (b.replyLock ok a).axes = b.axes := by
  unfold Block.replyLock
  (repeat' split) <;> simp

@[simp] theorem axes_askLock (a : LockAsk) : (b.askLock a).axes = b.axes := by
  unfold Block.askLock
  (repeat' split) <;> simp

@[simp] theorem axes_askFull (id : Nat) : (b.askFull id).axes = b.axes := by
  unfold Block.askFull
  (repeat' split) <;> simp

@[simp] theorem axes_markStored (nums : List Nat) : (b.markStored nums).axes = b.axes := by
  unfold Block.markStored
  exact (axes_each _ _ _ fun _ _ => by simp).trans (by simp)

@[simp] theorem axes_writeDone (ok : Bool) : (b.writeDone ok).axes = b.axes := by
  have locked (xs : List LockAsk) (c : Block) : (c.each xs fun a s => s.replyLock ok a).axes = c.axes :=
    axes_each _ _ _ fun _ _ => axes_replyLock ..
  have saved (xs : List Nat) (code : Code) (c : Block) : (c.each xs fun id s => s.answer id code []).axes = c.axes :=
    axes_each _ _ _ fun _ _ => rfl
  unfold Block.writeDone
  dsimp only
  (repeat' split) <;> simp [locked, saved]

@[simp] theorem axes_tellClamped (d : DishId) (p : Point) (asked : Int) :
    (b.tellClamped d p asked).axes = b.axes := by
  simp [Block.tellClamped]

@[simp] theorem axes_openClamp (d : DishId) (p : Point) (asked : Int) : (b.openClamp d p asked).axes = b.axes := by
  unfold Block.openClamp
  (repeat' split) <;> simp

@[simp] theorem axes_closeClamp (d : DishId) : (b.closeClamp d).axes = b.axes := rfl

@[simp] theorem axes_trim (v : DishId) : (b.trim v).axes = b.axes := by simp [Block.trim]

@[simp] theorem axes_joinPoint (d : DishId) (p : PointParams) : (b.joinPoint d p).axes = b.axes := by
  unfold Block.joinPoint
  dsimp only
  (repeat' split) <;> simp

@[simp] theorem axes_flush (d : DishId) : (b.flush d).axes = b.axes := rfl

@[simp] theorem axes_dropBefore (d : DishId) (t : Nat) : (b.dropBefore d t).axes = b.axes := rfl

@[simp] theorem axes_raisePoints (d : DishId) : (b.raisePoints d).axes = b.axes := by
  unfold Block.raisePoints
  dsimp only
  (repeat' split) <;> simp

@[simp] theorem axes_tellMode (d : DishId) (prev : Mode) (cause : ModeCause) :
    (b.tellMode d prev cause).axes = b.axes := by
  simp [Block.tellMode]

@[simp] theorem axes_saveContext (d : DishId) (o : Origin) : (b.saveContext d o).axes = b.axes := by
  unfold Block.saveContext
  (repeat' split) <;> simp

@[simp] theorem axes_clearContext (d : DishId) : (b.clearContext d).axes = b.axes := rfl

@[simp] theorem axes_setGroupState (g : GroupId) (st : GroupState) : (b.setGroupState g st).axes = b.axes := by
  simp [Block.setGroupState]

@[simp] theorem axes_cutEngaging (d : DishId) (k : AxisKind) : (b.cutEngaging d k).axes = b.axes := by
  unfold Block.cutEngaging
  (repeat' split) <;> simp

@[simp] theorem axes_abortAll (r : EndReason) : (b.abortAll r).axes = b.axes := by
  unfold Block.abortAll
  exact (axes_each _ _ _ fun _ _ => by (repeat' split) <;> simp).trans (by simp)

@[simp] theorem axes_recordGrant (g : GroupId) (n : Nat) (ws : List Want) : (b.recordGrant g n ws).axes = b.axes := by
  unfold Block.recordGrant
  (repeat' split) <;> simp

@[simp] theorem axes_blockStow (d : DishId) (cause : ModeCause) : (b.blockStow d cause).axes = b.axes := by
  simp [Block.blockStow]

@[simp] theorem axes_finishStow (d : DishId) : (b.finishStow d).axes = b.axes := by
  unfold Block.finishStow
  dsimp only
  (repeat' split) <;> simp

@[simp] theorem axes_clearDeferrals : b.clearDeferrals.axes = b.axes := rfl

@[simp] theorem axes_tellEstop : b.tellEstop.axes = b.axes := by simp [Block.tellEstop]

@[simp] theorem axes_estopMode (d : DishId) : (b.estopMode d).axes = b.axes := by
  unfold Block.estopMode
  (repeat' split) <;> simp

@[simp] theorem axes_stopMembers (b0 : Block) (g : GroupId) : (Block.stopMembers b0 b g).axes = b.axes := by
  unfold Block.stopMembers
  (repeat' split)
  · exact axes_each _ _ _ fun _ _ => by simp
  all_goals rfl

@[simp] theorem axes_tellWx (n : WeatherId) (cause : WxCause) : (b.tellWx n cause).axes = b.axes := by
  simp [Block.tellWx]

@[simp] theorem axes_tellSnow (cause : Option Nat) : (b.tellSnow cause).axes = b.axes := by simp [Block.tellSnow]

@[simp] theorem axes_judgeSnow : b.judgeSnow.axes = b.axes := by
  unfold Block.judgeSnow
  (repeat' split) <;> simp

@[simp] theorem axes_settleTimers : b.settleTimers.axes = b.axes := rfl

@[simp] theorem axes_expireWx (n : WeatherId) : (b.expireWx n).axes = b.axes := by
  unfold Block.expireWx
  dsimp only
  (repeat' split) <;> simp

@[simp] theorem axes_advanceTimers (b0 : Block) : (Block.advanceTimers b0 b).axes = b.axes := rfl

@[simp] theorem axes_tellSiteWeather : b.tellSiteWeather.axes = b.axes := by simp [Block.tellSiteWeather]

@[simp] theorem axes_recordPlan (g : GroupId) (ms : List Mover) (n0 : Nat) :
    (b.recordPlan g ms n0).axes = b.axes := rfl

@[simp] theorem axes_judgeZone (d : DishId) (z : ZoneKind) : (b.judgeZone d z).axes = b.axes := rfl

@[simp] theorem axes_heaterSecond : b.heaterSecond.axes = b.axes := by
  have melted : (b.each allDishes fun d s => s.modZone d .surf Zone.countMelt).axes = b.axes :=
    axes_each _ _ _ fun _ _ => rfl
  have judged (c : Block) : (c.eachZone fun d z s => s.judgeZone d z).axes = c.axes := axes_each _ _ _ fun _ _ => rfl
  have served (c : Block) (duty : DishId → ZoneKind → Nat) :
      (c.eachZone fun d z s => (s.setDuty d z (duty d z)).rederiveZone d z).axes = c.axes :=
    axes_each _ _ _ fun _ _ => by simp
  unfold Block.heaterSecond
  dsimp only
  (repeat' split) <;> simp [judged, served, melted]

@[simp] theorem axes_loseZones (d : DishId) : (b.loseZones d).axes = b.axes := by simp [Block.loseZones]

@[simp] theorem axes_faultZone (d : DishId) (z : ZoneKind) : (b.faultZone d z).axes = b.axes := by
  simp [Block.faultZone]

@[simp] theorem axes_zoneLockRise (d : DishId) (z : ZoneKind) : (b.zoneLockRise d z).axes = b.axes := by
  simp [Block.zoneLockRise]

@[simp] theorem axes_zoneLockFall (d : DishId) (z : ZoneKind) : (b.zoneLockFall d z).axes = b.axes := by
  unfold Block.zoneLockFall
  (repeat' split) <;> simp

@[simp] theorem axes_judgeEntry (e : LockEntry) : (b.judgeEntry e).axes = b.axes := by
  unfold Block.judgeEntry
  dsimp only
  (repeat' split) <;> simp

@[simp] theorem axes_settleLocks : b.settleLocks.axes = b.axes := by
  unfold Block.settleLocks
  exact (axes_each _ _ _ fun _ _ => by simp).trans (by simp)

@[simp] theorem axes_clearKey (d : DishId) : (b.clearKey d).axes = b.axes := rfl

@[simp] theorem axes_reportReach (r : NodeRef) (new : Reach) : (b.reportReach r new).axes = b.axes := by
  unfold Block.reportReach
  dsimp only
  (repeat' split) <;> simp

@[simp] theorem axes_setLineState (l : Line) (x : LineRec) (cause : LineCause) :
    (b.setLineState l x cause).axes = b.axes := by
  simp [Block.setLineState]

@[simp] theorem axes_setVisit (v : Option Visit) : (b.setVisit v).axes = b.axes := rfl

@[simp] theorem axes_echoFails (l : Line) : (b.echoFails l).axes = b.axes := by
  unfold Block.echoFails
  dsimp only
  (repeat' split) <;> simp

@[simp] theorem axes_frameSent (l : Line) : (b.frameSent l).axes = b.axes := by
  unfold Block.frameSent
  dsimp only
  (repeat' split) <;> simp

@[simp] theorem axes_breakGoesOn (l : Line) : (b.breakGoesOn l).axes = b.axes := by
  unfold Block.breakGoesOn
  (repeat' split) <;> simp

@[simp] theorem axes_markLate (g : GroupId) : (b.markLate g).axes = b.axes := by
  unfold Block.markLate
  split
  · rfl
  · exact axes_each _ _ _ fun _ _ => by split <;> simp

@[simp] theorem axes_judgeLate (g : GroupId) (now : Nat) : (b.judgeLate g now).axes = b.axes := by
  unfold Block.judgeLate
  (repeat' split) <;> simp

@[simp] theorem axes_answerEnds (l : Line) (bytes : List Byte) : (b.answerEnds l bytes).axes = b.axes := by
  unfold Block.answerEnds
  dsimp only
  (repeat' split) <;> simp

@[simp] theorem axes_setConfigured (d : DishId) (v : Bool) : (b.setConfigured d v).axes = b.axes := rfl

@[simp] theorem axes_leaveCycle (r : NodeRef) : (b.leaveCycle r).axes = b.axes := by simp [Block.leaveCycle]

@[simp] theorem axes_rederiveBoth (d : DishId) : (b.rederiveBoth d).axes = b.axes := by simp [Block.rederiveBoth]

@[simp] theorem axes_settleOutputs : b.settleOutputs.axes = b.axes := rfl

@[simp] theorem axes_kick : b.kick.axes = b.axes := by
  unfold Block.kick
  (repeat' split) <;> simp

@[simp] theorem axes_count (f : LinkCounters → LinkCounters) : (b.count f).axes = b.axes := rfl

@[simp] theorem axes_joinOut (tag : Tag) (kind : Byte) (req : Option Instr) (reply : Option Reply) :
    (b.joinOut tag kind req reply).axes = b.axes := rfl

@[simp] theorem axes_portAnswer (tag : Tag) (kind : Byte) (code : Code) :
    (b.portAnswer tag kind code).axes = b.axes := by
  unfold Block.portAnswer
  (repeat' split) <;> simp

@[simp] theorem axes_accept (i : Instr) : (b.accept i).axes = b.axes := by
  unfold Block.accept
  (repeat' split) <;> simp

@[simp] theorem axes_judgeFrame (bytes : List Byte) : (b.judgeFrame bytes).axes = b.axes := by
  unfold Block.judgeFrame
  dsimp only
  (repeat' split) <;> simp

@[simp] theorem axes_setRx (st : RxState) (bytes : List Byte) : (b.setRx st bytes).axes = b.axes := rfl

@[simp] theorem axes_abandon (f : LinkCounters → LinkCounters) : (b.abandon f).axes = b.axes := by
  unfold Block.abandon
  (repeat' split) <;> simp

@[simp] theorem axes_rxByte (x : Byte) : (b.rxByte x).axes = b.axes := by
  unfold Block.rxByte
  dsimp only
  (repeat' split) <;> simp

@[simp] theorem axes_rxBytesIn (bytes : List Byte) : (b.rxBytesIn bytes).axes = b.axes := by
  unfold Block.rxBytesIn
  exact (axes_each _ _ _ fun _ _ => by simp).trans (by simp)

@[simp] theorem axes_arrives (i : Instr) : (b.arrives i).axes = b.axes := by
  unfold Block.arrives
  (repeat' split) <;> simp

@[simp] theorem axes_putLocks (ls : List StoredLock) : (b.putLocks ls).axes = b.axes := rfl

@[simp] theorem axes_beginDiscovery : b.beginDiscovery.axes = b.axes := rfl

@[simp] theorem axes_levelBudget : b.levelBudget.axes = b.axes := rfl

@[simp] theorem axes_setSite (c : SiteCfg) : (b.setSite c).axes = b.axes := rfl

@[simp] theorem axes_configureLines (p : LinesParams) : (b.configureLines p).axes = b.axes := rfl

@[simp] theorem axes_setClock (ms : Nat) : (b.setClock ms).axes = b.axes := rfl

@[simp] theorem axes_raiseBudget (w : Nat) : (b.raiseBudget w).axes = b.axes := by simp [Block.raiseBudget]

@[simp] theorem axes_lowerBudget (w : Nat) : (b.lowerBudget w).axes = b.axes := by
  unfold Block.lowerBudget
  dsimp only
  (repeat' split) <;> simp

@[simp] theorem axes_setBudget (w : Nat) : (b.setBudget w).axes = b.axes := by
  unfold Block.setBudget
  (repeat' split) <;> simp

@[simp] theorem axes_clearPark (d : DishId) : (b.clearPark d).axes = b.axes := rfl

@[simp] theorem axes_formIn (g : GroupId) (x : Group) : (b.formIn g x).axes = b.axes := by
  unfold Block.formIn
  exact (axes_each _ _ _ fun _ _ => by simp).trans (by simp)

@[simp] theorem axes_unlatch : b.unlatch.axes = b.axes := by simp [Block.unlatch]

@[simp] theorem axes_mendZone (d : DishId) (z : ZoneKind) : (b.mendZone d z).axes = b.axes := by simp [Block.mendZone]

@[simp] theorem axes_setMask (m : BitVec 20) : (b.setMask m).axes = b.axes := rfl

@[simp] theorem axes_enableWx (n : WeatherId) : (b.enableWx n).axes = b.axes := by simp [Block.enableWx]

@[simp] theorem axes_forgetWx (n : WeatherId) : (b.forgetWx n).axes = b.axes := by
  unfold Block.forgetWx
  dsimp only
  (repeat' split) <;> simp

@[simp] theorem axes_setPrewarm (d : DishId) (start : Bool) : (b.setPrewarm d start).axes = b.axes := by
  unfold Block.setPrewarm
  (repeat' split) <;> simp

@[simp] theorem axes_setSnowForce (v : Bool) : (b.setSnowForce v).axes = b.axes := by simp [Block.setSnowForce]

@[simp] theorem axes_clockTo (t : Nat) : (b.clockTo t).axes = b.axes := by
  unfold Block.clockTo
  (repeat' split) <;> simp

@[simp] theorem axes_deadlineComes (g : GroupId) : (b.deadlineComes g).axes = b.axes := by
  unfold Block.deadlineComes
  (repeat' split) <;> simp

@[simp] theorem axes_beaconComes : b.beaconComes.axes = b.axes := by
  unfold Block.beaconComes
  (repeat' split) <;> simp

@[simp] theorem axes_nextSecond : b.nextSecond.axes = b.axes := rfl

@[simp] theorem axes_prewarmExpires (d : DishId) : (b.prewarmExpires d).axes = b.axes := by
  unfold Block.prewarmExpires
  (repeat' split) <;> simp

@[simp] theorem axes_mismatchComes (d : DishId) (z : ZoneKind) : (b.mismatchComes d z).axes = b.axes := by
  unfold Block.mismatchComes
  (repeat' split) <;> simp

theorem axes_tellGroup (g : GroupId) (m : Option Member) : (b.tellGroup g m).axes = b.axes := by simp

theorem axes_setMode (d : DishId) (m : Mode) (why : ModeCause) : (b.setMode d m why).axes = b.axes := by
  simp

theorem axes_callExamine : b.callExamine.axes = b.axes := rfl

@[simp] theorem axes_resumePlan (d : DishId) (c : SavedContext) : (b.resumePlan d c).1.axes = b.axes := by
  unfold Block.resumePlan
  split <;> simp

variable {b} in
theorem axes_offer {d : DishId} {x : PointParams} {now : Nat} {r : Block × Bool} (e : b.offer d x now = .ok r) :
    r.1.axes = b.axes := by
  unfold Block.offer at e
  dsimp only at e
  (repeat' split at e) <;> simp at e
  all_goals subst e; simp

@[simp] theorem axes_takePoints (d : DishId) (now n : Nat) (clamped : Bool) (ps : List PointParams) :
    (b.takePoints d now n clamped ps).1.axes = b.axes := by
  induction ps generalizing b n clamped with
  | nil => rfl
  | cons x ps ih =>
    unfold Block.takePoints
    split
    · rfl
    · next offered => exact (ih ..).trans (axes_offer (r := (_, _)) offered)

end

end Sys2Proof.Machine
end


-- ==== An axis that does not begin to release or to test its brake ====
section
/-! No operation on one axis but `proceed` brings an axis to RELEASING or TESTING: each keeps the axis resting. -/

open Sys2Proof

namespace Sys2Proof.Machine

/-- From another state, an axis comes to release or to test its brake. -/
def AxisState.begins (old new : AxisState) : Bool :=
  (new == .releasing && old != .releasing) || (new == .testing && old != .testing)

@[simp] theorem begins_other (old : AxisState) {new : AxisState} (r : new ≠ .releasing) (t : new ≠ .testing) :
    old.begins new = false := by
  cases new <;> simp_all [AxisState.begins]

/-- The axis `p`, which stood in `old`, has not begun to release or to test its brake. -/
def Rests (p : DishId × AxisKind) (old : AxisState) (axes : Vector (PerAxis Axis) 12) : Prop :=
  old.begins ((axes[p.1]).get p.2).state = false

section
variable {p : DishId × AxisKind} {old : AxisState} {b : Block}

theorem rests_of_axes {c : Block} (e : c.axes = b.axes) (h : Rests p old b.axes) : Rests p old c.axes := e ▸ h

theorem rests_ite {c : Prop} [Decidable c] {x y : Block} (hx : Rests p old x.axes) (hy : Rests p old y.axes) :
    Rests p old (if c then x else y).axes := by
  split <;> assumption

@[simp] theorem rests_setAxis (h : Rests p old b.axes) (d : DishId) (k : AxisKind) {x : Axis}
    (hx : x.state = (b.axis d k).state ∨ old.begins x.state = false) : Rests p old (b.setAxis d k x).axes := by
  have record := axis_setAxis b p.1 d p.2 k x
  unfold Block.axis at record
  unfold Rests at *
  rw [record]
  split
  · next same =>
    obtain ⟨rfl, rfl⟩ := same
    obtain kept | quiet := hx
    · rw [kept]; exact h
    · exact quiet
  · exact h

@[simp] theorem rests_modAxis (h : Rests p old b.axes) (d : DishId) (k : AxisKind) {f : Axis → Axis}
    (hf : (f (b.axis d k)).state = (b.axis d k).state) : Rests p old (b.modAxis d k f).axes :=
  rests_setAxis h d k (.inl hf)

@[simp] theorem rests_setOrder (h : Rests p old b.axes) (d : DishId) (k : AxisKind) (o : Order) :
    Rests p old (b.setOrder d k o).axes := by
  rw [setOrder_eq]
  exact rests_setAxis h d k (.inl (by simp))

@[simp] theorem rests_enter (h : Rests p old b.axes) (d : DishId) (k : AxisKind) {st : AxisState}
    (hs : old.begins st = false) : Rests p old (b.enter d k st).axes := by
  unfold Block.enter
  have : Rests p old (b.modAxis d k (·.entered st)).axes := rests_setAxis h d k (.inr hs)
  dsimp only
  (repeat' split) <;> simp [this]

theorem rests_each {α : Type} (h : Rests p old b.axes) (xs : List α) (f : α → Block → Block)
    (hf : ∀ x s, Rests p old s.axes → Rests p old (f x s).axes) : Rests p old (b.each xs f).axes :=
  each_holds (fun s => Rests p old s.axes) xs f (fun x s hs => hf x s hs) b h

theorem rests_bothAxes (h : Rests p old b.axes) (f : AxisKind → Block → Block)
    (hf : ∀ k s, Rests p old s.axes → Rests p old (f k s).axes) : Rests p old (b.bothAxes f).axes :=
  hf _ _ (hf _ _ h)

@[simp] theorem rests_dropNeed (h : Rests p old b.axes) (d : DishId) (k : AxisKind) :
    Rests p old (b.dropNeed d k).axes := by
  simp [Block.dropNeed, h]

@[simp] theorem rests_endRelease (h : Rests p old b.axes) (d : DishId) (k : AxisKind) :
    Rests p old (b.endRelease d k).axes := by
  simp [Block.endRelease, h]

@[simp] theorem rests_withdrawNeed (h : Rests p old b.axes) (d : DishId) (k : AxisKind) :
    Rests p old (b.withdrawNeed d k).axes := by
  unfold Block.withdrawNeed
  dsimp only
  split <;> simp [h]

@[simp] theorem rests_engage (h : Rests p old b.axes) (d : DishId) (k : AxisKind) :
    Rests p old (b.engage d k).axes := by
  simp (maxDischargeDepth := 9) [Block.engage, h]

@[simp] theorem rests_stopAxis (h : Rests p old b.axes) (d : DishId) (k : AxisKind) (i : AfterStop) :
    Rests p old (b.stopAxis d k i).axes := by
  simp (maxDischargeDepth := 9) [Block.stopAxis, h]

@[simp] theorem rests_faultAxis (h : Rests p old b.axes) (d : DishId) (k : AxisKind) (r : FaultReason) :
    Rests p old (b.faultAxis d k r).axes := by
  simp (maxDischargeDepth := 9) [Block.faultAxis, h]

@[simp] theorem rests_offlineAxis (h : Rests p old b.axes) (d : DishId) (k : AxisKind) :
    Rests p old (b.offlineAxis d k).axes := by
  simp [Block.offlineAxis, h]

@[simp] theorem rests_rest (h : Rests p old b.axes) (d : DishId) (k : AxisKind) : Rests p old (b.rest d k).axes := by
  unfold Block.rest
  split <;> simp [h]

@[simp] theorem rests_abandonTest (h : Rests p old b.axes) (d : DishId) (k : AxisKind) :
    Rests p old (b.abandonTest d k).axes := by
  simp [Block.abandonTest, h]

@[simp] theorem rests_lockRise (h : Rests p old b.axes) (d : DishId) (k : AxisKind) :
    Rests p old (b.lockRise d k).axes := by
  unfold Block.lockRise
  split <;> simp [h]

@[simp] theorem rests_lockFall (h : Rests p old b.axes) (d : DishId) (k : AxisKind) :
    Rests p old (b.lockFall d k).axes := by
  unfold Block.lockFall
  split <;> simp [h]

@[simp] theorem rests_estopAxis (h : Rests p old b.axes) (d : DishId) (k : AxisKind) :
    Rests p old (b.estopAxis d k).axes := by
  unfold Block.estopAxis
  split <;> simp [h]

@[simp] theorem rests_deliverNeed (h : Rests p old b.axes) (d : DishId) (k : AxisKind) (n : Need) :
    Rests p old (b.deliverNeed d k n).1.axes := by
  unfold Block.deliverNeed
  dsimp only
  (repeat' split) <;> simp [h]

@[simp] theorem rests_judgeWear (h : Rests p old b.axes) (d : DishId) (k : AxisKind) :
    Rests p old (b.judgeWear d k).axes := by
  unfold Block.judgeWear
  dsimp only
  split <;> simp [h]

@[simp] theorem rests_releaseConfirmed (h : Rests p old b.axes) (d : DishId) (k : AxisKind) :
    Rests p old (b.releaseConfirmed d k).axes := by
  unfold Block.releaseConfirmed
  dsimp only
  (repeat' split) <;> simp (maxDischargeDepth := 9) [h]

@[simp] theorem rests_stopComplete (h : Rests p old b.axes) (d : DishId) (k : AxisKind) :
    Rests p old (b.stopComplete d k).axes := by
  unfold Block.stopComplete
  dsimp only
  (repeat' split) <;> simp [h]

@[simp] theorem rests_engageConfirmed (h : Rests p old b.axes) (d : DishId) (k : AxisKind) :
    Rests p old (b.engageConfirmed d k).axes := by
  unfold Block.engageConfirmed
  split <;> simp (maxDischargeDepth := 9) [h]

@[simp] theorem rests_arrive (h : Rests p old b.axes) (d : DishId) (k : AxisKind) :
    Rests p old (b.arrive d k).axes := by
  simp [Block.arrive, h]

@[simp] theorem rests_heardAgain (h : Rests p old b.axes) (d : DishId) (k : AxisKind) (r : AxisReport) :
    Rests p old (b.heardAgain d k r).axes := by
  unfold Block.heardAgain
  (repeat' split) <;> simp [h]

@[simp] theorem rests_answerByState (h : Rests p old b.axes) (d : DishId) (k : AxisKind) (r : AxisReport) :
    Rests p old (b.answerByState d k r).axes := by
  unfold Block.answerByState
  dsimp only
  (repeat' split) <;> simp [h]

@[simp] theorem rests_axisAnswer (h : Rests p old b.axes) (d : DishId) (k : AxisKind) (r : AxisReport) :
    Rests p old (b.axisAnswer d k r).axes := by
  unfold Block.axisAnswer
  dsimp only
  (repeat' split) <;> simp [h]

@[simp] theorem rests_axisRefused (h : Rests p old b.axes) (d : DishId) (k : AxisKind) :
    Rests p old (b.axisRefused d k).axes := by
  unfold Block.axisRefused
  dsimp only
  split <;> simp [h]

@[simp] theorem rests_orderMove (h : Rests p old b.axes) (d : DishId) (k : AxisKind) (target : Int) (dur start : Nat) :
    Rests p old (b.orderMove d k target dur start).axes := by
  simp [Block.orderMove, h]

@[simp] theorem rests_orderHold (h : Rests p old b.axes) (d : DishId) (k : AxisKind) :
    Rests p old (b.orderHold d k).axes := by
  unfold Block.orderHold
  split <;> simp [h]

@[simp] theorem rests_orderBrake (h : Rests p old b.axes) (d : DishId) (k : AxisKind) :
    Rests p old (b.orderBrake d k).axes := by
  simp [Block.orderBrake, h]

@[simp] theorem rests_needHold (h : Rests p old b.axes) (d : DishId) (k : AxisKind) :
    Rests p old (b.needHold d k).axes := by
  simp [Block.needHold, h]

@[simp] theorem rests_holdAfterEnd (h : Rests p old b.axes) (d : DishId) (k : AxisKind) :
    Rests p old (b.holdAfterEnd d k).axes := by
  unfold Block.holdAfterEnd
  dsimp only
  (repeat' split) <;> simp [h]

@[simp] theorem rests_brakeInPlace (h : Rests p old b.axes) (d : DishId) (k : AxisKind) :
    Rests p old (b.brakeInPlace d k).axes := by
  unfold Block.brakeInPlace
  split <;> simp [h]

@[simp] theorem rests_orderTrack (h : Rests p old b.axes) (d : DishId) (k : AxisKind) :
    Rests p old (b.orderTrack d k).axes := by
  simp [Block.orderTrack, h]

@[simp] theorem rests_refreshTrack (h : Rests p old b.axes) (d : DishId) (k : AxisKind) :
    Rests p old (b.refreshTrack d k).axes := by
  unfold Block.refreshTrack
  split <;> simp [h]

@[simp] theorem rests_judgeLag (h : Rests p old b.axes) (d : DishId) (k : AxisKind) (r : AxisReport) :
    Rests p old (b.judgeLag d k r).axes := by
  unfold Block.judgeLag
  dsimp only
  (repeat' split) <;> simp [h]

@[simp] theorem rests_holdBoth (h : Rests p old b.axes) (d : DishId) : Rests p old (b.holdBoth d).axes :=
  rests_bothAxes h _ fun _ _ hs => rests_holdAfterEnd hs ..

@[simp] theorem rests_brakeBoth (h : Rests p old b.axes) (d : DishId) : Rests p old (b.brakeBoth d).axes :=
  rests_bothAxes h _ fun _ _ hs => rests_brakeInPlace hs ..

@[simp] theorem rests_endTracking (h : Rests p old b.axes) (d : DishId) (cause : ModeCause) :
    Rests p old (b.endTracking d cause).axes := by
  simp [Block.endTracking, h]

@[simp] theorem rests_holdNeeds (h : Rests p old b.axes) (d : DishId) : Rests p old (b.holdNeeds d).axes :=
  rests_bothAxes h _ fun _ _ hs => by split <;> simp [hs]

@[simp] theorem rests_awaitStow (h : Rests p old b.axes) (d : DishId) : Rests p old (b.awaitStow d).axes := by
  unfold Block.awaitStow
  split <;> simp [h]

@[simp] theorem rests_haltStow (h : Rests p old b.axes) (d : DishId) : Rests p old (b.haltStow d).axes :=
  rests_bothAxes (by simp [h]) _ fun _ _ hs => by split <;> simp [hs]

end

end Sys2Proof.Machine
end


-- ==== Groups, moves, losses and grants begin no release ====
section
/-! What the requesters of an axis do, and what a grant brings, keeps every axis resting: a need delivered to a
braked axis
only makes it wait. -/

open Sys2Proof

namespace Sys2Proof.Machine

section
variable {p : DishId × AxisKind} {old : AxisState} {b : Block}

@[simp] theorem rests_orderMoves (h : Rests p old b.axes) (m : Mover) (n start : Nat) :
    Rests p old (b.orderMoves m n start).axes := by
  unfold Block.orderMoves
  dsimp only
  (repeat' split) <;> simp [h]

@[simp] theorem rests_startGroup (h : Rests p old b.axes) (g : GroupId) (by_ : Option DishId) :
    Rests p old (b.startGroup g by_).axes := by
  unfold Block.startGroup
  (repeat' split)
  · refine rests_of_axes (axes_tellGroup ..) (rests_each (rests_of_axes (axes_modGroup ..) h) _ _ fun m s hs => ?_)
    split <;> simp [hs]
  · exact h
  · exact h

@[simp] theorem rests_dropMember (h : Rests p old b.axes) (g : GroupId) (d : DishId) (r : DropReason) :
    Rests p old (b.dropMember g d r).axes := by
  simp (maxDischargeDepth := 9) [Block.dropMember, h]

@[simp] theorem rests_releaseMembers (h : Rests p old b.axes) (ms : List Member) :
    Rests p old (b.releaseMembers ms).axes := by
  refine rests_each h _ _ fun m s hs => ?_
  split
  · refine rests_of_axes (axes_setMode ..) (rests_bothAxes (rests_holdBoth hs m.dish) _ fun k u hu => ?_)
    exact rests_of_axes (axes_cutEngaging ..) hu
  · exact hs

@[simp] theorem rests_abortGroup (h : Rests p old b.axes) (g : GroupId) (r : EndReason) (by_ : Option DishId) :
    Rests p old (b.abortGroup g r by_).axes := by
  unfold Block.abortGroup
  dsimp only
  (repeat' split) <;> simp [h]

@[simp] theorem rests_groupLoses (h : Rests p old b.axes) (g : GroupId) (d : DishId) (r : DropReason) :
    Rests p old (b.groupLoses g d r).axes := by
  unfold Block.groupLoses
  (repeat' split) <;> simp [h]

@[simp] theorem rests_startMove (h : Rests p old b.axes) (d : DishId) : Rests p old (b.startMove d).axes := by
  unfold Block.startMove
  (repeat' split) <;> simp [h]

@[simp] theorem rests_endMove (h : Rests p old b.axes) (d : DishId) : Rests p old (b.endMove d).axes := by
  unfold Block.endMove
  (repeat' split) <;> simp [h]

@[simp] theorem rests_loseMove (h : Rests p old b.axes) (d : DishId) : Rests p old (b.loseMove d).axes := by
  unfold Block.loseMove
  dsimp only
  (repeat' split) <;> simp [h]

@[simp] theorem rests_deliverBoth (h : Rests p old b.axes) (d : DishId) (who : Requester) (wa we : Nat) :
    Rests p old (b.deliverBoth d who wa we).1.axes := by
  simp [Block.deliverBoth, h]

@[simp] theorem rests_loseWork (h : Rests p old b.axes) (d : DishId) : Rests p old (b.loseWork d).axes := by
  unfold Block.loseWork
  split <;> simp [h]

@[simp] theorem rests_loseDish (h : Rests p old b.axes) (d : DishId) (r : DropReason) :
    Rests p old (b.loseDish d r).axes := by
  cases slot : (b.dish d).group with
  | none => simp [loseDish_alone _ slot, h]
  | some g => simp [loseDish_group _ slot, h]

@[simp] theorem rests_reactLost (h : Rests p old b.axes) (b0 : Block) (d : DishId) :
    Rests p old (Block.reactLost b0 b d).axes := by
  unfold Block.reactLost
  dsimp only
  split <;> simp [h]

/-! ### Grants and what asks for power -/

@[simp] theorem rests_takeHold (h : Rests p old b.axes) (d : DishId) (ws : List Want) :
    Rests p old (b.takeHold d ws).axes :=
  rests_deliverBoth (rests_of_axes (axes_modDish ..) h) ..

@[simp] theorem rests_takeTrack (h : Rests p old b.axes) (d : DishId) (ws : List Want) (cause : ModeCause) :
    Rests p old (b.takeTrack d ws cause).axes := by
  unfold Block.takeTrack
  dsimp only
  split <;> simp [h]

@[simp] theorem rests_takeMove (h : Rests p old b.axes) (d : DishId) (n : Nat) (ws : List Want) :
    Rests p old (b.takeMove d n ws).axes := by
  unfold Block.takeMove
  dsimp only
  (repeat' split) <;> simp [h]

@[simp] theorem rests_deliverGroup (h : Rests p old b.axes) (g : GroupId) :
    Rests p old (b.deliverGroup g).axes := by
  unfold Block.deliverGroup
  split
  · exact h
  · refine rests_each h _ _ fun m s hs => ?_
    dsimp only
    (repeat' split) <;> simp [hs]

@[simp] theorem rests_grantStow (h : Rests p old b.axes) (d : DishId) : Rests p old (b.grantStow d).axes := by
  simp [Block.grantStow, h]

@[simp] theorem rests_examineStow (h : Rests p old b.axes) : Rests p old b.examineStow.axes := by
  unfold Block.examineStow
  split
  · refine rests_each h _ _ fun d s hs => ?_
    split <;> simp [hs]
  · exact h

@[simp] theorem rests_askStow (h : Rests p old b.axes) (d : DishId) : Rests p old (b.askStow d).axes := by
  unfold Block.askStow
  split <;> simp [h]

@[simp] theorem rests_grantHead (h : Rests p old b.axes) (e : WaitEntry) : Rests p old (b.grantHead e).axes := by
  unfold Block.grantHead
  dsimp only
  (repeat' split) <;> simp [h]

@[simp] theorem rests_examineQueue (h : Rests p old b.axes) (n : Nat) : Rests p old (b.examineQueue n).axes := by
  induction n generalizing b with
  | zero => exact h
  | succ n ih =>
    unfold Block.examineQueue
    (repeat' split)
    · exact h
    · exact ih (rests_grantHead h _)
    · exact h

@[simp] theorem rests_examineOnce (h : Rests p old b.axes) : Rests p old b.examineOnce.axes := by
  unfold Block.examineOnce
  dsimp only
  split <;> simp [h]

@[simp] theorem rests_examineAll (h : Rests p old b.axes) (n : Nat) : Rests p old (b.examineAll n).axes := by
  induction n generalizing b with
  | zero => exact h
  | succ n ih =>
    unfold Block.examineAll
    split
    · exact ih (rests_examineOnce h)
    · exact h

@[simp] theorem rests_examine (h : Rests p old b.axes) : Rests p old b.examine.axes := rests_examineAll h _

@[simp] theorem rests_askPower (h : Rests p old b.axes) (who : Waiter) (ws : List Want) :
    Rests p old (b.askPower who ws).1.axes := by
  unfold Block.askPower
  dsimp only
  (repeat' split) <;> simp [h]

@[simp] theorem rests_askPlanned (h : Rests p old b.axes) (who : Waiter) (ms : List Mover) (n0 limit : Nat) :
    Rests p old (b.askPlanned who ms n0 limit).1.axes := by
  unfold Block.askPlanned
  dsimp only
  (repeat' split) <;> simp [h]

@[simp] theorem rests_askHoldClaim (h : Rests p old b.axes) (d : DishId) (k : AxisKind) :
    Rests p old (b.askHoldClaim d k).axes := by
  unfold Block.askHoldClaim
  dsimp only
  split <;> simp [h]

@[simp] theorem rests_askAxis (h : Rests p old b.axes) (d : DishId) (k : AxisKind) :
    Rests p old (b.askAxis d k).axes := by
  unfold Block.askAxis
  dsimp only
  (repeat' split) <;> simp [h]

@[simp] theorem rests_askTrack (h : Rests p old b.axes) (d : DishId) (cause : ModeCause) :
    Rests p old (b.askTrack d cause).1.axes := by
  unfold Block.askTrack
  dsimp only
  split <;> simp [h]

theorem rests_askMove (h : Rests p old b.axes) {d : DishId} {t : AzEl} {r : Block × Option Nat}
    (e : b.askMove d t = .ok r) : Rests p old r.1.axes := by
  unfold Block.askMove at e
  dsimp only at e
  (repeat' split at e) <;> simp_all
  all_goals subst e; simp [h]

@[simp] theorem rests_beginMove (h : Rests p old b.axes) (d : DishId) (n : Option Nat) :
    Rests p old (b.beginMove d n).axes := by
  unfold Block.beginMove
  split <;> simp [h]

end

end Sys2Proof.Machine
end


-- ==== Stow, shed, arrivals and the latch begin no release ====
section
/-! The protective work of chapter 6 brakes, stops and moves axes; it begins no release. -/

open Sys2Proof

namespace Sys2Proof.Machine

section
variable {p : DishId × AxisKind} {old : AxisState} {b : Block}

@[simp] theorem rests_satisfyHold (h : Rests p old b.axes) (d : DishId) : Rests p old (b.satisfyHold d).axes :=
  rests_bothAxes h _ fun _ _ hs => rests_needHold hs ..

@[simp] theorem rests_resumeDish (h : Rests p old b.axes) (d : DishId) : Rests p old (b.resumeDish d).axes := by
  unfold Block.resumeDish
  split
  · exact h
  · dsimp only
    (repeat' split)
    · simp [h]
    · simp [h]
    · next u _ asked => exact rests_beginMove (rests_askMove (r := (u, _)) (by simp [h]) asked) ..

@[simp] theorem rests_beginStow (h : Rests p old b.axes) (d : DishId) : Rests p old (b.beginStow d).axes := by
  unfold Block.beginStow
  dsimp only
  split <;> simp (maxDischargeDepth := 9) [h]

@[simp] theorem rests_takeIntoStow (h : Rests p old b.axes) (d : DishId) : Rests p old (b.takeIntoStow d).axes := by
  unfold Block.takeIntoStow
  dsimp only
  split <;> simp [h]

@[simp] theorem rests_enterStowLevel (h : Rests p old b.axes) : Rests p old b.enterStowLevel.axes := by
  have lost : Rests p old ((b.abortAll .wind).each allDishes fun d s =>
      if (s.dish d).pendingReq = some .hold then s.losePending d .wind else s).axes := by
    refine rests_each (rests_of_axes (axes_abortAll ..) h) _ _ fun d s hs => ?_
    split <;> simp [hs]
  refine rests_of_axes (axes_callExamine _) (rests_each lost _ _ fun d s hs => ?_)
  split <;> simp [hs]

@[simp] theorem rests_leaveStowDish (h : Rests p old b.axes) (d : DishId) : Rests p old (b.leaveStowDish d).axes := by
  unfold Block.leaveStowDish
  dsimp only
  (repeat' split) <;> simp [h]

@[simp] theorem rests_leaveStowLevel (h : Rests p old b.axes) : Rests p old b.leaveStowLevel.axes := by
  unfold Block.leaveStowLevel
  refine rests_each ?_ _ _ fun _ _ hs => rests_leaveStowDish hs _
  exact rests_of_axes (axes_callExamine _) h

@[simp] theorem rests_settleBlocks (h : Rests p old b.axes) (d : DishId) : Rests p old (b.settleBlocks d).axes := by
  unfold Block.settleBlocks
  dsimp only
  (repeat' split) <;> simp [h]

@[simp] theorem rests_pursueStow (h : Rests p old b.axes) (d : DishId) : Rests p old (b.pursueStow d).axes := by
  unfold Block.pursueStow
  dsimp only
  (repeat' split) <;> simp [h]

theorem rests_shedDish (h : Rests p old b.axes) {d : DishId} {r : Block × Bool} (e : b.shedDish d = .ok r) :
    Rests p old r.1.axes := by
  unfold Block.shedDish at e
  split at e
  · simp at e
  · split at e
    · simp at e
    · simp at e
    · next t n asked =>
      have moved := rests_askMove (r := (t, n)) h asked
      simp only [Except.ok.injEq] at e
      subst e
      refine rests_beginMove (rests_holdNeeds (rests_bothAxes ?_ _ fun _ _ hs => rests_orderHold hs ..) _) ..
      simp [moved]

@[simp] theorem rests_autoShedDish (h : Rests p old b.axes) (d : DishId) : Rests p old (b.autoShedDish d).axes := by
  unfold Block.autoShedDish
  (repeat' split)
  · next shed => exact rests_shedDish (r := (_, _)) h shed
  · exact h
  · exact h

@[simp] theorem rests_takeShedList (h : Rests p old b.axes) (ds : List DishId) :
    Rests p old (b.takeShedList ds).axes := by
  unfold Block.takeShedList
  split
  · refine rests_each h _ _ fun d s hs => ?_
    split <;> simp [hs]
  · exact h

@[simp] theorem rests_deferredSheds (h : Rests p old b.axes) : Rests p old b.deferredSheds.axes := by
  refine rests_each h _ _ fun d s hs => ?_
  split <;> simp -implicitDefEqProofs [hs]

@[simp] theorem rests_memberOutcome (h : Rests p old b.axes) (d : DishId) (thenTrack : Bool) :
    Rests p old (b.memberOutcome d thenTrack).axes := by
  unfold Block.memberOutcome
  dsimp only
  split <;> simp [h]

@[simp] theorem rests_judgeMember (h : Rests p old b.axes) (d : DishId) : Rests p old (b.judgeMember d).axes := by
  unfold Block.judgeMember
  dsimp only
  (repeat' split) <;> simp [h]

@[simp] theorem rests_returnArrived (h : Rests p old b.axes) (d : DishId) (i : ReturnIntent) :
    Rests p old (b.returnArrived d i).axes := by
  unfold Block.returnArrived
  dsimp only
  (repeat' split) <;> simp -implicitDefEqProofs [h]

@[simp] theorem rests_shedArrived (h : Rests p old b.axes) (d : DishId) : Rests p old (b.shedArrived d).axes := by
  unfold Block.shedArrived
  refine rests_of_axes (axes_modDish ..) (rests_bothAxes ?_ _ fun _ _ hs => rests_orderBrake hs ..)
  simp [h]

@[simp] theorem rests_judgeMove (h : Rests p old b.axes) (d : DishId) : Rests p old (b.judgeMove d).axes := by
  unfold Block.judgeMove
  dsimp only
  (repeat' split) <;> simp [h]

@[simp] theorem rests_estopDish (h : Rests p old b.axes) (d : DishId) : Rests p old (b.estopDish d).axes := by
  simp [Block.estopDish, h]

@[simp] theorem rests_latchEstop (h : Rests p old b.axes) (s : StopSource) : Rests p old (b.latchEstop s).axes := by
  have told := rests_of_axes (axes_tellEstop { b with site := { b.site with estop := true, stopSource := some s } }) h
  have braked := rests_each told allAxes (fun p u => u.estopAxis p.1 p.2) fun _ _ hs => rests_estopAxis hs ..
  have stopped := rests_each braked allGroups (fun g u => Block.stopMembers b u g) fun _ _ hs =>
    rests_of_axes (axes_stopMembers ..) hs
  have shut := rests_each (rests_of_axes (axes_abortAll _ .estop) stopped) allDishes (fun d u => u.estopDish d)
    fun _ _ hs => rests_estopDish hs _
  exact rests_each shut _ _ fun _ _ hs => rests_of_axes (axes_flush ..) hs

@[simp] theorem rests_setMark (h : Rests p old b.axes) (s : StopSource) (v : Bool) :
    Rests p old (b.setMark s v).axes := by
  unfold Block.setMark
  dsimp only
  (repeat' split) <;> simp [h]

end

end Sys2Proof.Machine
end


-- ==== Weather, heat, locks and answers begin no release ====
section
/-! An answer completes a release or a test that has begun; neither it nor the weather, the heaters and the
locks begin one. -/

open Sys2Proof

namespace Sys2Proof.Machine

section
variable {p : DishId × AxisKind} {old : AxisState} {b : Block}

@[simp] theorem rests_endEpisode (h : Rests p old b.axes) : Rests p old b.endEpisode.axes := by
  unfold Block.endEpisode
  have zeroed (t : Block) : (t.each allDishes fun d s =>
      s.modZone d .surf fun x => { x with fullSecs := 0, meltMin := 0 }).axes = t.axes :=
    axes_each _ _ _ fun _ _ => axes_modZone ..
  simp [zeroed, h]

@[simp] theorem rests_clearAt (h : Rests p old b.axes) (n : Nat) : Rests p old (b.clearAt n).axes := by
  unfold Block.clearAt
  split <;> simp [h]

@[simp] theorem rests_changeLevel (h : Rests p old b.axes) (lv : Level) (cause : LevelCause) :
    Rests p old (b.changeLevel lv cause).axes := by
  unfold Block.changeLevel
  cases lv with
  | calm => simp [h]
  | watch =>
    refine rests_each ?_ _ _ fun _ _ hs => rests_of_axes (axes_raisePoints ..) hs
    split <;> simp [h]
  | stow => simp [h]

@[simp] theorem rests_evaluate (h : Rests p old b.axes) : Rests p old b.evaluate.axes := by
  unfold Block.evaluate
  dsimp only
  split <;> simp -implicitDefEqProofs [h]

@[simp] theorem rests_figuresChanged (h : Rests p old b.axes) : Rests p old b.figuresChanged.axes := by
  simp [Block.figuresChanged, h]

@[simp] theorem rests_wxFault (h : Rests p old b.axes) (n : WeatherId) : Rests p old (b.wxFault n).axes := by
  unfold Block.wxFault
  dsimp only
  split <;> simp [h]

@[simp] theorem rests_wxWarmed (h : Rests p old b.axes) (n : WeatherId) : Rests p old (b.wxWarmed n).axes := by
  unfold Block.wxWarmed
  dsimp only
  split <;> simp [h]

@[simp] theorem rests_wxTake (h : Rests p old b.axes) (n : WeatherId) (r : Reading) :
    Rests p old (b.wxTake n r).axes := by
  unfold Block.wxTake
  dsimp only
  (repeat' split) <;> simp [h]

@[simp] theorem rests_wxReading (h : Rests p old b.axes) (n : WeatherId) (r : WxBody) :
    Rests p old (b.wxReading n r).axes := by
  unfold Block.wxReading
  (repeat' split) <;> simp [h]

@[simp] theorem rests_sweep (h : Rests p old b.axes) : Rests p old b.sweep.axes := by
  have swept : Rests p old (b.each allWeather fun n s => s.expireWx n).axes :=
    rests_each h _ _ fun _ _ hs => rests_of_axes (axes_expireWx ..) hs
  unfold Block.sweep
  dsimp only
  split <;> simp [swept]

@[simp] theorem rests_advanceClear (h : Rests p old b.axes) (b0 : Block) :
    Rests p old (Block.advanceClear b0 b).axes := by
  unfold Block.advanceClear
  split <;> simp [h]

@[simp] theorem rests_askGroup (h : Rests p old b.axes) (g : GroupId) (ms : List Mover) (n0 limit : Nat) :
    Rests p old (b.askGroup g ms n0 limit).1.axes := by
  unfold Block.askGroup
  dsimp only
  split <;> simp [h]

@[simp] theorem rests_replan (h : Rests p old b.axes) (g : GroupId) : Rests p old (b.replan g).axes := by
  unfold Block.replan
  dsimp only
  (repeat' split) <;> simp -implicitDefEqProofs [h]

@[simp] theorem rests_judgeCold (h : Rests p old b.axes) (d : DishId) (t : Int) :
    Rests p old (b.judgeCold d t).axes := by
  unfold Block.judgeCold
  dsimp only
  (repeat' split) <;> simp [h]

@[simp] theorem rests_zoneAnswer (h : Rests p old b.axes) (d : DishId) (body : CabBody) (surf drive : Bool) :
    Rests p old (b.zoneAnswer d body surf drive).axes :=
  rests_judgeCold (rests_of_axes (by simp) h) ..

@[simp] theorem rests_actOnRise (h : Rests p old b.axes) (b0 : Block) (d : DishId) :
    Rests p old (Block.actOnRise b0 b d).axes := by
  have axis (s : Block) (hs : Rests p old s.axes) (k : AxisKind) :
      Rests p old (if b0.axisLocks d k = 0 ∧ 0 < b.axisLocks d k then s.lockRise d k else s).axes := by
    split <;> simp [hs]
  have zone (s : Block) (z : ZoneKind) :
      (if b0.zoneLocks d z = 0 ∧ 0 < b.zoneLocks d z then s.zoneLockRise d z else s).axes = s.axes := by
    split <;> simp
  exact rests_reactLost (rests_of_axes ((zone ..).trans (zone ..)) (axis _ (axis _ h _) _)) ..

@[simp] theorem rests_actOnFall (h : Rests p old b.axes) (b0 : Block) (d : DishId) :
    Rests p old (Block.actOnFall b0 b d).axes := by
  have axis (s : Block) (hs : Rests p old s.axes) (k : AxisKind) :
      Rests p old (if 0 < b0.axisLocks d k ∧ b.axisLocks d k = 0 then s.lockFall d k else s).axes := by
    split <;> simp [hs]
  have zone (s : Block) (z : ZoneKind) :
      (if 0 < b0.zoneLocks d z ∧ b.zoneLocks d z = 0 then s.zoneLockFall d z else s).axes = s.axes := by
    split <;> simp
  exact rests_of_axes ((zone ..).trans (zone ..)) (axis _ (axis _ h _) _)

@[simp] theorem rests_placeLock (h : Rests p old b.axes) (kind : LockKind) (d : DishId) (holder : Nat) (key : Bool) :
    Rests p old (b.placeLock kind d holder key).1.axes := by
  simp [Block.placeLock, h]

@[simp] theorem rests_takeLock (h : Rests p old b.axes) (e : LockEntry) : Rests p old (b.takeLock e).axes := by
  simp [Block.takeLock, h]

@[simp] theorem rests_keyAnswer (h : Rests p old b.axes) (d : DishId) (lockout : Bool) :
    Rests p old (b.keyAnswer d lockout).axes := by
  unfold Block.keyAnswer
  dsimp only
  (repeat' split) <;> simp -implicitDefEqProofs [h]

@[simp] theorem rests_loseCabinet (h : Rests p old b.axes) (d : DishId) : Rests p old (b.loseCabinet d).axes := by
  refine rests_reactLost ?_ ..
  simp [h]

@[simp] theorem rests_setReach (h : Rests p old b.axes) (r : NodeRef) (new : Reach) :
    Rests p old (b.setReach r new).axes := by
  unfold Block.setReach
  dsimp only
  (repeat' split) <;> simp [h]

@[simp] theorem rests_lineBreaks (h : Rests p old b.axes) (l : Line) : Rests p old (b.lineBreaks l).axes := by
  unfold Block.lineBreaks
  dsimp only
  (repeat' split) <;> simp [h]

@[simp] theorem rests_breakEnds (h : Rests p old b.axes) (l : Line) : Rests p old (b.breakEnds l).axes := by
  unfold Block.breakEnds
  dsimp only
  (repeat' split) <;> simp [h]

@[simp] theorem rests_consume (h : Rests p old b.axes) (d : DishId) (now : Nat) :
    Rests p old (b.consume d now).axes := by
  unfold Block.consume
  dsimp only
  (repeat' split) <;> simp [h]

@[simp] theorem rests_visitNode (h : Rests p old b.axes) (r : NodeRef) (rest : List NodeRef) :
    Rests p old (b.visitNode r rest).axes := by
  unfold Block.visitNode
  dsimp only
  split <;> simp [h]

@[simp] theorem rests_handCabinet (h : Rests p old b.axes) (d : DishId) (x : CabBody) :
    Rests p old (b.handCabinet d x).axes := by
  simp (maxDischargeDepth := 12) [Block.handCabinet, h]

@[simp] theorem rests_handStop (h : Rests p old b.axes) (r : NodeRef) (a : Answer) :
    Rests p old (b.handStop r a).axes := by
  unfold Block.handStop
  split <;> simp [h]

@[simp] theorem rests_hand (h : Rests p old b.axes) (r : NodeRef) (a : Answer) : Rests p old (b.hand r a).axes := by
  unfold Block.hand
  dsimp only
  (repeat' split) <;> simp (maxDischargeDepth := 9) [h]

@[simp] theorem rests_handAll (h : Rests p old b.axes) (r : NodeRef) (as : List Answer) :
    Rests p old (b.handAll r as).axes := by
  induction as generalizing b with
  | nil => exact h
  | cons a as ih =>
    cases as with
    | nil => exact rests_hand h ..
    | cons => exact ih (rests_handStop h ..)

@[simp] theorem rests_handStops (h : Rests p old b.axes) (r : NodeRef) (as : List Answer) :
    Rests p old (b.handStops r as).axes :=
  rests_each h _ _ fun _ _ hs => rests_handStop hs ..

end

end Sys2Proof.Machine
end


-- ==== Cycles, the settling of records, requests and timers begin no release ====
section
/-! The events of the field and of the timers, what an event settles before the outputs, and the work of the
requests. -/

open Sys2Proof

namespace Sys2Proof.Machine

section
variable {p : DishId × AxisKind} {old : AxisState} {b : Block}

@[simp] theorem rests_beginCycle (h : Rests p old b.axes) : Rests p old b.beginCycle.axes := by
  have consumed (c : Block) (hc : Rests p old c.axes) (now : Nat) :
      Rests p old (c.each allDishes fun d s => s.consume d now).axes :=
    rests_each hc _ _ fun _ _ hs => rests_consume hs ..
  have refreshed (c : Block) (hc : Rests p old c.axes) :
      Rests p old (c.each allAxes fun p s => s.refreshTrack p.1 p.2).axes :=
    rests_each hc _ _ fun _ _ hs => rests_refreshTrack hs ..
  have judged (c : Block) (now : Nat) : (c.each allGroups fun g s => s.judgeLate g now).axes = c.axes :=
    axes_each _ _ _ fun _ _ => axes_judgeLate ..
  unfold Block.beginCycle
  cases b.site.clock with
  | none => simp [refreshed, h]
  | some now => simp [judged, refreshed, consumed, h]

@[simp] theorem rests_nextCycle (h : Rests p old b.axes) : Rests p old b.nextCycle.axes := by
  unfold Block.nextCycle
  split <;> simp [h]

@[simp] theorem rests_endVisit (h : Rests p old b.axes) : Rests p old b.endVisit.axes := by
  unfold Block.endVisit
  dsimp only
  (repeat' split) <;> simp (maxDischargeDepth := 9) -implicitDefEqProofs [h]

@[simp] theorem rests_addCabinet (h : Rests p old b.axes) (d : DishId) : Rests p old (b.addCabinet d).axes := by
  unfold Block.addCabinet
  dsimp only
  split <;> simp -implicitDefEqProofs [h]

@[simp] theorem rests_removeCabinet (h : Rests p old b.axes) (d : DishId) :
    Rests p old (b.removeCabinet d).axes := by
  unfold Block.removeCabinet
  dsimp only
  split <;> simp -implicitDefEqProofs [h]

@[simp] theorem rests_setCabinets (h : Rests p old b.axes) (want : DishId → Bool) :
    Rests p old (b.setCabinets want).axes := by
  refine rests_nextCycle (rests_each h _ _ fun d s hs => ?_)
  (repeat' split) <;> simp [hs]

@[simp] theorem rests_loseUnknown (h : Rests p old b.axes) (r : NodeRef) : Rests p old (b.loseUnknown r).axes := by
  unfold Block.loseUnknown
  split <;> simp [h]

@[simp] theorem rests_becomeReady (h : Rests p old b.axes) : Rests p old b.becomeReady.axes := by
  unfold Block.becomeReady
  refine rests_each ?_ _ _ fun _ _ hs => rests_loseUnknown hs _
  exact h

@[simp] theorem rests_judgeStartup (h : Rests p old b.axes) : Rests p old b.judgeStartup.axes := by
  unfold Block.judgeStartup
  split <;> simp [h]

/-! ### What an event settles -/

@[simp] theorem rests_pursuePark (h : Rests p old b.axes) (d : DishId) (k : AxisKind) :
    Rests p old (b.pursuePark d k).axes := by
  unfold Block.pursuePark
  split <;> simp -implicitDefEqProofs [h]

@[simp] theorem rests_pursueTrack (h : Rests p old b.axes) (d : DishId) (k : AxisKind) :
    Rests p old (b.pursueTrack d k).axes := by
  unfold Block.pursueTrack
  split <;> simp [h]

@[simp] theorem rests_pursue (h : Rests p old b.axes) : Rests p old b.pursue.axes := by
  have parked := rests_each h allAxes (fun p s => s.pursuePark p.1 p.2) fun _ _ hs => rests_pursuePark hs ..
  have started := rests_each parked allGroups (fun g s => s.startGroup g none) fun _ _ hs => rests_startGroup hs ..
  have stowed := rests_each started allDishes (fun d s => (s.startMove d).pursueStow d) fun _ _ hs =>
    rests_pursueStow (rests_startMove hs _) _
  have tracked := rests_each stowed allAxes (fun p s => s.pursueTrack p.1 p.2) fun _ _ hs => rests_pursueTrack hs ..
  exact rests_each tracked _ _ fun _ _ hs => rests_of_axes (axes_finishStow ..) hs

@[simp] theorem rests_settlePark (h : Rests p old b.axes) (d : DishId) (k : AxisKind) :
    Rests p old (b.settlePark d k).axes := by
  simp [Block.settlePark, h]

/-! ### Requests -/

@[simp] theorem rests_configureAxis (h : Rests p old b.axes) (d : DishId) (k : AxisKind) (c : AxisCfg) :
    Rests p old (b.configureAxis d k c).axes := by
  simp [Block.configureAxis, h]

@[simp] theorem rests_configureSite (h : Rests p old b.axes) (c : SiteCfg) :
    Rests p old (b.configureSite c).axes := by
  have set : Rests p old (b.setSite c).axes := h
  unfold Block.configureSite
  dsimp only
  have called := rests_ite (c := c.policy ≠ b.site.cfg.policy ∨ c.hmin ≠ b.site.cfg.hmin)
    (rests_of_axes (axes_callExamine _) set) set
  have cleared := rests_ite (c := b.site.cfg.autoShed && !c.autoShed)
    (rests_of_axes (axes_clearDeferrals _) called) called
  have figured := rests_ite (c := c.quorum ≠ b.site.cfg.quorum) (rests_figuresChanged cleared) cleared
  have warmed := rests_ite (c := c.warmTarget < b.site.cfg.warmTarget)
    (rests_each figured allWeather (fun n s => s.wxWarmed n) fun _ _ hs => rests_wxWarmed hs _) figured
  exact rests_ite warmed (rests_evaluate warmed)

@[simp] theorem rests_flushDish (h : Rests p old b.axes) (d : DishId) : Rests p old (b.flushDish d).axes := by
  unfold Block.flushDish
  dsimp only
  split <;> simp -implicitDefEqProofs [h]

@[simp] theorem rests_restartPark (h : Rests p old b.axes) (d : DishId) : Rests p old (b.restartPark d).axes :=
  rests_bothAxes h _ fun _ _ hs => by simp [hs]

@[simp] theorem rests_askHold (h : Rests p old b.axes) (d : DishId) : Rests p old (b.askHold d).1.axes := by
  unfold Block.askHold
  dsimp only
  split <;> simp [h]

@[simp] theorem rests_parkDish (h : Rests p old b.axes) (d : DishId) : Rests p old (b.parkDish d).axes := by
  simp [Block.parkDish, h]

@[simp] theorem rests_handAxis (h : Rests p old b.axes) (g : GroupId) (d : DishId) (k : AxisKind) :
    Rests p old (b.handAxis g d k).axes := by
  simp [Block.handAxis, Block.needGroup, h]

@[simp] theorem rests_handMembers (h : Rests p old b.axes) (g : GroupId) (x : Group) :
    Rests p old (b.handMembers g x).axes :=
  rests_each h _ _ fun _ _ hs => rests_bothAxes (by simp [hs]) _ fun _ _ hu => rests_handAxis hu ..

@[simp] theorem rests_startReply (h : Rests p old b.axes) (g : GroupId) (code : Code) :
    Rests p old (b.startReply g code).1.axes := by
  unfold Block.startReply
  split <;> exact h

@[simp] theorem rests_startPlanned (h : Rests p old b.axes) (g : GroupId) (x : Group) (ms : List Mover) :
    Rests p old (b.startPlanned g x ms).1.axes := by
  unfold Block.startPlanned Block.startAsking Block.startWarming
  dsimp only
  (repeat' split) <;> simp (maxDischargeDepth := 9) [refuse, h]

@[simp] theorem rests_discardContext (h : Rests p old b.axes) (d : DishId) :
    Rests p old (b.discardContext d).axes := by
  unfold Block.discardContext
  dsimp only
  split <;> simp [h]

@[simp] theorem rests_mendAxis (h : Rests p old b.axes) (d : DishId) (k : AxisKind) :
    Rests p old (b.mendAxis d k).axes := by
  simp (maxDischargeDepth := 9) [Block.mendAxis, h]

@[simp] theorem rests_clearWear (h : Rests p old b.axes) (d : DishId) (k : AxisKind) :
    Rests p old (b.clearWear d k).axes := by
  simp [Block.clearWear, h]

@[simp] theorem rests_disableWx (h : Rests p old b.axes) (n : WeatherId) : Rests p old (b.disableWx n).axes := by
  unfold Block.disableWx
  dsimp only
  split <;> simp [h]

@[simp] theorem rests_forgetAll (h : Rests p old b.axes) (mask : BitVec 8) :
    Rests p old (b.forgetAll mask).axes := by
  unfold Block.forgetAll
  split
  · exact h
  · exact rests_figuresChanged (rests_each h _ _ fun _ _ hs => rests_of_axes (axes_forgetWx ..) hs)

/-! ### Events -/

@[simp] theorem rests_cycleComes (h : Rests p old b.axes) : Rests p old b.cycleComes.axes := by
  unfold Block.cycleComes
  dsimp only
  split <;> simp -implicitDefEqProofs [h]

@[simp] theorem rests_visitNext (h : Rests p old b.axes) : Rests p old b.visitNext.axes := by
  unfold Block.visitNext
  (repeat' split) <;> simp [h]

@[simp] theorem rests_discoveryEnds (h : Rests p old b.axes) : Rests p old b.discoveryEnds.axes := by
  unfold Block.discoveryEnds
  split <;> simp -implicitDefEqProofs [h]

@[simp] theorem rests_opExpires (h : Rests p old b.axes) (d : DishId) (k : AxisKind) (st : AxisState)
    (why : FaultReason) : Rests p old (b.opExpires d k st why).axes := by
  unfold Block.opExpires
  dsimp only
  (repeat' split) <;> simp -implicitDefEqProofs [h]

@[simp] theorem rests_parkExpires (h : Rests p old b.axes) (d : DishId) (k : AxisKind) :
    Rests p old (b.parkExpires d k).axes := by
  unfold Block.parkExpires
  split <;> simp -implicitDefEqProofs [h]

@[simp] theorem rests_offlineExpires (h : Rests p old b.axes) (d : DishId) (k : AxisKind) :
    Rests p old (b.offlineExpires d k).axes := by
  unfold Block.offlineExpires
  split <;> simp -implicitDefEqProofs [h]

@[simp] theorem rests_lagComes (h : Rests p old b.axes) (d : DishId) (k : AxisKind) :
    Rests p old (b.lagComes d k).axes := by
  unfold Block.lagComes
  dsimp only
  (repeat' split) <;> simp -implicitDefEqProofs [h]

@[simp] theorem rests_tick (h : Rests p old b.axes) : Rests p old b.tick.axes := by
  simp (maxDischargeDepth := 9) -implicitDefEqProofs [Block.tick, h]

@[simp] theorem rests_readingExpires (h : Rests p old b.axes) (n : WeatherId) :
    Rests p old (b.readingExpires n).axes := by
  unfold Block.readingExpires
  dsimp only
  (repeat' split) <;> simp [h]

@[simp] theorem rests_graceComes (h : Rests p old b.axes) : Rests p old b.graceComes.axes := by
  unfold Block.graceComes
  split <;> simp [h]

@[simp] theorem rests_holdComes (h : Rests p old b.axes) : Rests p old b.holdComes.axes := by
  unfold Block.holdComes
  split <;> simp [h]

@[simp] theorem rests_watchComes (h : Rests p old b.axes) : Rests p old b.watchComes.axes := by
  unfold Block.watchComes
  split <;> simp [h]

@[simp] theorem rests_clearComes (h : Rests p old b.axes) : Rests p old b.clearComes.axes := by
  unfold Block.clearComes
  split <;> simp [h]

@[simp] theorem rests_dwellEnds (h : Rests p old b.axes) (d : DishId) : Rests p old (b.dwellEnds d).axes := by
  unfold Block.dwellEnds
  dsimp only
  (repeat' split) <;> simp -implicitDefEqProofs [h]

end

end Sys2Proof.Machine
end


-- ==== No owner of a request begins a release ====
section
/-! Each owner's answer, by the branches of its checks. -/

open Sys2Proof

namespace Sys2Proof.Machine

section
variable {p : DishId × AxisKind} {old : AxisState} {b : Block}

theorem rests_ownConfigAxis (h : Rests p old b.axes) (subj : Nat) (x : AxisParams) :
    Rests p old (ownConfigAxis subj x b).1.axes := by
  unfold ownConfigAxis
  (repeat' split) <;> simp [refuse, done, reply, h]

theorem rests_ownConfigZone (h : Rests p old b.axes) (subj : Nat) (x : ZoneParams) :
    Rests p old (ownConfigZone subj x b).1.axes := by
  unfold ownConfigZone
  (repeat' split) <;> simp [refuse, done, reply, h]

theorem rests_ownConfigSite (h : Rests p old b.axes) (x : SiteParams) :
    Rests p old (ownConfigSite x b).1.axes := by
  unfold ownConfigSite
  split <;> simp [refuse, h]

theorem rests_ownConfigLines (h : Rests p old b.axes) (x : LinesParams) :
    Rests p old (ownConfigLines x b).1.axes := by
  unfold ownConfigLines
  split <;> simp -implicitDefEqProofs [refuse, done, reply, h]

theorem rests_ownSetTime (h : Rests p old b.axes) (ms : Nat) : Rests p old (ownSetTime ms b).1.axes := by
  unfold ownSetTime
  split <;> exact h

theorem rests_ownSetBudget (h : Rests p old b.axes) (watts : Nat) : Rests p old (ownSetBudget watts b).1.axes := by
  unfold ownSetBudget
  split <;> simp [refuse, reply, h]

theorem rests_ownAddPoints (h : Rests p old b.axes) (dish : Nat) (ps : List PointParams) :
    Rests p old (ownAddPoints dish ps b).1.axes := by
  unfold ownAddPoints
  dsimp only
  (repeat' split) <;> simp [refuse, reply, h]

theorem rests_ownFlushPoints (h : Rests p old b.axes) (dish : Nat) :
    Rests p old (ownFlushPoints dish b).1.axes := by
  unfold ownFlushPoints
  split <;> simp [refuse, reply, h]

theorem rests_ownTrackStart (h : Rests p old b.axes) (dish : Nat) : Rests p old (ownTrackStart dish b).1.axes := by
  unfold ownTrackStart
  dsimp only
  (repeat' split) <;> simp [refuse, reply, h]

theorem rests_ownTrackStop (h : Rests p old b.axes) (dish : Nat) : Rests p old (ownTrackStop dish b).1.axes := by
  unfold ownTrackStop
  (repeat' split) <;> simp [refuse, done, reply, h]

theorem rests_ownHoldDish (h : Rests p old b.axes) (dish : Nat) : Rests p old (ownHoldDish dish b).1.axes := by
  unfold ownHoldDish
  dsimp only
  (repeat' split) <;> simp [refuse, done, reply, h]

theorem rests_ownParkDish (h : Rests p old b.axes) (dish : Nat) : Rests p old (ownParkDish dish b).1.axes := by
  unfold ownParkDish
  (repeat' split) <;> simp [refuse, done, reply, h]

theorem rests_ownFormGroup (h : Rests p old b.axes) (dishes : List Nat) (az el : Int)
    (pref thenTrack waitWarm limit : Nat) :
    Rests p old (ownFormGroup dishes az el pref thenTrack waitWarm limit b).1.axes := by
  unfold ownFormGroup
  dsimp only
  (repeat' split) <;> simp [refuse, reply, h]

theorem rests_ownStartGroup (h : Rests p old b.axes) (group : Nat) :
    Rests p old (ownStartGroup group b).1.axes := by
  unfold ownStartGroup
  (repeat' split) <;> simp [refuse, reply, h]

theorem rests_ownAbortGroup (h : Rests p old b.axes) (group : Nat) :
    Rests p old (ownAbortGroup group b).1.axes := by
  unfold ownAbortGroup
  (repeat' split) <;> simp [refuse, done, reply, h]

theorem rests_ownGetGroup (h : Rests p old b.axes) (group : Nat) : Rests p old (ownGetGroup group b).1.axes := by
  unfold ownGetGroup
  split <;> exact h

theorem rests_ownShed (h : Rests p old b.axes) (dish : Nat) : Rests p old (ownShed dish b).1.axes := by
  unfold ownShed
  (repeat' split)
  · exact h
  · exact h
  · next shed => exact rests_shedDish (r := (_, _)) h shed

theorem rests_ownResume (h : Rests p old b.axes) (dish : Nat) : Rests p old (ownResume dish b).1.axes := by
  unfold ownResume
  dsimp only
  (repeat' split) <;> simp [refuse, reply, h]

theorem rests_ownClearContext (h : Rests p old b.axes) (dish : Nat) :
    Rests p old (ownClearContext dish b).1.axes := by
  unfold ownClearContext
  (repeat' split) <;> simp [refuse, done, reply, h]

theorem rests_ownPlaceLock (h : Rests p old b.axes) (kind dish holder id : Nat) :
    Rests p old (ownPlaceLock kind dish holder id b).1.axes := by
  unfold ownPlaceLock
  dsimp only
  (repeat' split) <;> simp [refuse, h]

theorem rests_ownRemoveLock (h : Rests p old b.axes) (num holder id : Nat) :
    Rests p old (ownRemoveLock num holder id b).1.axes := by
  unfold ownRemoveLock
  (repeat' split) <;> simp [refuse, h]

theorem rests_ownClearEstop (h : Rests p old b.axes) : Rests p old (ownClearEstop b).1.axes := by
  unfold ownClearEstop
  (repeat' split) <;> simp [refuse, done, reply, h]

theorem rests_ownGetStatus (h : Rests p old b.axes) (sect : Nat) (dish : Option Nat) :
    Rests p old (ownGetStatus sect dish b).1.axes := by
  unfold ownGetStatus
  split <;> exact h

theorem rests_ownResetFault (h : Rests p old b.axes) (x : TargetParams) :
    Rests p old (ownResetFault x b).1.axes := by
  unfold ownResetFault ownResetAxis ownResetZone
  (repeat' split) <;> simp [refuse, done, reply, h]

theorem rests_ownResetWear (h : Rests p old b.axes) (subj : Nat) : Rests p old (ownResetWear subj b).1.axes := by
  unfold ownResetWear
  (repeat' split) <;> simp [refuse, done, reply, h]

theorem rests_ownSetReportMask (h : Rests p old b.axes) (mask : BitVec 32) :
    Rests p old (ownSetReportMask mask b).1.axes := by
  unfold ownSetReportMask
  split <;> exact h

theorem rests_ownSoftReset (h : Rests p old b.axes) : Rests p old (ownSoftReset b).1.axes := by
  unfold ownSoftReset
  split <;> exact h

theorem rests_ownWeatherEnable (h : Rests p old b.axes) (addr : Nat) :
    Rests p old (ownWeatherEnable addr b).1.axes := by
  unfold ownWeatherEnable
  dsimp only
  (repeat' split) <;> simp [refuse, reply, h]

theorem rests_ownWeatherDisable (h : Rests p old b.axes) (addr : Nat) :
    Rests p old (ownWeatherDisable addr b).1.axes := by
  unfold ownWeatherDisable
  (repeat' split) <;> simp [refuse, done, reply, h]

theorem rests_ownForgetWeather (h : Rests p old b.axes) (mask : BitVec 8) :
    Rests p old (ownForgetWeather mask b).1.axes := rests_forgetAll h mask

theorem rests_ownForce (h : Rests p old b.axes) (v : Bool) : Rests p old (ownForce v b).1.axes :=
  rests_evaluate (b := { b with weather := { b.weather with force := v } }) h

theorem rests_ownPrewarm (h : Rests p old b.axes) (dish act : Nat) : Rests p old (ownPrewarm dish act b).1.axes := by
  unfold ownPrewarm
  dsimp only
  (repeat' split) <;> simp [refuse, reply, h]

theorem rests_ownSnowForce (h : Rests p old b.axes) (act : Nat) : Rests p old (ownSnowForce act b).1.axes := by
  unfold ownSnowForce
  dsimp only
  split <;> simp [refuse, reply, h]

end

end Sys2Proof.Machine
end


-- ==== Reset, the load and the link begin no release ====
section
/-! After a reset every axis is OFFLINE; the load puts settings and counts in force and leaves every state. -/

open Sys2Proof

namespace Sys2Proof.Machine

section
variable {p : DishId × AxisKind} {old : AxisState} {b : Block}

theorem rests_afterReset (store : Store) : Rests p old (Block.afterReset store).axes := by
  unfold Rests Block.afterReset
  simp only [vec12_get]
  cases p.2 <;> simp [PerAxis.get, Axis.reset]

@[simp] theorem rests_judgeAllWear (h : Rests p old b.axes) : Rests p old b.judgeAllWear.axes :=
  rests_each h _ _ fun _ _ hs => rests_judgeWear hs ..

@[simp] theorem rests_putImage (h : Rests p old b.axes) (m : Image) (counts : Vector (PerAxis Nat) 12) :
    Rests p old (b.putImage m counts).axes := by
  have loaded := rests_each h allAxes (fun p s => s.setAxis p.1 p.2 (s.loadedAxis m counts p.1 p.2)) fun _ _ hs =>
    rests_setAxis hs _ _ (.inl rfl)
  have zones (t : Block) : (t.each allZones fun p s => s.setZone p.1 p.2 (s.loadedZone m p.1 p.2)).axes = t.axes :=
    axes_each _ _ _ fun _ _ => rfl
  have entries (t : Block) : (t.each allWeather fun n s => s.setWx n (s.loadedWx m n)).axes = t.axes :=
    axes_each _ _ _ fun _ _ => rfl
  simp [Block.putImage, entries, zones, loaded]

@[simp] theorem rests_loadContent (h : Rests p old b.axes) : Rests p old b.loadContent.axes := by
  unfold Block.loadContent
  split <;> simp [h]

@[simp] theorem rests_markBreak (h : Rests p old b.axes) (l : Line) : Rests p old (b.markBreak l).axes := by
  unfold Block.markBreak
  split <;> simp [h]

@[simp] theorem rests_loadEnds (h : Rests p old b.axes) : Rests p old b.loadEnds.axes := by
  unfold Block.loadEnds
  split <;> simp (maxDischargeDepth := 9) -implicitDefEqProofs [Block.load, h]

@[simp] theorem rests_frameGone (h : Rests p old b.axes) : Rests p old b.frameGone.axes := by
  have after (c : Block) (hc : Rests p old c.axes) (a : After) : Rests p old (c.applyAfter a).axes := by
    cases a with
    | nothing => exact hc
    | setRate r => simp [Block.applyAfter, hc]
    | softReset => exact rests_afterReset _
  unfold Block.frameGone
  dsimp only
  (repeat' split) <;> simp [h, after]

theorem rests_handTo (h : Rests p old b.axes) (id : Nat) {owner : Nat → Block → Answered}
    (ho : ∀ id c, Rests p old c.axes → Rests p old (owner id c).1.axes) : Rests p old (b.handTo id owner).axes := by
  unfold Block.handTo
  dsimp only
  split
  · exact rests_of_axes (axes_answer ..) (ho _ _ h)
  · exact ho _ _ h

theorem rests_serveRequest (h : Rests p old b.axes) (i : Instr) {owner : Nat → Block → Answered}
    (ho : ∀ id c, Rests p old c.axes → Rests p old (owner id c).1.axes) :
    Rests p old (b.serveRequest i owner).axes := by
  unfold Block.serveRequest
  dsimp only
  (repeat' split)
  · exact rests_handTo h _ ho
  · simp [h]
  · exact rests_handTo (rests_of_axes (axes_arrives ..) h) _ ho
  · simp [h]

end

end Sys2Proof.Machine
end


-- ==== The end of an event and the beacon ====
section
/-! The releases the beacon allows, and the end of every event as the outputs, those releases and the transmitter over
records settled before (R7, R182). -/

open Sys2Proof

namespace Sys2Proof.Machine

section
variable (b : Block) (d e : DishId) (k j : AxisKind)

/-- The release that an axis which has waited on the beacon begins (R9). -/
def Block.release : Block :=
  ((b.setOrder d k .release).modAxis d k fun a => { a with opDue := some (b.site.tb + 3000) }).enter d k .releasing

/-- The brake test that an axis in verify mode begins (R8). -/
def Block.beginTest : Block :=
  ((b.setOrder d k .brakeTest).modAxis d k fun a => { a with opDue := some (b.site.tb + 5000) }).enter d k .testing

/-- What an axis that waits on the beacon goes on to, by where it waits (R7). -/
theorem proceed_row : b.proceed d k =
    if (b.axis d k).state = .braked ∧ (b.axis d k).stage = .beacon then
      if (b.axis d k).verify then b.beginTest d k else b.release d k
    else if (b.axis d k).state = .testing ∧ (b.axis d k).opDue = none then b.release d k else b := rfl

theorem axis_release : (b.release d k).axis e j = if d = e ∧ k = j then
    { (b.axis d k).ordered .release with opDue := some (b.site.tb + 3000) }.entered .releasing else b.axis e j := by
  simp only [Block.release, setOrder_eq, modAxis_eq, axis_enter, axis_setAxis]
  split <;> simp [*]

theorem axis_beginTest : (b.beginTest d k).axis e j = if d = e ∧ k = j then
    { (b.axis d k).ordered .brakeTest with opDue := some (b.site.tb + 5000) }.entered .testing else b.axis e j := by
  simp only [Block.beginTest, setOrder_eq, modAxis_eq, axis_enter, axis_setAxis]
  split <;> simp [*]

/-- An axis that waits on the beacon no more stands as it is, and every other axis. -/
theorem axis_proceed_other (h : ¬(d = e ∧ k = j)) : (b.proceed d k).axis e j = b.axis e j := by
  rw [proceed_row]
  (repeat' split) <;> simp [axis_release, axis_beginTest, h]

@[simp] theorem beside_proceed : (b.proceed d k).beside = b.beside := by
  rw [proceed_row]
  (repeat' split) <;> simp [Block.release, Block.beginTest]

theorem site_proceed : (b.proceed d k).site = b.site := (outer_of_beside (beside_proceed b d k)).2.2.2.2.2.2.1

theorem mode_proceed : ((b.proceed d k).dish e).mode = (b.dish e).mode := by
  simpa using congrArg Dish.mode (dish_of_beside (beside_proceed b d k) e)

theorem beaconMet_iff : b.beaconMet = true ↔
    b.site.beacon = true ∧ ∃ t, b.site.beaconSince = some t ∧ t + 1000 * b.site.cfg.warn ≤ b.site.tb := by
  simp [Block.beaconMet, Option.any_eq_true]

theorem site_settleBeacon : b.settleBeacon.site = b.site := by
  unfold Block.settleBeacon
  split
  · exact each_keeps Block.site allAxes (fun p s => s.proceed p.1 p.2) (fun p s => site_proceed s p.1 p.2) b
  · rfl

theorem site_kick : b.kick.site = b.site := by
  unfold Block.kick
  (repeat' split) <;> rfl

/-- Every park timer settled (R15). -/
def Block.settleParks : Block := b.each allAxes fun p s => s.settlePark p.1 p.2

/-- What an event settles before the outputs follow. -/
def Block.settleRecords : Block :=
  let t := b.each allDishes fun d s => s.settleBlocks d
  let t := t.each allAxes fun p s => s.askAxis p.1 p.2
  let t := t.examine.pursue
  let t := t.settleParks
  t.settleLocks

variable {b}

theorem finish_run (h : b.site.startup ≠ .starting) : b.finish = b.settleRecords.settleOutputs.settleBeacon.kick :=
  if_neg h

theorem finish_starting (h : b.site.startup = .starting) : b.finish = b.kick := if_pos h

variable (b)

theorem still_settleRecords : b.settleRecords.still = b.still := by
  unfold Block.settleRecords Block.settleParks
  simp

end

section
variable {p : DishId × AxisKind} {old : AxisState} {b : Block}

theorem rests_settleRecords (h : Rests p old b.axes) : Rests p old b.settleRecords.axes := by
  have blocked := rests_each h allDishes (fun d s => s.settleBlocks d) fun _ _ hs => rests_settleBlocks hs _
  have asked := rests_each blocked allAxes (fun p s => s.askAxis p.1 p.2) fun _ _ hs => rests_askAxis hs ..
  have parked := rests_each (rests_pursue (rests_examine asked)) allAxes (fun p s => s.settlePark p.1 p.2)
    fun _ _ hs => rests_settlePark hs ..
  exact rests_of_axes (axes_settleLocks _) parked

/-- An axis that begins to release or to test its brake as an event ends does so under the beacon, on for the warn
interval (R7). -/
theorem met_of_begins (h : Rests p old b.axes) (begun : ¬Rests p old b.finish.axes) :
    b.finish.site.beacon = true ∧ ∃ since, b.finish.site.beaconSince = some since
      ∧ since + 1000 * b.finish.site.cfg.warn ≤ b.finish.site.tb := by
  by_cases starting : b.site.startup = .starting
  · rw [finish_starting starting, axes_kick] at begun
    exact absurd h begun
  · rw [finish_run starting] at begun ⊢
    rw [axes_kick] at begun
    rw [site_kick, site_settleBeacon, ← beaconMet_iff]
    by_contra unmet
    have still : b.settleRecords.settleOutputs.settleBeacon = b.settleRecords.settleOutputs := if_neg unmet
    rw [still, axes_settleOutputs] at begun
    exact begun (rests_settleRecords h)

end

end Sys2Proof.Machine
end


-- ==== A step begins a release only under the beacon ====
section
/-! Every step settles a state in which each axis rests, so that the only releases and tests it begins are those the
beacon allows (R7). -/

open Sys2Proof

namespace Sys2Proof.Machine

/-- A change of the blocks by which no axis begins to release or to test its brake. -/
def Restful (f : Block → Block) : Prop :=
  ∀ (p : DishId × AxisKind) (old : AxisState) (b : Block), Rests p old b.axes → Rests p old (f b).axes

theorem restful_of_axes {f : Block → Block} (h : ∀ b, (f b).axes = b.axes) : Restful f :=
  fun _ _ b hb => rests_of_axes (h b) hb

/-- An outcome that is the settling of a state in which no axis has begun to release or to test its brake. -/
def State.Settles (s : State) (o : Ran) : Prop :=
  ∃ c : Block, o = .next { s with block := c.finish }
    ∧ ∀ (p : DishId × AxisKind) (old : AxisState), Rests p old s.block.axes → Rests p old c.axes

section
variable {s : State}

theorem settles_run {f : Block → Block} (h : Restful f) : s.Settles (s.run f) :=
  ⟨f s.block, rfl, fun p old => h p old s.block⟩

theorem settles_event {f : Block → Block} (h : Restful f) : s.Settles (s.event f) := by
  refine settles_run fun p old b hb => ?_
  split
  · exact hb
  · exact h p old b hb

theorem settles_request (i : Instr) {owner : Nat → Block → Answered} (h : ∀ id, Restful fun b => (owner id b).1) :
    s.Settles (s.request i owner) :=
  settles_run fun p old _ hb => rests_serveRequest hb i fun id c => h id p old c

/-- A request that is answered from the records alone. -/
theorem settles_reading (i : Instr) (fields : Block → List Fld) :
    s.Settles (s.request i fun _ b => reply b .ok (fields b)) :=
  settles_request i fun _ _ _ _ hb => hb

theorem exec_settles (i : Instr) : s.Settles (exec i s) := by
  cases i with
  | identify => exact settles_reading _ _
  | getStatus => exact settles_request _ fun _ _ _ _ h => rests_ownGetStatus h ..
  | setTime => exact settles_request _ fun _ _ _ _ h => rests_ownSetTime h _
  | configAxis => exact settles_request _ fun _ _ _ _ h => rests_ownConfigAxis h ..
  | configZone => exact settles_request _ fun _ _ _ _ h => rests_ownConfigZone h ..
  | configSite => exact settles_request _ fun _ _ _ _ h => rests_ownConfigSite h _
  | configLines => exact settles_request _ fun _ _ _ _ h => rests_ownConfigLines h _
  | saveConfig => exact settles_request _ fun _ _ _ _ h => rests_of_axes (axes_askFull ..) h
  | setBudget => exact settles_request _ fun _ _ _ _ h => rests_ownSetBudget h _
  | getBudget => exact settles_reading _ _
  | addPoints => exact settles_request _ fun _ _ _ _ h => rests_ownAddPoints h ..
  | flushPoints => exact settles_request _ fun _ _ _ _ h => rests_ownFlushPoints h _
  | trackStart => exact settles_request _ fun _ _ _ _ h => rests_ownTrackStart h _
  | trackStop => exact settles_request _ fun _ _ _ _ h => rests_ownTrackStop h _
  | holdDish => exact settles_request _ fun _ _ _ _ h => rests_ownHoldDish h _
  | parkDish => exact settles_request _ fun _ _ _ _ h => rests_ownParkDish h _
  | formGroup => exact settles_request _ fun _ _ _ _ h => rests_ownFormGroup h ..
  | startGroup => exact settles_request _ fun _ _ _ _ h => rests_ownStartGroup h _
  | abortGroup => exact settles_request _ fun _ _ _ _ h => rests_ownAbortGroup h _
  | getGroup => exact settles_request _ fun _ _ _ _ h => rests_ownGetGroup h _
  | prewarm => exact settles_request _ fun _ _ _ _ h => rests_ownPrewarm h ..
  | snowForce => exact settles_request _ fun _ _ _ _ h => rests_ownSnowForce h _
  | weatherEnable => exact settles_request _ fun _ _ _ _ h => rests_ownWeatherEnable h _
  | weatherDisable => exact settles_request _ fun _ _ _ _ h => rests_ownWeatherDisable h _
  | forgetWeather => exact settles_request _ fun _ _ _ _ h => rests_ownForgetWeather h _
  | getWeather => exact settles_reading _ _
  | stowNow => exact settles_request _ fun _ _ _ _ h => rests_ownForce h _
  | stowRelease => exact settles_request _ fun _ _ _ _ h => rests_ownForce h _
  | shed => exact settles_request _ fun _ _ _ _ h => rests_ownShed h _
  | resume => exact settles_request _ fun _ _ _ _ h => rests_ownResume h _
  | clearContext => exact settles_request _ fun _ _ _ _ h => rests_ownClearContext h _
  | placeLock => exact settles_request _ fun _ _ _ _ h => rests_ownPlaceLock h ..
  | removeLock => exact settles_request _ fun _ _ _ _ h => rests_ownRemoveLock h ..
  | listLocks => exact settles_reading _ _
  | resetFault => exact settles_request _ fun _ _ _ _ h => rests_ownResetFault h _
  | resetWear => exact settles_request _ fun _ _ _ _ h => rests_ownResetWear h _
  | clearEstop => exact settles_request _ fun _ _ _ _ h => rests_ownClearEstop h
  | setReportMask => exact settles_request _ fun _ _ _ _ h => rests_ownSetReportMask h _
  | softReset => exact settles_request _ fun _ _ _ _ h => rests_ownSoftReset h
  | linkFrameReceived => exact settles_run (restful_of_axes fun _ => axes_rxBytesIn ..)
  | linkGapTimeout => exact settles_run (restful_of_axes fun _ => axes_abandon ..)
  | linkByteError => exact settles_run (restful_of_axes fun _ => axes_abandon ..)
  | linkFrameSent => exact settles_run fun _ _ _ h => rests_frameGone h
  | linkStartByte => exact settles_run (restful_of_axes fun _ => axes_rxByte ..)
  | reset => exact settles_run fun _ _ _ _ => rests_afterReset _
  | storeLoadDone => exact settles_run fun _ _ _ h => rests_loadEnds h
  | discoveryTimeout => exact settles_event fun _ _ _ h => rests_discoveryEnds h
  | fieldCycle => exact settles_event fun _ _ _ h => rests_cycleComes h
  | lateDeadline => exact settles_event (restful_of_axes fun _ => axes_deadlineComes ..)
  | nodeVisit => exact settles_event fun _ _ _ h => rests_visitNext h
  | echoMismatch => exact settles_event (restful_of_axes fun _ => axes_echoFails ..)
  | orderFrameSent => exact settles_event (restful_of_axes fun _ => axes_frameSent ..)
  | answerReceived => exact settles_event (restful_of_axes fun _ => axes_answerEnds ..)
  | visitEnd => exact settles_event fun _ _ _ h => rests_judgeStartup (rests_endVisit h)
  | estopInputActive => exact settles_event fun _ _ _ h => rests_setMark h ..
  | estopInputInactive => exact settles_event fun _ _ _ h => rests_setMark h ..
  | lineBreak => exact settles_run fun _ _ _ h => rests_lineBreaks h _
  | breakHeld => exact settles_run (restful_of_axes fun _ => axes_breakGoesOn ..)
  | breakEnd l => exact settles_run (f := fun b => b.breakEnds l) fun _ _ _ h => rests_breakEnds h l
  | beaconIntervalMet => exact settles_event (restful_of_axes fun _ => axes_beaconComes _)
  | brakeTestTimeout => exact settles_event fun _ _ _ h => rests_opExpires h ..
  | releaseTimeout => exact settles_event fun _ _ _ h => rests_opExpires h ..
  | engageTimeout => exact settles_event fun _ _ _ h => rests_opExpires h ..
  | parkExpiry => exact settles_event fun _ _ _ h => rests_parkExpires h ..
  | offlineHoldExpiry => exact settles_event fun _ _ _ h => rests_offlineExpires h ..
  | trackLag => exact settles_event fun _ _ _ h => rests_lagComes h ..
  | weatherTick => exact settles_event fun _ _ _ h => rests_tick h
  | readingExpiry => exact settles_event fun _ _ _ h => rests_readingExpires h _
  | unknownGraceExpiry => exact settles_event fun _ _ _ h => rests_graceComes h
  | releaseHoldComplete => exact settles_event fun _ _ _ h => rests_holdComes h
  | watchReleaseExpiry => exact settles_event fun _ _ _ h => rests_watchComes h
  | snowEpisodeEnd => exact settles_event fun _ _ _ h => rests_clearComes h
  | prewarmExpiry => exact settles_event (restful_of_axes fun _ => axes_prewarmExpires ..)
  | dwellExpiry => exact settles_event fun _ _ _ h => rests_dwellEnds h _
  | zoneContactorFault => exact settles_event (restful_of_axes fun _ => axes_mismatchComes ..)
  | storeWriteDone => exact settles_event (restful_of_axes fun _ => axes_writeDone _ _)

/-- Whatever a step does, an axis that begins in it to release or to test its brake does so under the beacon, on for
the warn interval (R7). -/
theorem step_begins {t : State} (d : DishId) (k : AxisKind) (ran : step s = .next t)
    (begun : ¬Rests (d, k) (s.block.axis d k).state t.block.axes) :
    t.block.site.beacon = true ∧ ∃ since, t.block.site.beaconSince = some since
      ∧ since + 1000 * t.block.site.cfg.warn ≤ t.block.site.tb := by
  have at_rest : Rests (d, k) (s.block.axis d k).state s.block.axes := by
    change AxisState.begins (s.block.axis d k).state (s.block.axis d k).state = false
    cases (s.block.axis d k).state <;> rfl
  unfold step at ran
  split at ran
  · next c rest _ =>
    obtain ⟨u, outcome, rests⟩ := exec_settles (s := { s with pending := rest }) c
    rw [outcome] at ran
    cases ran
    exact met_of_begins (rests _ _ at_rest) begun
  · cases ran
    exact absurd at_rest begun

theorem rests_iff {p : DishId × AxisKind} {old : AxisState} {b : Block} : Rests p old b.axes ↔
    ¬(((b.axis p.1 p.2).state = .releasing ∧ old ≠ .releasing)
      ∨ ((b.axis p.1 p.2).state = .testing ∧ old ≠ .testing)) := by
  change AxisState.begins old (b.axis p.1 p.2).state = false ↔ _
  simp [AxisState.begins]

end

end Sys2Proof.Machine
end


-- ==== The timers of an axis ====
section
/-! What the expiry of each timer does, what the end of the beacon interval does, and when the park timer runs (R7, R8,
R9, R15, R16, R21, R22). -/

open Sys2Proof

namespace Sys2Proof.Machine

/-! ### The timers of an axis -/

section
variable (b : Block) (d : DishId) (k : AxisKind)

theorem opExpires_due {st : AxisState} {t : Nat} (why : FaultReason) (due : (b.axis d k).opDue = some t)
    (h : (b.axis d k).state = st) :
    b.opExpires d k st why = Block.reactLost (b.carryTo t) ((b.carryTo t).faultAxis d k why) d := by
  unfold Block.opExpires
  rw [due]
  exact if_pos h

theorem opExpires_idle {st : AxisState} (why : FaultReason) (h : (b.axis d k).opDue = none ∨ (b.axis d k).state ≠ st) :
    b.opExpires d k st why = b := by
  unfold Block.opExpires
  split
  · rfl
  · next t due =>
    obtain none | other := h
    · rw [none] at due; cases due
    · exact if_neg other

theorem parkExpires_row : b.parkExpires d k = ((b.axis d k).parkDue.elim b fun t =>
    ((b.carryTo t).dropNeed d k).engage d k) := by
  unfold Block.parkExpires
  cases (b.axis d k).parkDue <;> rfl

theorem offlineExpires_row : b.offlineExpires d k = ((b.axis d k).holdDue.elim b fun t =>
    ((b.carryTo t).setAxis d k { b.axis d k with holdDue := none }).releaseClaim d k) := by
  unfold Block.offlineExpires
  cases (b.axis d k).holdDue <;> rfl

theorem lagComes_none (h : (b.axis d k).lag = none) : b.lagComes d k = b := by
  unfold Block.lagComes
  rw [h]

theorem lagComes_some {l : LagRun} (h : (b.axis d k).lag = some l) : b.lagComes d k =
    if (b.axis d k).lagOpen then b.carryTo (l.since + 2000)
    else ((b.carryTo (l.since + 2000)).setAxis d k { b.axis d k with lagOpen := true }).tell .trackLag (axisNum d k)
      [s4 l.expected, s4 (b.pos d k)] := by
  unfold Block.lagComes
  rw [h]
  rfl

end

/-- An axis waits on the beacon, as the interval's end asks it (R7). -/
theorem awaitsBeacon_iff (a : Axis) : a.awaitsBeacon = true ↔
    (a.state = .braked ∧ a.stage = .beacon) ∨ (a.state = .testing ∧ a.opDue = none) := by
  simp [Axis.awaitsBeacon]

theorem anyAwaits_iff (b : Block) : (allAxes.any fun p => (b.axis p.1 p.2).awaitsBeacon) = true ↔
    ∃ p : DishId × AxisKind, (b.axis p.1 p.2).awaitsBeacon = true := by
  rw [List.any_eq_true]
  exact ⟨fun ⟨p, _, h⟩ => ⟨p, h⟩, fun ⟨p, h⟩ => ⟨p, mem_allAxes p, h⟩⟩

theorem beaconComes_met {b : Block} {t : Nat} (on : b.site.beacon = true) (since : b.site.beaconSince = some t)
    (h : ∃ p : DishId × AxisKind, (b.axis p.1 p.2).awaitsBeacon = true) :
    b.beaconComes = b.carryTo (t + 1000 * b.site.cfg.warn) := by
  unfold Block.beaconComes
  rw [on, since, (anyAwaits_iff b).mpr h]

theorem beaconComes_idle {b : Block} (h : ∀ p : DishId × AxisKind, (b.axis p.1 p.2).awaitsBeacon ≠ true) :
    b.beaconComes = b := by
  unfold Block.beaconComes
  split
  · next any => exact absurd ((anyAwaits_iff b).mp any) fun ⟨p, hp⟩ => h p hp
  · rfl

/-! ### The park timer (R15) -/

section
variable (b : Block) (d : DishId) (k : AxisKind)

theorem mayPark_iff : b.mayPark d k = true ↔ (b.axis d k).state = .held ∧ (b.dish d).mode = .idle
    ∧ ∀ n, (b.axis d k).need = some n → n.who = .hold := by
  unfold Block.mayPark
  cases need : (b.axis d k).need <;> simp [need, and_assoc]

theorem settlePark_row : b.settlePark d k = b.setAxis d k { b.axis d k with
    parkDue := if b.mayPark d k then some ((b.axis d k).parkDue.getD (b.site.tb + 1000 * (b.axis d k).cfg.parkDelay))
      else none } := rfl

/-- The park timer of an axis runs exactly while its conditions hold. -/
structure Block.Timed (d : DishId) (k : AxisKind) (b : Block) : Prop where
  runs : (b.axis d k).parkDue.isSome = b.mayPark d k

variable {d k}

theorem timed_of_same {b c : Block} (h : b.Timed d k) (axis : c.axis d k = b.axis d k)
    (mode : (c.dish d).mode = (b.dish d).mode) : c.Timed d k := by
  have runs := h.runs
  unfold Block.mayPark at runs
  refine ⟨?_⟩
  unfold Block.mayPark
  rw [axis, mode]
  exact runs

/-- The park timer bears on none of its conditions. -/
theorem mayPark_setPark (x : Option Nat) :
    (b.setAxis d k { b.axis d k with parkDue := x }).mayPark d k = b.mayPark d k := by
  simp [Block.mayPark]

theorem timed_settlePark : (b.settlePark d k).Timed d k := by
  refine ⟨?_⟩
  rw [settlePark_row, mayPark_setPark]
  cases b.mayPark d k <;> simp

theorem timed_settlePark_other {b : Block} (h : b.Timed d k) {q : DishId × AxisKind} (other : q ≠ (d, k)) :
    (b.settlePark q.1 q.2).Timed d k := by
  have apart : ¬(q.1 = d ∧ q.2 = k) := fun same => other (Prod.ext same.1 same.2)
  refine timed_of_same h ?_ rfl
  rw [settlePark_row]
  simp [apart]

theorem timed_settleParks : b.settleParks.Timed d k := by
  refine each_at (fun _ => True) (Block.Timed d k) _ (d, k) ?_ ?_ ?_ _ allAxes_nodup (mem_allAxes _) b trivial
  · intros; trivial
  · intro s _
    exact timed_settlePark s
  · intro q s other hs
    exact timed_settlePark_other hs other

theorem timed_of_entered {c : Block} (notHeld : (c.axis d k).state ≠ .held) (off : (c.axis d k).parkDue = none) :
    c.Timed d k := ⟨by simp [Block.mayPark, notHeld, off]⟩

theorem timed_proceed {b : Block} (h : b.Timed d k) (e : DishId) (j : AxisKind) : (b.proceed e j).Timed d k := by
  by_cases same : e = d ∧ j = k
  · obtain ⟨rfl, rfl⟩ := same
    have released : (b.release e j).Timed e j :=
      timed_of_entered (by simp [axis_release]) (by simp [axis_release])
    have tested : (b.beginTest e j).Timed e j :=
      timed_of_entered (by simp [axis_beginTest]) (by simp [axis_beginTest])
    rw [proceed_row]
    (repeat' split) <;> assumption
  · exact timed_of_same h (axis_proceed_other b e d j k same) (mode_proceed ..)

theorem timed_settleBeacon {b : Block} (h : b.Timed d k) : b.settleBeacon.Timed d k := by
  unfold Block.settleBeacon
  split
  · exact each_holds (Block.Timed d k) allAxes (fun p s => s.proceed p.1 p.2) (fun _ _ hs => timed_proceed hs ..) b h
  · exact h

theorem dishes_judgeEntry (e : LockEntry) : (b.judgeEntry e).dishes = b.dishes := by
  unfold Block.judgeEntry
  dsimp only
  split <;> simp [Block.tellLock, Block.setEngaged]

theorem dishes_settleLocks : b.settleLocks.dishes = b.dishes := by
  exact each_keeps Block.dishes b.setMarks.lockout.entries (fun e s => s.judgeEntry e)
    (fun e s => dishes_judgeEntry s e) b.setMarks

theorem dishes_settleOutputs : b.settleOutputs.dishes = b.dishes := rfl

theorem dishes_kick : b.kick.dishes = b.dishes := by
  unfold Block.kick
  (repeat' split) <;> rfl

theorem timed_of_axes {b c : Block} (h : b.Timed d k) (axes : c.axes = b.axes) (dishes : c.dishes = b.dishes) :
    c.Timed d k :=
  timed_of_same h (by rw [Block.axis, axes, Block.axis]) (by rw [Block.dish, dishes, Block.dish])

theorem timed_finish {b : Block} (h : b.site.startup ≠ .starting) : b.finish.Timed d k := by
  rw [finish_run h]
  have settled : b.settleRecords.Timed d k :=
    timed_of_axes (timed_settleParks _) (axes_settleLocks _) (dishes_settleLocks _)
  have told : b.settleRecords.settleOutputs.Timed d k :=
    timed_of_axes settled (axes_settleOutputs _) (dishes_settleOutputs _)
  exact timed_of_axes (timed_settleBeacon told) (axes_kick _) (dishes_kick _)

end

end Sys2Proof.Machine
end


-- ==== The timers of the axes: the obligation ====
section
/-! Each event of a timer as the obligation gives it, then the releases and the park timer. -/

open Sys2Proof

namespace Sys2Proof.Machine

/-- The timer of an operation expires: its axis faults, and its requesters act (R8, R9, R16, R17). -/
theorem timer_events (s : State) (d : DishId) (k : AxisKind) (started : s.started) :
    let a := s.block.axis d k
    (∀ t, a.opDue = some t →
      let c := s.block.carryTo t
      let failed := fun (why : FaultReason) => s.ends (Block.reactLost c (c.faultAxis d k why) d)
      (a.state = .testing → exec (.brakeTestTimeout d k) s = .next (failed .brakeSuspect))
      ∧ (a.state = .releasing → exec (.releaseTimeout d k) s = .next (failed .releaseTimeout))
      ∧ (a.state = .engaging → exec (.engageTimeout d k) s = .next (failed .engageTimeout)))
    ∧ (a.opDue = none ∨ a.state ≠ .testing → exec (.brakeTestTimeout d k) s = .next (s.ends s.block))
    ∧ (a.opDue = none ∨ a.state ≠ .releasing → exec (.releaseTimeout d k) s = .next (s.ends s.block))
    ∧ (a.opDue = none ∨ a.state ≠ .engaging → exec (.engageTimeout d k) s = .next (s.ends s.block)) := by
  have tested : exec (.brakeTestTimeout d k) s = _ :=
    event_started started fun b => b.opExpires d k .testing .brakeSuspect
  have released : exec (.releaseTimeout d k) s = _ :=
    event_started started fun b => b.opExpires d k .releasing .releaseTimeout
  have engaged : exec (.engageTimeout d k) s = _ :=
    event_started started fun b => b.opExpires d k .engaging .engageTimeout
  refine ⟨fun t due => ⟨fun st => ?_, fun st => ?_, fun st => ?_⟩, fun off => ?_, fun off => ?_, fun off => ?_⟩
  · rw [tested, opExpires_due _ d k _ due st]
  · rw [released, opExpires_due _ d k _ due st]
  · rw [engaged, opExpires_due _ d k _ due st]
  · rw [tested, opExpires_idle _ d k _ off]
  · rw [released, opExpires_idle _ d k _ off]
  · rw [engaged, opExpires_idle _ d k _ off]

/-- The park timer, the offline hold and the lag timer expire (R15, R21, R22). -/
theorem due_events (s : State) (d : DishId) (k : AxisKind) (started : s.started) :
    let a := s.block.axis d k
    (a.parkDue = none → exec (.parkExpiry d k) s = .next (s.ends s.block))
    ∧ (∀ t, a.parkDue = some t →
        exec (.parkExpiry d k) s = .next (s.ends (((s.block.carryTo t).dropNeed d k).engage d k)))
    ∧ (a.holdDue = none → exec (.offlineHoldExpiry d k) s = .next (s.ends s.block))
    ∧ (∀ t, a.holdDue = some t →
        exec (.offlineHoldExpiry d k) s
          = .next (s.ends (((s.block.carryTo t).setAxis d k { a with holdDue := none }).releaseClaim d k)))
    ∧ (a.lag = none → exec (.trackLag d k) s = .next (s.ends s.block))
    ∧ (∀ l, a.lag = some l →
        let c := s.block.carryTo (l.since + 2000)
        (a.lagOpen = true → exec (.trackLag d k) s = .next (s.ends c))
        ∧ (a.lagOpen = false →
          exec (.trackLag d k) s = .next (s.ends ((c.setAxis d k { a with lagOpen := true }).tell .trackLag
            (axisNum d k) [s4 l.expected, s4 (s.block.pos d k)])))) := by
  have parked : exec (.parkExpiry d k) s = _ := event_started started fun b => b.parkExpires d k
  have held : exec (.offlineHoldExpiry d k) s = _ := event_started started fun b => b.offlineExpires d k
  have lagged : exec (.trackLag d k) s = _ := event_started started fun b => b.lagComes d k
  rw [parkExpires_row] at parked
  rw [offlineExpires_row] at held
  refine ⟨fun off => ?_, fun t due => ?_, fun off => ?_, fun t due => ?_, fun off => ?_,
    fun l on_ => ⟨fun seen => ?_, fun fresh => ?_⟩⟩
  · rw [parked, off]; rfl
  · rw [parked, due]; rfl
  · rw [held, off]; rfl
  · rw [held, due]; rfl
  · rw [lagged, lagComes_none _ d k off]
  · rw [lagged, lagComes_some _ d k on_, if_pos seen]
  · rw [lagged, lagComes_some _ d k on_, if_neg (by simp [fresh])]

/-- The end of the beacon interval carries the time base there where some axis waits for it (R7). -/
theorem beacon_event (s : State) (started : s.started) :
    let waits := fun (p : DishId × AxisKind) =>
      ((s.block.axis p.1 p.2).state = .braked ∧ (s.block.axis p.1 p.2).stage = .beacon)
      ∨ ((s.block.axis p.1 p.2).state = .testing ∧ (s.block.axis p.1 p.2).opDue = none)
    (∀ t, s.block.site.beacon = true → s.block.site.beaconSince = some t → (∃ p, waits p) →
      exec .beaconIntervalMet s = .next (s.ends (s.block.carryTo (t + 1000 * s.block.site.cfg.warn))))
    ∧ ((∀ p, ¬waits p) → exec .beaconIntervalMet s = .next (s.ends s.block)) := by
  have ran : exec .beaconIntervalMet s = _ := event_started started Block.beaconComes
  refine ⟨fun t on_ since ⟨p, hp⟩ => ?_, fun none => ?_⟩
  · rw [ran, beaconComes_met on_ since ⟨p, (awaitsBeacon_iff _).mpr hp⟩]
  · rw [ran, beaconComes_idle fun p hp => none p ((awaitsBeacon_iff _).mp hp)]

/-- A fault takes one axis out of service and leaves every other (R17). -/
theorem faultAxis_row (b : Block) (d : DishId) (k : AxisKind) (why : FaultReason) :
    let a := (b.faultAxis d k why).axis d k
    a.state = .faulted ∧ a.fault = some why ∧ a.need = none ∧ a.stage = .none ∧ a.order = .brake ∧ a.opDue = none
    ∧ a.parkDue = none ∧ (b.faultAxis d k why).claim d k = none ∧ (b.faultAxis d k why).waits (.axis d k) = false
    ∧ ∀ e j, (e, j) ≠ (d, k) → (b.faultAxis d k why).axis e j = b.axis e j := by
  refine ⟨by simp, by simp, by simp, by simp, by simp, by simp, by simp, by simp, by simp, fun e j other => ?_⟩
  rw [axis_faultAxis, if_neg fun h => other (Prod.ext h.1.symm h.2.symm)]

/-- What an axis that waits on the beacon goes on to (R7, R8, R9). -/
theorem proceed_outcome (b : Block) (d : DishId) (k : AxisKind) :
    let a := b.axis d k
    let u := b.proceed d k
    let released := (u.axis d k).state = .releasing ∧ (u.axis d k).order = .release
      ∧ (u.axis d k).opDue = some (b.site.tb + 3000)
    (a.state = .braked → a.stage = .beacon →
      (a.verify = true → (u.axis d k).state = .testing ∧ (u.axis d k).order = .brakeTest
        ∧ (u.axis d k).opDue = some (b.site.tb + 5000))
      ∧ (a.verify = false → released))
    ∧ (a.state = .testing → a.opDue = none → released)
    ∧ (a.state ≠ .testing → ¬(a.state = .braked ∧ a.stage = .beacon) → u = b) := by
  refine ⟨fun braked beacon => ⟨fun verify => ?_, fun trusted => ?_⟩, fun testing passed => ?_, fun other idle => ?_⟩
  · rw [proceed_row, if_pos ⟨braked, beacon⟩, if_pos verify]
    simp [axis_beginTest]
  · rw [proceed_row, if_pos ⟨braked, beacon⟩, if_neg (by simp [trusted])]
    simp [axis_release]
  · rw [proceed_row, if_neg (by simp [testing]), if_pos ⟨testing, passed⟩]
    simp [axis_release]
  · rw [proceed_row, if_neg idle, if_neg fun h => other h.1]

/-- The end of an event as the outputs, the releases the beacon allows, and the transmitter, over records settled at
the same moment under the same settings. -/
theorem finish_outputs {b : Block} (h : b.site.startup ≠ .starting) : ∃ u : Block, u.site.tb = b.site.tb
    ∧ u.site.cfg = b.site.cfg ∧ b.finish = (u.settleOutputs.settleBeacon).kick := by
  have same := sensed_iff.mp (sensed_of_still (still_settleRecords b))
  exact ⟨b.settleRecords, same.tb, same.cfg, finish_run h⟩

/-- The park timer runs exactly while its conditions hold, also at the end of an event (R15). -/
theorem park_rows (b : Block) (d : DishId) (k : AxisKind) :
    let runs := fun (v : Block) => (v.axis d k).state = .held ∧ (v.dish d).mode = .idle
      ∧ ∀ n, (v.axis d k).need = some n → n.who = .hold
    let a := b.axis d k
    (runs b → a.parkDue = none →
      b.settlePark d k = b.setAxis d k { a with parkDue := some (b.site.tb + 1000 * a.cfg.parkDelay) })
    ∧ (runs b → a.parkDue ≠ none → b.settlePark d k = b)
    ∧ (¬runs b → b.settlePark d k = b.setAxis d k { a with parkDue := none })
    ∧ (b.site.startup ≠ .starting →
      (runs b.finish → (b.finish.axis d k).parkDue ≠ none)
      ∧ (¬runs b.finish → (b.finish.axis d k).parkDue = none)) := by
  simp only [← mayPark_iff]
  refine ⟨fun may off => ?_, fun may on_ => ?_, fun may => ?_, fun running => ?_⟩
  · rw [settlePark_row, if_pos may, off]; rfl
  · obtain ⟨t, due⟩ := Option.ne_none_iff_exists'.mp on_
    rw [settlePark_row, if_pos may, due, Option.getD_some, ← due, setAxis_self]
  · rw [settlePark_row, if_neg may]
  · have timed := (timed_finish (d := d) (k := k) running).runs
    rw [← timed]
    simp [Option.isSome_iff_ne_none]

/-- Settles O59. Each event is its row above; a step begins a release or a test only through the beacon, since all else
keeps every axis resting, and the park timers stand at the end of an event as their conditions ask. -/
theorem axisTimers : Obligations.AxisTimers := by
  unfold Obligations.AxisTimers
  refine ⟨fun s d k started => ?_, beacon_event, faultAxis_row, proceed_outcome, fun b => ?_⟩
  · obtain ⟨failed, tested, released, engaged⟩ := timer_events s d k started
    exact ⟨failed, tested, released, engaged, due_events s d k started⟩
  · refine ⟨fun met => ?_, fun unmet => ?_, finish_outputs, ?_, fun s t d k ran begun => ?_, park_rows b⟩
    · exact if_pos ((beaconMet_iff b).mpr met)
    · exact if_neg fun met => unmet ((beaconMet_iff b).mp met)
    · simp [Block.settleOutputs]
    · exact step_begins d k ran fun rests => rests_iff.mp rests begun

end Sys2Proof.Machine
end

-- ==== The law of the point pool (R34) ====
section
/-! The law of the pool over the store alone; a queue replaced by a shorter one, or by one that the pool has room for,
keeps it; and so does each operation of chapter 2 on a queue. -/

open Sys2Proof

namespace Sys2Proof.Machine

/-- The pool's law, of the point store by itself (R34). -/
def PointStore.Lawful (p : PointStore) : Prop :=
  p.free + (allDishes.map fun d : DishId => (p.queues[d]).length).sum = 480
  ∧ ∀ d : DishId, (p.queues[d]).length ≤ 120 ∧ (p.queues[d]).Pairwise fun x y => x.time < y.time

/-- The blot of Laws/Still.lean leaves the points, so that the law is read through it. -/
theorem pointsLaw_iff {b : Block} : b.PointsLaw ↔ b.still.points.Lawful := Iff.rfl

/-- A sum over the dishes, one term of which is replaced. -/
theorem sum_dishes_replaced (f : DishId → Nat) (d : DishId) (n : Nat) :
    (allDishes.map fun e => if d = e then n else f e).sum + f d = (allDishes.map f).sum + n := by
  have sums (g : DishId → Nat) : (allDishes.map g).sum = g d + ∑ e ∈ Finset.univ.erase d, g e := by
    rw [Finset.add_sum_erase _ _ (Finset.mem_univ d), Fin.sum_univ_def]
    rfl
  have others : (∑ e ∈ Finset.univ.erase d, if d = e then n else f e) = ∑ e ∈ Finset.univ.erase d, f e :=
    Finset.sum_congr rfl fun e he => if_neg (Finset.ne_of_mem_erase he).symm
  rw [sums, sums, others, if_pos rfl]
  omega

section
variable {b : Block}

/-- The points a queue holds are among those of all queues. -/
theorem queue_le_total (b : Block) (d : DishId) : (b.queue d).length ≤ (allDishes.map fun e => (b.queue e).length).sum :=
  List.single_le_sum (by simp) _ (List.mem_map_of_mem (List.mem_finRange d))

/-- A queue replaced by one that the pool has room for (R34). -/
theorem pointsLaw_setQueue (h : b.PointsLaw) (d : DishId) {q : List Point}
    (room : q.length ≤ b.points.free + (b.queue d).length) (cap : q.length ≤ 120)
    (rising : q.Pairwise fun x y => x.time < y.time) : (b.setQueue d q).PointsLaw := by
  obtain ⟨total, each⟩ := h
  refine ⟨?_, fun e => ?_⟩
  · have split := sum_dishes_replaced (fun e => (b.queue e).length) d q.length
    have held := queue_le_total b d
    have lengths : (fun e => ((b.setQueue d q).queue e).length) = fun e => if d = e then q.length else (b.queue e).length := by
      funext e
      rw [queue_setQueue, apply_ite List.length]
    rw [lengths, free_setQueue]
    omega
  · rw [queue_setQueue]
    split
    · exact ⟨cap, rising⟩
    · exact each e

/-- A queue replaced by part of itself. -/
theorem pointsLaw_sublist (h : b.PointsLaw) (d : DishId) {q : List Point} (part : q.Sublist (b.queue d)) :
    (b.setQueue d q).PointsLaw := by
  have short := part.length_le
  exact pointsLaw_setQueue h d (by omega) (short.trans (h.2 d).1) ((h.2 d).2.sublist part)

/-- A queue whose points keep their times. -/
theorem pointsLaw_map (h : b.PointsLaw) (d : DishId) {f : Point → Point} (times : ∀ x, (f x).time = x.time) :
    (b.setQueue d ((b.queue d).map f)).PointsLaw := by
  refine pointsLaw_setQueue h d (by simp) (by simpa using (h.2 d).1) ?_
  rw [List.pairwise_map]
  simpa only [times] using (h.2 d).2

/-- The law depends on the points alone. -/
theorem pointsLaw_of_points {c : Block} (e : c.points = b.points) (h : b.PointsLaw) : c.PointsLaw := by
  have same : c.still.points = b.still.points := e
  rw [pointsLaw_iff, same]
  exact h

/-! ### The operations of chapter 2 -/

@[simp] theorem points_modDish (b : Block) (d : DishId) (f : Dish → Dish) : (b.modDish d f).points = b.points := rfl

theorem points_openClamp (b : Block) (d : DishId) (p : Point) (asked : Int) : (b.openClamp d p asked).points = b.points := by
  unfold Block.openClamp Block.tellClamped
  split
  · rfl
  · simp

theorem pointsLaw_trim (h : b.PointsLaw) (v : DishId) : (b.trim v).PointsLaw :=
  pointsLaw_of_points (by simp [Block.trim]) (pointsLaw_sublist h v (List.dropLast_sublist _))

/-- A point that no check of R35 refuses lies behind its queue, which has a free place. -/
theorem admitted_of_pointRefused {d : DishId} {time now : Nat} (h : b.pointRefused d time now = none) :
    (∀ x, (b.queue d).getLast? = some x → x.time < time) ∧ (b.queue d).length < 120 := by
  unfold Block.pointRefused at h
  split at h
  · cases h
  · next early =>
    (repeat' split at h) <;> simp at h
    refine ⟨fun x last => ?_, by omega⟩
    simp [last] at early
    exact early

theorem rising_append {q : List Point} {x : Point} (rising : q.Pairwise fun x y => x.time < y.time)
    (behind : ∀ y, q.getLast? = some y → y.time < x.time) : (q ++ [x]).Pairwise fun x y => x.time < y.time := by
  refine List.pairwise_append.mpr ⟨rising, List.pairwise_singleton .., fun y hy z hz => ?_⟩
  obtain rfl := List.mem_singleton.mp hz
  obtain ⟨init, last, rfl⟩ := (List.eq_nil_or_concat' q).resolve_left (List.ne_nil_of_mem hy)
  have bound : last.time < z.time := behind last (by simp)
  rcases List.mem_append.mp hy with early | late
  · exact ((List.pairwise_append.mp rising).2.2 y early last (by simp)).trans bound
  · obtain rfl := List.mem_singleton.mp late
    exact bound

theorem points_joinPoint (b : Block) (d : DishId) (p : PointParams) :
    (b.joinPoint d p).points = (b.setQueue d (b.queue d ++ [b.makePoint d p])).points := by
  unfold Block.joinPoint
  dsimp only
  split
  · exact points_openClamp ..
  · rfl

/-- A point joins a queue that it follows and that has room. -/
theorem pointsLaw_joinPoint (h : b.PointsLaw) {d : DishId} {p : PointParams} (room : 0 < b.points.free)
    (cap : (b.queue d).length < 120) (behind : ∀ x, (b.queue d).getLast? = some x → x.time < p.time) :
    (b.joinPoint d p).PointsLaw := by
  refine pointsLaw_of_points (points_joinPoint ..) (pointsLaw_setQueue h d ?_ ?_ (rising_append (h.2 d).2 behind))
  all_goals rw [List.length_append, List.length_singleton]; omega

end

end Sys2Proof.Machine
end

-- ==== Points offered (R34 to R38) ====
section
/-! Which dish gives up its latest point, what a trim and a joining make of queues, pool and episode, when an offer is
taken, and that admission keeps the pool's law. -/

open Sys2Proof

namespace Sys2Proof.Machine

/-! ### The victim (R36) -/

/-- Of the dish taken so far and those that follow it, the fold keeps the one with the most points, the last of equals. -/
theorem fold_keeps_longest (len : DishId → Nat) (ds : List DishId) (v : DishId) (rising : (v :: ds).Pairwise (· < ·)) :
    let r := ds.foldl (fun v d => if len v ≤ len d then d else v) v
    ∀ d ∈ v :: ds, len d ≤ len r ∧ (r < d → len d < len r) := by
  induction ds generalizing v with
  | nil => simp
  | cons x xs ih =>
    obtain ⟨below, later⟩ := List.pairwise_cons.mp rising
    have vx : v < x := below x (by simp)
    rw [List.foldl_cons]
    split
    · next longer =>
      have found := ih x later
      intro r d hd
      obtain rfl | hd := List.mem_cons.mp hd
      · have first := found x (by simp)
        exact ⟨longer.trans first.1, fun behind => longer.trans_lt (first.2 (behind.trans vx))⟩
      · exact found d hd
    · next shorter =>
      have rest : (v :: xs).Pairwise (· < ·) :=
        List.pairwise_cons.mpr ⟨fun d hd => below d (by simp [hd]), (List.pairwise_cons.mp later).2⟩
      have found := ih v rest
      intro r d hd
      have first := found v (by simp)
      rcases List.mem_cons.mp hd with rfl | hd
      · exact first
      · rcases List.mem_cons.mp hd with rfl | hd
        · have less : len d < len r := by
            have : len v ≤ len r := first.1
            omega
          exact ⟨less.le, fun _ => less⟩
        · exact found d (by simp [hd])

/-- No dish has more points than the victim, and none after it as many. -/
theorem victim_longest (b : Block) (d : DishId) :
    (b.queue d).length ≤ (b.queue b.victim).length
    ∧ (b.victim < d → (b.queue d).length < (b.queue b.victim).length) := by
  have dishes : allDishes = (0 : DishId) :: allDishes.tail := rfl
  have start : b.victim
      = allDishes.tail.foldl (fun v d => if (b.queue v).length ≤ (b.queue d).length then d else v) 0 := by
    unfold Block.victim
    conv_lhs => rw [dishes]
    simp
  have rising : ((0 : DishId) :: allDishes.tail).Pairwise (· < ·) := by decide
  have longest := fold_keeps_longest (fun d => (b.queue d).length) _ _ rising d (by rw [← dishes]; exact List.mem_finRange d)
  rw [start]
  exact longest

/-- While 32 or fewer are free the victim has a point to give. -/
theorem victim_holds {b : Block} (h : b.PointsLaw) (few : b.points.free ≤ 32) : b.queue b.victim ≠ [] := by
  intro empty
  have none : ∀ d, (b.queue d).length = 0 := fun d => by
    have most := (victim_longest b d).1
    rw [empty] at most
    exact Nat.le_zero.mp most
  have total := h.1
  simp only [none] at total
  have zero : (allDishes.map fun _ => 0).sum = 0 := by decide
  rw [zero] at total
  omega

section
variable (b : Block) (d e v : DishId) (p : PointParams)

/-! ### A trim (R36) -/

@[simp] theorem queue_modDish (f : Dish → Dish) : (b.modDish d f).queue = b.queue := rfl

theorem queue_trim : (b.trim v).queue e = if v = e then (b.queue v).dropLast else b.queue e := by
  simp [Block.trim]

theorem free_trim : (b.trim v).points.free = b.points.free + (b.queue v).length - (b.queue v).dropLast.length := by
  simp [Block.trim, free_setQueue]

theorem dish_trim : (b.trim v).dish v = { b.dish v with trims := bump16 (b.dish v).trims } := by
  simp [Block.trim, Block.modDish]

/-! ### A point joins (R37, R38) -/

theorem queue_openClamp (x : Point) (asked : Int) : (b.openClamp d x asked).queue = b.queue := by
  unfold Block.openClamp Block.tellClamped
  split <;> simp

theorem queue_joinPoint : (b.joinPoint d p).queue e = if d = e then b.queue d ++ [b.makePoint d p] else b.queue e := by
  unfold Block.joinPoint Block.closeClamp
  dsimp only
  split <;> simp [queue_openClamp]

theorem free_joinPoint (room : 0 < b.points.free) : (b.joinPoint d p).points.free + 1 = b.points.free := by
  rw [points_joinPoint, free_setQueue, List.length_append, List.length_singleton]
  omega

theorem dish_joinPoint (other : e ≠ d) : (b.joinPoint d p).dish e = b.dish e := by
  unfold Block.joinPoint Block.closeClamp Block.openClamp Block.tellClamped Block.modDish
  dsimp only
  (repeat' split) <;> simp [other.symm]

/-! ### An offer (R35) -/

/-- The machine a point joins: after an early trim where 32 or fewer places are free (R36). -/
def Block.withRoom : Block := if b.points.free ≤ 32 then b.trim b.victim else b

/-- What an offer answers once checks 1 and 2 pass (R35, R36). -/
theorem offer_passed {now : Nat} (passed : b.pointRefused d p.time now = none) :
    b.offer d p now = if b.points.free ≤ 32 ∧ b.victim = d then .error .trimmed
      else .ok (b.withRoom.joinPoint d p, (b.withRoom.makePoint d p).clamped) := by
  unfold Block.offer Block.withRoom
  rw [passed]
  dsimp only
  by_cases few : b.points.free ≤ 32
  · by_cases own : b.victim = d <;> simp [few, own]
  · simp [few]

variable {b d p} in
/-- A point taken has passed every check, and has joined its queue. -/
theorem offer_taken {now : Nat} {t : Block} {clamped : Bool} (taken : b.offer d p now = .ok (t, clamped)) :
    b.pointRefused d p.time now = none ∧ ¬(b.points.free ≤ 32 ∧ b.victim = d)
    ∧ t = b.withRoom.joinPoint d p ∧ clamped = (b.withRoom.makePoint d p).clamped := by
  cases passed : b.pointRefused d p.time now with
  | some code =>
    unfold Block.offer at taken
    rw [passed] at taken
    cases taken
  | none =>
    rw [offer_passed b d p passed] at taken
    split at taken
    · cases taken
    · next room =>
      cases taken
      exact ⟨rfl, room, rfl, rfl⟩

end

/-! ### Admission keeps the pool's law -/

section
variable {b : Block} {d : DishId}

/-- An early trim leaves every other dish's queue, and a free place. -/
theorem withRoom_room (h : b.PointsLaw) (other : ¬(b.points.free ≤ 32 ∧ b.victim = d)) :
    b.withRoom.PointsLaw ∧ 0 < b.withRoom.points.free ∧ b.withRoom.queue d = b.queue d := by
  unfold Block.withRoom
  split
  · next few =>
    have holds := List.length_pos_iff.mpr (victim_holds h few)
    refine ⟨pointsLaw_trim h _, ?_, ?_⟩
    · rw [free_trim, List.length_dropLast]
      omega
    · rw [queue_trim, if_neg fun own => other ⟨few, own⟩]
  · exact ⟨h, by omega, rfl⟩

theorem pointsLaw_offer (h : b.PointsLaw) {p : PointParams} {now : Nat} {t : Block} {clamped : Bool}
    (taken : b.offer d p now = .ok (t, clamped)) : t.PointsLaw := by
  obtain ⟨passed, other, rfl, -⟩ := offer_taken taken
  obtain ⟨law, room, own⟩ := withRoom_room h other
  obtain ⟨behind, cap⟩ := admitted_of_pointRefused passed
  exact pointsLaw_joinPoint law room (by rwa [own]) (by rwa [own])

theorem pointsLaw_takePoints (h : b.PointsLaw) (now n : Nat) (clamped : Bool) (ps : List PointParams) :
    (b.takePoints d now n clamped ps).1.PointsLaw := by
  induction ps generalizing b n clamped with
  | nil => exact h
  | cons p ps ih =>
    unfold Block.takePoints
    split
    · exact h
    · next offered => exact ih (pointsLaw_offer h offered) ..

end

end Sys2Proof.Machine
end

-- ==== The statements on points: resolution, offers, ADD_POINTS (R35 to R38) ====
section
/-! The candidate nearest a reference; then what an offered point is resolved to, what one offer does, and what
ADD_POINTS answers. -/

open Sys2Proof

namespace Sys2Proof.Machine

/-! ### The nearest candidate (R37) -/

/-- Of candidates in ascending order the nearest is taken, the more positive of two equally near. -/
theorem nearestTo_nearest {ref : Int} {xs : List Int} {y : Int} (rising : xs.Pairwise (· ≤ ·))
    (h : nearestTo ref xs = some y) :
    y ∈ xs ∧ ∀ a ∈ xs, absDiff y ref < absDiff a ref ∨ (absDiff y ref = absDiff a ref ∧ a ≤ y) := by
  induction xs generalizing y with
  | nil => cases h
  | cons x xs ih =>
    obtain ⟨below, later⟩ := List.pairwise_cons.mp rising
    unfold nearestTo at h
    split at h
    · next none =>
      have empty : xs = [] := by
        cases xs with
        | nil => rfl
        | cons z zs => unfold nearestTo at none; split at none <;> (try split at none) <;> cases none
      subst empty
      cases h
      simp
    · next z found =>
      obtain ⟨zin, nearest⟩ := ih later found
      split at h
      · next nearer =>
        cases h
        refine ⟨by simp, fun a ha => ?_⟩
        rcases List.mem_cons.mp ha with rfl | ha
        · exact .inr ⟨rfl, le_rfl⟩
        · rcases nearest a ha with less | ⟨same, -⟩
          · exact .inl (nearer.trans less)
          · exact .inl (same ▸ nearer)
      · next further =>
        cases h
        refine ⟨by simp [zin], fun a ha => ?_⟩
        rcases List.mem_cons.mp ha with rfl | ha
        · have order := below y zin
          rcases Nat.lt_or_eq_of_le (Nat.not_lt.mp further) with less | same
          · exact .inl less
          · exact .inr ⟨same, order⟩
        · exact nearest a ha

theorem nearestTo_none {ref : Int} {xs : List Int} : nearestTo ref xs = none ↔ xs = [] := by
  cases xs with
  | nil => simp [nearestTo]
  | cons x xs =>
    unfold nearestTo
    split
    · simp
    · split <;> simp

/-- A wrap candidate within the soft limits. -/
def FitsAz (lo hi sky a : Int) : Prop := a ∈ [sky - 360000, sky, sky + 360000] ∧ lo ≤ a ∧ a ≤ hi

theorem mem_fitting {lo hi sky a : Int} : a ∈ (candidates sky).filter (fun c => within lo hi c) ↔ FitsAz lo hi sky a := by
  simp [FitsAz, candidates, within]

/-- An azimuth resolved: the nearest of the candidates that fit, or the nearer limit (R37). -/
theorem resolveAz_spec (lo hi ref sky : Int) :
    let r := resolveAz lo hi ref sky
    (r.2 = true ↔ ∀ a, ¬FitsAz lo hi sky a)
    ∧ (∀ a, FitsAz lo hi sky a → FitsAz lo hi sky r.1
      ∧ (absDiff r.1 ref < absDiff a ref ∨ (absDiff r.1 ref = absDiff a ref ∧ a ≤ r.1)))
    ∧ ((∀ a, ¬FitsAz lo hi sky a) → r.1 = if absDiff lo ref < absDiff hi ref then lo else hi) := by
  have rising : ((candidates sky).filter fun c => within lo hi c).Pairwise (· ≤ ·) := by
    refine List.Pairwise.filter _ ?_
    simp only [candidates, List.pairwise_cons, List.mem_cons, List.not_mem_nil]
    exact ⟨by grind, by grind, by simp⟩
  simp only [← mem_fitting]
  unfold resolveAz
  cases found : nearestTo ref ((candidates sky).filter fun c => within lo hi c) with
  | some c =>
    obtain ⟨here, nearest⟩ := nearestTo_nearest rising found
    exact ⟨⟨by simp, fun empty => absurd here (empty c)⟩, fun a ha => ⟨here, nearest a ha⟩,
      fun empty => absurd here (empty c)⟩
  | none =>
    have empty := nearestTo_none.mp found
    rw [empty]
    simp

/-- Settles O39: the elevation by the clamp of its axis, the azimuth by the nearest candidate. -/
theorem pointResolution : Obligations.PointResolution := by
  intro b d p c raised lo hi ref x fits
  obtain ⟨misfit, nearest, limit⟩ := resolveAz_spec lo hi ref p.az
  have clamped : x.clamped = true ↔ (resolveAz lo hi ref p.az).2 = true ∨ x.el ≠ p.el := by
    change ((resolveAz lo hi ref p.az).2 || x.el != p.el) = true ↔ _
    simp
  refine ⟨fun q last => ?_, fun empty => ⟨fun r told => ?_, fun untold => ?_⟩, rfl, rfl, rfl, ?_, nearest,
    fun none => ⟨fun low => ?_, fun high => ?_⟩⟩
  · simp [ref, Block.azRef, last]
  · simp [ref, Block.azRef, Block.pos, empty, told]
  · simp [ref, Block.azRef, Block.pos, empty, untold]
  · rw [clamped, misfit]
    rfl
  · exact (limit none).trans (if_pos low)
  · exact (limit none).trans (if_neg (Nat.not_lt.mpr high))

/-! ### One offer (R35, R36) -/

/-- Checks 1 and 2 in their order. -/
theorem pointRefused_eq (b : Block) (d : DishId) (time now : Nat) :
    b.pointRefused d time now = if ∃ x, (b.queue d).getLast? = some x ∧ time ≤ x.time then some .outOfOrder
      else if now + 600000 < time then some .tooFar else if 120 ≤ (b.queue d).length then some .queueFull else none := by
  unfold Block.pointRefused
  cases last : (b.queue d).getLast? <;> simp

theorem offer_refused {b : Block} {d : DishId} {p : PointParams} {now : Nat} {code : Code}
    (refused : b.pointRefused d p.time now = some code) : b.offer d p now = .error code := by
  unfold Block.offer
  rw [refused]

/-- What a trim reports of a queue of two points or more. -/
theorem trim_concat (b : Block) (v : DishId) (rest : List Point) (last x : Point) (h : b.queue v = rest ++ [last, x]) :
    let n := ((b.dish v).trims + 1) % 65536
    b.trim v = ((b.setQueue v (rest ++ [last])).setDish v { b.dish v with trims := n }).tell .pointsTrimmed (dishNum v)
      [f2 n, f1 (rest.length + 1), f6 last.time] := by
  have left : (b.queue v).dropLast = rest ++ [last] := by simp [h]
  simp [Block.trim, Block.modDish, left, bump16]

/-- Settles O38, by the checks of R35 in their order. -/
theorem offeredPoint : Obligations.OfferedPoint := by
  refine ⟨victim_longest, trim_concat, ?_⟩
  intro b d p now law early far full
  have passed (ne : ¬early) (nf : ¬far) (nq : ¬full) : b.pointRefused d p.time now = none := by
    rw [pointRefused_eq, if_neg ne, if_neg nf, if_neg nq]
  refine ⟨fun e => ?_, fun ne f => ?_, fun ne nf q => ?_, fun ne nf nq few own => ?_, fun ne nf nq few other => ?_,
    fun ne nf nq many => ?_⟩
  · exact offer_refused (by rw [pointRefused_eq, if_pos e])
  · exact offer_refused (by rw [pointRefused_eq, if_neg ne, if_pos f])
  · exact offer_refused (by rw [pointRefused_eq, if_neg ne, if_neg nf, if_pos q])
  · rw [offer_passed b d p (passed ne nf nq), if_pos ⟨few, own⟩]
  · have taken := offer_passed b d p (passed ne nf nq)
    rw [if_neg fun h => other h.2] at taken
    have trimmed : b.withRoom = b.trim b.victim := if_pos few
    obtain ⟨-, room, own⟩ := withRoom_room (d := d) law fun h => other h.2
    have holds := List.length_pos_iff.mpr (victim_holds law few)
    refine ⟨_, _, b.withRoom.makePoint d p, taken, rfl, ?_, ?_, ?_, ?_, fun e ed ev => ?_⟩
    · rw [queue_joinPoint, if_pos rfl, own]
    · rw [queue_joinPoint, if_neg (Ne.symm other), trimmed, queue_trim, if_pos rfl]
    · have joined := free_joinPoint b.withRoom d p room
      rw [trimmed, free_trim, List.length_dropLast] at joined
      rw [trimmed]
      omega
    · rw [dish_joinPoint _ _ _ _ other, trimmed, dish_trim]
      rfl
    · rw [queue_joinPoint, if_neg (Ne.symm ed), trimmed, queue_trim, if_neg (Ne.symm ev)]
  · have taken := offer_passed b d p (passed ne nf nq)
    have kept : b.withRoom = b := if_neg (by omega)
    rw [if_neg (by omega), kept] at taken
    refine ⟨_, _, b.makePoint d p, taken, rfl, rfl, rfl, ?_, free_joinPoint b d p (by omega), fun e ed => ?_⟩
    · rw [queue_joinPoint, if_pos rfl]
    · rw [queue_joinPoint, if_neg (Ne.symm ed)]

/-! ### ADD_POINTS (R35, R38) -/

theorem useDish_none {b : Block} {n : Nat} (h : dishOf n = none) : b.useDish n = .error .badValue := by
  simp [Block.useDish, h]

theorem useDish_unconfigured {b : Block} {n : Nat} {d : DishId} (h : dishOf n = some d) (out : b.configured d = false) :
    b.useDish n = .error .noSuch := by
  simp [Block.useDish, h, out]

theorem useDish_ok {b : Block} {n : Nat} {d : DishId} (h : dishOf n = some d) (conf : b.configured d = true) :
    b.useDish n = .ok d := by
  simp [Block.useDish, h, conf]

theorem pointsInRange_iff (pts : List PointParams) : pointsInRange pts = true
    ↔ ∀ p ∈ pts, 0 ≤ p.az ∧ p.az ≤ 359999 ∧ 0 ≤ p.el ∧ p.el ≤ 90000 := by
  simp [pointsInRange, within, and_assoc]

/-- A point joins its queue, and its clamp episode opens or closes by whether it was clamped (R38). -/
theorem joinPoint_eq (b : Block) (d : DishId) (p : PointParams) :
    let x := b.makePoint d p
    let joined := (b.setQueue d (b.queue d ++ [x])).setDish d { b.dish d with clampOpen := x.clamped }
    b.joinPoint d p = if x.clamped = true ∧ (b.dish d).clampOpen = false then
      joined.tell .clamped (dishNum d) [f6 p.time, s4 p.az, s4 p.el, s4 x.az, s4 x.el] else joined := by
  intro x joined
  change (if x.clamped = true then (b.setQueue d (b.queue d ++ [x])).openClamp d x p.el
    else (b.setQueue d (b.queue d ++ [x])).closeClamp d) = _
  have dish : (b.setQueue d (b.queue d ++ [x])).dish d = b.dish d := by simp
  cases clamp : x.clamped with
  | false => simp [joined, Block.closeClamp, Block.modDish, clamp]
  | true =>
    cases episode : (b.dish d).clampOpen with
    | true =>
      have same : joined = b.setQueue d (b.queue d ++ [x]) := by
        have stands : { b.dish d with clampOpen := x.clamped } = (b.setQueue d (b.queue d ++ [x])).dish d := by
          rw [clamp, ← episode, dish]
        exact (congrArg _ stands).trans (setDish_self ..)
      simp [same, Block.openClamp, dish, episode]
    | false =>
      simp only [Block.openClamp, Block.modDish, dish, episode, joined, clamp]
      rfl

theorem dish_withRoom_clampOpen (b : Block) (d : DishId) : (b.withRoom.dish d).clampOpen = (b.dish d).clampOpen := by
  unfold Block.withRoom
  split
  · by_cases own : b.victim = d
    · rw [← own, dish_trim]
    · simp [Block.trim, Block.modDish, own]
  · rfl

/-- What a point taken makes of its queue and its dish's clamp episode. -/
theorem offer_joins (b : Block) (d : DishId) (p : PointParams) (now : Nat) (t : Block) (clamped : Bool)
    (taken : b.offer d p now = .ok (t, clamped)) :
    let room := if b.points.free ≤ 32 then b.trim b.victim else b
    let x := room.makePoint d p
    let joined := (room.setQueue d (room.queue d ++ [x])).setDish d { room.dish d with clampOpen := clamped }
    clamped = x.clamped
    ∧ (clamped = true → (b.dish d).clampOpen = false →
        t = joined.tell .clamped (dishNum d) [f6 p.time, s4 p.az, s4 p.el, s4 x.az, s4 x.el])
    ∧ (clamped = false ∨ (b.dish d).clampOpen = true → t = joined) := by
  obtain ⟨-, -, rfl, rfl⟩ := offer_taken taken
  have episode := dish_withRoom_clampOpen b d
  have join := joinPoint_eq b.withRoom d p
  rw [episode] at join
  refine ⟨rfl, fun clamp closed => ?_, fun quiet => ?_⟩
  · exact join.trans (if_pos ⟨clamp, closed⟩)
  · refine join.trans (if_neg fun ⟨clamp, closed⟩ => ?_)
    rcases quiet with unclamped | opened
    · exact Bool.noConfusion (clamp.symm.trans unclamped)
    · exact Bool.noConfusion (closed.symm.trans opened)

/-- The points are offered in turn (R35). -/
theorem takePoints_turns (b : Block) (d : DishId) (now n : Nat) (clamped : Bool) :
    b.takePoints d now n clamped [] = (b, n, if clamped = true then .clamped else .ok)
    ∧ ∀ (p : PointParams) (ps : List PointParams),
      (∀ code, b.offer d p now = .error code → b.takePoints d now n clamped (p :: ps) = (b, n, code))
      ∧ ∀ t one, b.offer d p now = .ok (t, one) →
        b.takePoints d now n clamped (p :: ps) = t.takePoints d now (n + 1) (clamped || one) ps := by
  refine ⟨rfl, fun p ps => ⟨fun code refused => ?_, fun t one taken => ?_⟩⟩
  · rw [Block.takePoints, refused]
  · rw [Block.takePoints, taken]

/-- Settles O37: the owner's checks in their order, the points in turn, and a point that joins. -/
theorem addPointsAdmits : Obligations.AddPointsAdmits := by
  refine ⟨fun s tag dish pts taken => ⟨fun unnamed => ?_, fun d named => ⟨fun out => ?_, fun conf unset => ?_,
    fun now conf set => ⟨fun bad => ?_, fun good => ?_⟩⟩⟩, takePoints_turns, offer_joins⟩
  · exact request_refused taken (by simp [ownAddPoints, useDish_none unnamed])
  · exact request_refused taken (by simp [ownAddPoints, useDish_unconfigured named, out])
  · exact request_refused taken (by simp [ownAddPoints, useDish_ok named, conf, unset])
  · rw [← pointsInRange_iff, Bool.not_eq_true] at bad
    exact request_refused taken (by simp [ownAddPoints, useDish_ok named, conf, set, bad])
  · rw [← pointsInRange_iff] at good
    exact request_replies taken (by simp [ownAddPoints, useDish_ok named, conf, set, good, reply])

end Sys2Proof.Machine
end

-- ==== What leaves the points as they stand ====
section
/-! Faults, answers, weather entries, locks, nodes, lines, frames and writes: beside what settling leaves, what they touch
is no point either. -/

open Sys2Proof

namespace Sys2Proof.Machine

/-- An operation on one axis leaves the points. -/
theorem pool_of_beside {b c : Block} (h : b.beside = c.beside) : b.still.points = c.still.points :=
  (congrArg Block.points h :)

theorem pool_each {α : Type} (b : Block) (xs : List α) (f : α → Block → Block)
    (h : ∀ x s, (f x s).still.points = s.still.points) : (b.each xs f).still.points = b.still.points :=
  each_keeps (fun s => s.still.points) xs f h b

section
variable (b : Block)

/-! ### Records that hold no point -/
@[simp ↓] theorem pool_withSite (x : Site) : ({ b with site := x } : Block).still.points = b.still.points := id rfl

@[simp ↓] theorem pool_withWeather (x : Weather) : ({ b with weather := x } : Block).still.points = b.still.points := id rfl

@[simp ↓] theorem pool_withHeater (x : Heater) : ({ b with heater := x } : Block).still.points = b.still.points := id rfl

@[simp ↓] theorem pool_withField (x : FieldCtl) : ({ b with field := x } : Block).still.points = b.still.points := id rfl

@[simp ↓] theorem pool_withAccount (x : Account) : ({ b with account := x } : Block).still.points = b.still.points := id rfl

@[simp ↓] theorem pool_withLink (x : Link) : ({ b with link := x } : Block).still.points = b.still.points := id rfl

@[simp ↓] theorem pool_withLockout (x : Lockout) : ({ b with lockout := x } : Block).still.points = b.still.points := id rfl


@[simp] theorem pool_setAxis (d : DishId) (k : AxisKind) (x : Axis) :
    (b.setAxis d k x).still.points = b.still.points := id rfl

@[simp] theorem pool_setDish (d : DishId) (x : Dish) : (b.setDish d x).still.points = b.still.points := id rfl

@[simp] theorem pool_modDish (d : DishId) (f : Dish → Dish) : (b.modDish d f).still.points = b.still.points := id rfl

@[simp] theorem pool_modAxis (d : DishId) (k : AxisKind) (f : Axis → Axis) :
    (b.modAxis d k f).still.points = b.still.points := id rfl

@[simp] theorem pool_modZone (d : DishId) (z : ZoneKind) (f : Zone → Zone) :
    (b.modZone d z f).still.points = b.still.points := id rfl

@[simp] theorem pool_setZone (d : DishId) (z : ZoneKind) (x : Zone) :
    (b.setZone d z x).still.points = b.still.points := id rfl

@[simp] theorem pool_setWx (n : WeatherId) (x : WxEntry) : (b.setWx n x).still.points = b.still.points := id rfl

@[simp] theorem pool_setNode (r : NodeRef) (x : Node) : (b.setNode r x).still.points = b.still.points := by
  cases r <;> rfl

@[simp] theorem pool_setLine (l : Line) (x : LineRec) : (b.setLine l x).still.points = b.still.points := by
  cases l <;> rfl

@[simp] theorem pool_passTime (n : Nat) : (b.passTime n).still.points = b.still.points := id rfl

@[simp] theorem pool_carryTo (t : Nat) : (b.carryTo t).still.points = b.still.points := id rfl

@[simp] theorem pool_clearPark (d : DishId) : (b.clearPark d).still.points = b.still.points := id rfl

@[simp] theorem pool_setWaiting (ws : List WriteReq) : (b.setWaiting ws).still.points = b.still.points := id rfl

@[simp] theorem pool_answer (n : Nat) (code : Code) (body : List Fld) (after : After) :
    (b.answer n code body after).still.points = b.still.points := id rfl

@[simp] theorem pool_setVisit (v : Option Visit) : (b.setVisit v).still.points = b.still.points := id rfl

@[simp] theorem pool_setConfigured (d : DishId) (v : Bool) : (b.setConfigured d v).still.points = b.still.points := id rfl

@[simp] theorem pool_setKey (d : DishId) (r : KeyRec) : (b.setKey d r).still.points = b.still.points := id rfl

@[simp] theorem pool_clearKey (d : DishId) : (b.clearKey d).still.points = b.still.points := id rfl

@[simp] theorem pool_settleTimers : b.settleTimers.still.points = b.still.points := id rfl

@[simp] theorem pool_advanceTimers (b0 : Block) : (Block.advanceTimers b0 b).still.points = b.still.points := id rfl

@[simp] theorem pool_judgeZone (d : DishId) (z : ZoneKind) : (b.judgeZone d z).still.points = b.still.points := id rfl

@[simp] theorem pool_count (f : LinkCounters → LinkCounters) : (b.count f).still.points = b.still.points := id rfl

@[simp] theorem pool_joinOut (tag : Tag) (kind : Byte) (req : Option Instr) (reply : Option Reply) :
    (b.joinOut tag kind req reply).still.points = b.still.points := id rfl

@[simp] theorem pool_setRx (st : RxState) (bytes : List Byte) : (b.setRx st bytes).still.points = b.still.points := id rfl

/-! ### Reports of their own records -/

@[simp] theorem pool_tellMode (d : DishId) (prev : Mode) (why : ModeCause) :
    (b.tellMode d prev why).still.points = b.still.points := by simp [Block.tellMode]

@[simp] theorem pool_tellAxis (d : DishId) (k : AxisKind) (prev : AxisState) :
    (b.tellAxis d k prev).still.points = b.still.points := by simp [Block.tellAxis]

@[simp] theorem pool_tellBudget : b.tellBudget.still.points = b.still.points := by simp [Block.tellBudget]

@[simp] theorem pool_tellLock (e : LockEntry) (why : LockCause) : (b.tellLock e why).still.points = b.still.points := by
  simp [Block.tellLock]

@[simp] theorem pool_tellStoreFault (kind : Option WriteKind) (nums : List Nat) :
    (b.tellStoreFault kind nums).still.points = b.still.points := by simp [Block.tellStoreFault]

@[simp] theorem pool_tellWx (n : WeatherId) (why : WxCause) : (b.tellWx n why).still.points = b.still.points := by
  simp [Block.tellWx]

@[simp] theorem pool_tellSnow (why : Option Nat) : (b.tellSnow why).still.points = b.still.points := by
  simp [Block.tellSnow]

@[simp] theorem pool_tellEstop : b.tellEstop.still.points = b.still.points := by simp [Block.tellEstop]

@[simp] theorem pool_tellSiteWeather : b.tellSiteWeather.still.points = b.still.points := by
  simp [Block.tellSiteWeather]

@[simp] theorem pool_tellClamped (d : DishId) (p : Point) (asked : Int) :
    (b.tellClamped d p asked).still.points = b.still.points := by simp [Block.tellClamped]

@[simp] theorem pool_setLineState (l : Line) (x : LineRec) (why : LineCause) :
    (b.setLineState l x why).still.points = b.still.points := by simp [Block.setLineState]

@[simp] theorem pool_reportReach (r : NodeRef) (new : Reach) : (b.reportReach r new).still.points = b.still.points := by
  unfold Block.reportReach
  dsimp only
  split <;> simp

@[simp] theorem pool_rederiveZone (d : DishId) (z : ZoneKind) : (b.rederiveZone d z).still.points = b.still.points := by
  unfold Block.rederiveZone
  dsimp only
  split <;> simp

@[simp] theorem pool_rederiveBoth (d : DishId) : (b.rederiveBoth d).still.points = b.still.points := by
  simp [Block.rederiveBoth]

@[simp] theorem pool_recomputeFloor : b.recomputeFloor.still.points = b.still.points := by
  unfold Block.recomputeFloor
  dsimp only
  split
  · simp only [still_callExamine, pool_tellBudget]
    rfl
  · rfl

/-! ### The store's writes (R143, R183, R184) -/

@[simp] theorem pool_beginWrite : b.beginWrite.still.points = b.still.points := by
  unfold Block.beginWrite
  (repeat' split) <;> rfl

@[simp] theorem pool_askCounts : b.askCounts.still.points = b.still.points := by
  unfold Block.askCounts
  (repeat' split) <;> simp

@[simp] theorem pool_storeFail (kind : Option WriteKind) (nums : List Nat) :
    (b.storeFail kind nums).still.points = b.still.points := by
  simp only [Block.storeFail, pool_tellStoreFault]
  rfl

@[simp] theorem pool_replyLock (ok : Bool) (a : LockAsk) : (b.replyLock ok a).still.points = b.still.points := by
  unfold Block.replyLock
  (repeat' split) <;> simp

@[simp] theorem pool_askLock (a : LockAsk) : (b.askLock a).still.points = b.still.points := by
  unfold Block.askLock
  (repeat' split) <;> simp

@[simp] theorem pool_askFull (id : Nat) : (b.askFull id).still.points = b.still.points := by
  unfold Block.askFull
  (repeat' split) <;> simp

@[simp] theorem pool_markStored (nums : List Nat) : (b.markStored nums).still.points = b.still.points := by
  unfold Block.markStored
  exact (pool_each _ _ _ fun _ _ => pool_tellLock ..).trans rfl

@[simp] theorem pool_writeDone (ok : Bool) : (b.writeDone ok).still.points = b.still.points := by
  have locked (c : Block) (xs : List LockAsk) : (c.each xs fun a s => s.replyLock ok a).still.points = c.still.points :=
    pool_each _ _ _ fun _ _ => pool_replyLock ..
  have saved (c : Block) (xs : List Nat) (code : Code) :
      (c.each xs fun id s => s.answer id code []).still.points = c.still.points := pool_each _ _ _ fun _ _ => rfl
  unfold Block.writeDone
  split
  · rfl
  · dsimp only
    rw [pool_beginWrite, saved, locked]
    split
    · split <;> split
      · exact (pool_tellStoreFault ..).trans ((pool_markStored ..).trans rfl)
      · exact (pool_markStored ..).trans rfl
      · exact pool_tellStoreFault ..
      · rfl
    · exact (pool_storeFail ..).trans rfl

/-! ### Axes (R4 to R22) -/

@[simp] theorem pool_faultAxis (d : DishId) (k : AxisKind) (why : FaultReason) :
    (b.faultAxis d k why).still.points = b.still.points := pool_of_beside (by simp)

@[simp] theorem pool_offlineAxis (d : DishId) (k : AxisKind) : (b.offlineAxis d k).still.points = b.still.points :=
  pool_of_beside (by simp)

@[simp] theorem pool_estopAxis (d : DishId) (k : AxisKind) : (b.estopAxis d k).still.points = b.still.points :=
  pool_of_beside (by simp)

@[simp] theorem pool_judgeWear (d : DishId) (k : AxisKind) : (b.judgeWear d k).still.points = b.still.points :=
  pool_of_beside (by simp)

@[simp] theorem pool_releaseConfirmed (d : DishId) (k : AxisKind) :
    (b.releaseConfirmed d k).still.points = b.still.points := by
  unfold Block.releaseConfirmed
  dsimp only
  split <;> simp

@[simp] theorem pool_heardAgain (d : DishId) (k : AxisKind) (r : AxisReport) :
    (b.heardAgain d k r).still.points = b.still.points := by
  unfold Block.heardAgain
  dsimp only
  (repeat' split) <;> simp

@[simp] theorem pool_answerByState (d : DishId) (k : AxisKind) (r : AxisReport) :
    (b.answerByState d k r).still.points = b.still.points := by
  unfold Block.answerByState
  dsimp only
  (repeat' split) <;> simp [still_arrive, still_stopComplete, still_engageConfirmed]

@[simp] theorem pool_axisAnswer (d : DishId) (k : AxisKind) (r : AxisReport) :
    (b.axisAnswer d k r).still.points = b.still.points := by
  unfold Block.axisAnswer
  dsimp only
  (repeat' split) <;> simp

@[simp] theorem pool_axisRefused (d : DishId) (k : AxisKind) : (b.axisRefused d k).still.points = b.still.points := by
  unfold Block.axisRefused
  dsimp only
  split <;> simp

@[simp] theorem pool_refreshTrack (d : DishId) (k : AxisKind) : (b.refreshTrack d k).still.points = b.still.points := by
  unfold Block.refreshTrack
  split <;> simp

@[simp] theorem pool_judgeLag (d : DishId) (k : AxisKind) (r : AxisReport) :
    (b.judgeLag d k r).still.points = b.still.points := by
  unfold Block.judgeLag
  dsimp only
  (repeat' split) <;> simp

@[simp] theorem pool_mendAxis (d : DishId) (k : AxisKind) : (b.mendAxis d k).still.points = b.still.points := by
  simp [Block.mendAxis]

@[simp] theorem pool_clearWear (d : DishId) (k : AxisKind) : (b.clearWear d k).still.points = b.still.points := by
  simp [Block.clearWear]

@[simp] theorem pool_configureAxis (d : DishId) (k : AxisKind) (c : AxisCfg) :
    (b.configureAxis d k c).still.points = b.still.points := by
  simp [Block.configureAxis]

/-! ### Zones (R128 to R136) -/

@[simp] theorem pool_heaterSecond : b.heaterSecond.still.points = b.still.points := by
  have melted : (b.each allDishes fun d s => s.modZone d .surf Zone.countMelt).still.points = b.still.points :=
    pool_each _ _ _ fun _ _ => rfl
  have judged (c : Block) : (c.eachZone fun d z s => s.judgeZone d z).still.points = c.still.points :=
    pool_each _ _ _ fun _ _ => rfl
  have served (c : Block) (duty : DishId → ZoneKind → Nat) :
      (c.eachZone fun d z s => (s.setDuty d z (duty d z)).rederiveZone d z).still.points = c.still.points :=
    pool_each _ _ _ fun _ _ => by simp
  have slotted (c : Block) (h : Heater) : ({ c with heater := h }).still.points = c.still.points := rfl
  unfold Block.heaterSecond
  dsimp only
  rw [apply_ite Block.still, still_callExamine, ite_self, served, slotted, judged, slotted]
  split
  · exact melted
  · rfl

@[simp] theorem pool_loseZones (d : DishId) : (b.loseZones d).still.points = b.still.points := by
  simp [Block.loseZones]

@[simp] theorem pool_faultZone (d : DishId) (z : ZoneKind) : (b.faultZone d z).still.points = b.still.points := by
  simp [Block.faultZone]

@[simp] theorem pool_mendZone (d : DishId) (z : ZoneKind) : (b.mendZone d z).still.points = b.still.points := by
  simp [Block.mendZone]

@[simp] theorem pool_judgeCold (d : DishId) (t : Int) : (b.judgeCold d t).still.points = b.still.points := by
  unfold Block.judgeCold
  dsimp only
  (repeat' split) <;> simp

@[simp] theorem pool_zoneAnswer (d : DishId) (x : CabBody) (surf drive : Bool) :
    (b.zoneAnswer d x surf drive).still.points = b.still.points := by
  simp [Block.zoneAnswer]

/-! ### Locks, keys and reach (R139 to R148, R161, R162) -/

@[simp] theorem pool_placeLock (kind : LockKind) (d : DishId) (holder : Nat) (key : Bool) :
    (b.placeLock kind d holder key).1.still.points = b.still.points := by
  unfold Block.placeLock
  simp only [pool_tellLock, still_setEngaged, still_setMarks, still_actOnRise]
  rfl

@[simp] theorem pool_takeLock (e : LockEntry) : (b.takeLock e).still.points = b.still.points := by
  simp only [Block.takeLock, pool_tellLock, still_actOnFall]
  rfl

@[simp] theorem pool_keyAnswer (d : DishId) (lockout : Bool) : (b.keyAnswer d lockout).still.points = b.still.points := by
  unfold Block.keyAnswer
  dsimp only
  (repeat' split) <;> simp

@[simp] theorem pool_loseCabinet (d : DishId) : (b.loseCabinet d).still.points = b.still.points := by
  simp [Block.loseCabinet]

@[simp] theorem pool_setReach (r : NodeRef) (new : Reach) : (b.setReach r new).still.points = b.still.points := by
  unfold Block.setReach
  dsimp only
  (repeat' split) <;> simp

@[simp] theorem pool_leaveCycle (r : NodeRef) : (b.leaveCycle r).still.points = b.still.points :=
  (pool_reportReach (b.setNode r (b.node r).left) r .unknown).trans (pool_setNode ..)

@[simp] theorem pool_loseUnknown (r : NodeRef) : (b.loseUnknown r).still.points = b.still.points := by
  unfold Block.loseUnknown
  split <;> simp

@[simp] theorem pool_becomeReady : b.becomeReady.still.points = b.still.points := by
  unfold Block.becomeReady
  exact (pool_each _ _ _ fun _ _ => pool_loseUnknown ..).trans rfl

@[simp] theorem pool_judgeStartup : b.judgeStartup.still.points = b.still.points := by
  unfold Block.judgeStartup
  split <;> simp

end

end Sys2Proof.Machine
end

-- ==== The pool's law through stow, shed, arrivals, the latch and the weather ====
section
/-! The work that drops, raises, flushes or consumes points keeps the law of the pool, and so does all that sets such
work off: the level, the snow episode, answers, stop marks and the field cycle. -/

open Sys2Proof

namespace Sys2Proof.Machine

section
variable {b : Block}

theorem lawful_each {α : Type} (h : b.still.points.Lawful) (xs : List α) (f : α → Block → Block)
    (hf : ∀ x s, s.still.points.Lawful → (f x s).still.points.Lawful) : (b.each xs f).still.points.Lawful :=
  each_holds (fun s => s.still.points.Lawful) xs f hf b h

/-! ### Queues (R39, R40, R115, R116) -/

@[simp] theorem lawful_flush (h : b.still.points.Lawful) (d : DishId) : (b.flush d).still.points.Lawful :=
  pointsLaw_sublist (pointsLaw_iff.mpr h) d (List.nil_sublist _)

@[simp] theorem lawful_dropBefore (h : b.still.points.Lawful) (d : DishId) (t : Nat) :
    (b.dropBefore d t).still.points.Lawful := pointsLaw_sublist (pointsLaw_iff.mpr h) d List.filter_sublist

@[simp] theorem lawful_raisePoints (h : b.still.points.Lawful) (d : DishId) : (b.raisePoints d).still.points.Lawful := by
  unfold Block.raisePoints
  dsimp only
  split
  · exact h
  · refine pointsLaw_of_points (points_openClamp ..) (pointsLaw_map (pointsLaw_iff.mpr h) d fun x => ?_)
    split <;> rfl

/-- What a cycle leaves of a rising queue rises, and is no longer (R39). -/
theorem consumed_rising {q : List Point} (rising : q.Pairwise fun x y => x.time < y.time) (now : Nat) :
    (consumed q now).length ≤ q.length ∧ (consumed q now).Pairwise fun x y => x.time < y.time := by
  unfold consumed
  dsimp only
  split
  · simp
  · refine ⟨?_, List.pairwise_append.mpr ⟨?_, rising.filter _, fun x hx y hy => ?_⟩⟩
    · have apart : (q.filter fun p => decide (p.time ≤ now)).length + (q.filter fun p => decide (now < p.time)).length
          = q.length := by
        rw [List.length_eq_length_filter_add (l := q) fun p => decide (p.time ≤ now)]
        simp only [← decide_not, Nat.not_le]
      have one : ((q.filter fun p => decide (p.time ≤ now)).getLast?.toList).length
          ≤ (q.filter fun p => decide (p.time ≤ now)).length := by
        cases q.filter fun p => decide (p.time ≤ now) <;> simp [List.getLast?_cons]
      rw [List.length_append]
      omega
    · cases (q.filter fun p => decide (p.time ≤ now)).getLast? <;> simp
    · have past : x.time ≤ now := by
        have := List.mem_of_getLast? (Option.mem_toList.mp hx)
        simpa using (List.mem_filter.mp this).2
      have ahead : now < y.time := by simpa using (List.mem_filter.mp hy).2
      omega

@[simp] theorem lawful_consume (h : b.still.points.Lawful) (d : DishId) (now : Nat) :
    (b.consume d now).still.points.Lawful := by
  have law := pointsLaw_iff.mpr h
  obtain ⟨short, rising⟩ := consumed_rising (law.2 d).2 now
  have eaten : (b.setQueue d (consumed (b.queue d) now)).still.points.Lawful :=
    pointsLaw_setQueue law d (by omega) (short.trans (law.2 d).1) rising
  unfold Block.consume
  dsimp only
  (repeat' split) <;> simp [h, eaten]

@[simp] theorem lawful_resumePlan (h : b.still.points.Lawful) (d : DishId) (c : SavedContext) :
    (b.resumePlan d c).1.still.points.Lawful := by
  unfold Block.resumePlan
  split <;> simp [h]

/-! ### Protective moves (R104, R110, R113 to R116) -/

@[simp] theorem lawful_resumeDish (h : b.still.points.Lawful) (d : DishId) : (b.resumeDish d).still.points.Lawful := by
  unfold Block.resumeDish
  split
  · exact h
  · dsimp only
    split
    · simp [h]
    · split
      · simp [h]
      · next asked => rw [still_beginMove, still_askMove _ _ asked]; simp [h]

@[simp] theorem lawful_leaveStowDish (h : b.still.points.Lawful) (d : DishId) :
    (b.leaveStowDish d).still.points.Lawful := by
  unfold Block.leaveStowDish
  dsimp only
  (repeat' split) <;> simp [h]

@[simp] theorem lawful_leaveStowLevel (h : b.still.points.Lawful) : b.leaveStowLevel.still.points.Lawful := by
  refine lawful_each ?_ _ _ fun _ _ hs => lawful_leaveStowDish hs _
  simp [h]

@[simp] theorem pool_holdNeeds (d : DishId) : (b.holdNeeds d).still.points = b.still.points :=
  pool_of_beside (by simp)

@[simp] theorem pool_clearDeferrals : b.clearDeferrals.still.points = b.still.points :=
  pool_each _ _ _ fun _ _ => rfl

/-- A shed touches no point. -/
theorem pool_shedDish {d : DishId} {r : Block × Bool} (e : b.shedDish d = .ok r) :
    r.1.still.points = b.still.points := by
  unfold Block.shedDish at e
  split at e
  · cases e
  · split at e
    · cases e
    · cases e
    · next asked =>
      cases e
      have moved := still_askMove b d asked
      simp [Block.bothAxes, moved]

@[simp] theorem pool_autoShedDish (d : DishId) : (b.autoShedDish d).still.points = b.still.points := by
  unfold Block.autoShedDish
  (repeat' split)
  · next shed => exact pool_shedDish (r := (_, _)) shed
  all_goals rfl

@[simp] theorem pool_takeShedList (ds : List DishId) : (b.takeShedList ds).still.points = b.still.points := by
  unfold Block.takeShedList
  split
  · exact pool_each _ _ _ fun _ _ => by split <;> simp
  · rfl

@[simp] theorem pool_deferredSheds : b.deferredSheds.still.points = b.still.points :=
  pool_each _ _ _ fun _ _ => by split <;> simp

/-! ### Arrivals (R65, R111, R116) -/

@[simp] theorem lawful_returnArrived (h : b.still.points.Lawful) (d : DishId) (i : ReturnIntent) :
    (b.returnArrived d i).still.points.Lawful := by
  unfold Block.returnArrived
  dsimp only
  (repeat' split) <;> simp [h]

@[simp] theorem pool_shedArrived (d : DishId) : (b.shedArrived d).still.points = b.still.points := by
  simp [Block.shedArrived, Block.bothAxes]

@[simp] theorem lawful_judgeMove (h : b.still.points.Lawful) (d : DishId) : (b.judgeMove d).still.points.Lawful := by
  unfold Block.judgeMove
  dsimp only
  (repeat' split) <;> simp [h]

/-! ### The latch (R119, R180) -/

@[simp] theorem pool_estopMode (d : DishId) : (b.estopMode d).still.points = b.still.points := by
  unfold Block.estopMode
  (repeat' split) <;> simp

@[simp] theorem pool_estopDish (d : DishId) : (b.estopDish d).still.points = b.still.points := by
  simp [Block.estopDish]

@[simp] theorem pool_stopMembers (b0 : Block) (g : GroupId) :
    (Block.stopMembers b0 b g).still.points = b.still.points := by
  unfold Block.stopMembers
  (repeat' split)
  · exact pool_each _ _ _ fun _ _ => by simp
  all_goals rfl

@[simp] theorem lawful_latchEstop (h : b.still.points.Lawful) (s : StopSource) :
    (b.latchEstop s).still.points.Lawful := by
  refine lawful_each ?_ _ _ fun _ _ hs => lawful_flush hs _
  rw [pool_each _ _ _ fun _ _ => pool_estopDish _, still_abortAll, pool_each _ _ _ fun _ _ => pool_stopMembers ..,
    pool_each _ _ _ fun _ _ => pool_estopAxis .., pool_tellEstop]
  exact h

@[simp] theorem lawful_setMark (h : b.still.points.Lawful) (s : StopSource) (v : Bool) :
    (b.setMark s v).still.points.Lawful := by
  unfold Block.setMark
  dsimp only
  (repeat' split) <;> simp [h]

/-! ### The snow episode and the level (R93 to R98, R125) -/

@[simp] theorem pool_judgeSnow : b.judgeSnow.still.points = b.still.points := by
  unfold Block.judgeSnow
  split
  · dsimp only
    split
    · rfl
    · rw [pool_clearDeferrals, pool_tellSnow]
      rfl
  · split <;> rfl

@[simp] theorem pool_endEpisode : b.endEpisode.still.points = b.still.points := by
  have zeroed (t : Block) : (t.each allDishes fun d s =>
      s.modZone d .surf fun x => { x with fullSecs := 0, meltMin := 0 }).still.points = t.still.points :=
    pool_each _ _ _ fun _ _ => pool_modZone ..
  simp [Block.endEpisode, zeroed]

@[simp] theorem pool_clearAt (n : Nat) : (b.clearAt n).still.points = b.still.points := by
  unfold Block.clearAt
  split
  · simp
  · rfl

@[simp] theorem pool_advanceClear (b0 : Block) : (Block.advanceClear b0 b).still.points = b.still.points := by
  unfold Block.advanceClear
  split <;> simp

@[simp] theorem lawful_changeLevel (h : b.still.points.Lawful) (lv : Level) (cause : LevelCause) :
    (b.changeLevel lv cause).still.points.Lawful := by
  unfold Block.changeLevel
  cases lv with
  | calm => simp [h]
  | stow => simp [h]
  | watch =>
    refine lawful_each ?_ _ _ fun _ _ hs => lawful_raisePoints hs _
    split <;> simp [h]

@[simp] theorem lawful_evaluate (h : b.still.points.Lawful) : b.evaluate.still.points.Lawful := by
  unfold Block.evaluate
  dsimp only
  split <;> simp [h]

@[simp] theorem lawful_figuresChanged (h : b.still.points.Lawful) : b.figuresChanged.still.points.Lawful := by
  simp [Block.figuresChanged, h]

/-! ### Weather entries (R85 to R90) -/

@[simp] theorem lawful_wxFault (h : b.still.points.Lawful) (n : WeatherId) : (b.wxFault n).still.points.Lawful := by
  unfold Block.wxFault
  dsimp only
  split <;> simp [h]

@[simp] theorem lawful_wxWarmed (h : b.still.points.Lawful) (n : WeatherId) : (b.wxWarmed n).still.points.Lawful := by
  unfold Block.wxWarmed
  dsimp only
  split <;> simp [h]

@[simp] theorem lawful_wxTake (h : b.still.points.Lawful) (n : WeatherId) (r : Reading) :
    (b.wxTake n r).still.points.Lawful := by
  unfold Block.wxTake
  dsimp only
  (repeat' split) <;> simp [h]

@[simp] theorem lawful_wxReading (h : b.still.points.Lawful) (n : WeatherId) (r : WxBody) :
    (b.wxReading n r).still.points.Lawful := by
  unfold Block.wxReading
  (repeat' split) <;> simp [h]

@[simp] theorem pool_expireWx (n : WeatherId) : (b.expireWx n).still.points = b.still.points := by
  unfold Block.expireWx
  dsimp only
  (repeat' split) <;> simp

@[simp] theorem lawful_sweep (h : b.still.points.Lawful) : b.sweep.still.points.Lawful := by
  have swept : (b.each allWeather fun n s => s.expireWx n).still.points = b.still.points :=
    pool_each _ _ _ fun _ _ => pool_expireWx _
  unfold Block.sweep
  dsimp only
  split <;> simp [swept, h]

/-! ### Lines, cycles and visits (R154 to R163) -/

@[simp] theorem lawful_lineBreaks (h : b.still.points.Lawful) (l : Line) : (b.lineBreaks l).still.points.Lawful := by
  unfold Block.lineBreaks
  dsimp only
  (repeat' split) <;> simp [h]

@[simp] theorem lawful_breakEnds (h : b.still.points.Lawful) (l : Line) : (b.breakEnds l).still.points.Lawful := by
  unfold Block.breakEnds
  dsimp only
  (repeat' split) <;> simp [h]

@[simp] theorem pool_markLate (g : GroupId) : (b.markLate g).still.points = b.still.points := by
  unfold Block.markLate
  split
  · rfl
  · exact pool_each _ _ _ fun _ _ => by split <;> simp

@[simp] theorem pool_judgeLate (g : GroupId) (now : Nat) : (b.judgeLate g now).still.points = b.still.points := by
  unfold Block.judgeLate
  (repeat' split) <;> simp

@[simp] theorem lawful_beginCycle (h : b.still.points.Lawful) : b.beginCycle.still.points.Lawful := by
  have refreshed (c : Block) : (c.each allAxes fun p s => s.refreshTrack p.1 p.2).still.points = c.still.points :=
    pool_each _ _ _ fun _ _ => pool_refreshTrack ..
  have judged (c : Block) (now : Nat) : (c.each allGroups fun g s => s.judgeLate g now).still.points = c.still.points :=
    pool_each _ _ _ fun _ _ => pool_judgeLate ..
  have visiting (c : Block) (f : FieldCtl) : ({ c with field := f } : Block).still.points = c.still.points := rfl
  unfold Block.beginCycle
  dsimp only
  rw [visiting]
  split
  · next now _ =>
    rw [judged, refreshed]
    refine lawful_each ?_ _ _ fun _ _ hs => lawful_consume hs ..
    exact h
  · rw [refreshed]
    exact h

@[simp] theorem lawful_nextCycle (h : b.still.points.Lawful) : b.nextCycle.still.points.Lawful := by
  unfold Block.nextCycle
  split <;> simp [h]

@[simp] theorem pool_visitNode (r : NodeRef) (rest : List NodeRef) : (b.visitNode r rest).still.points = b.still.points := by
  unfold Block.visitNode
  dsimp only
  split
  · exact (pool_setNode ..).trans rfl
  · rfl

@[simp] theorem pool_answerEnds (l : Line) (bytes : List Byte) : (b.answerEnds l bytes).still.points = b.still.points := by
  unfold Block.answerEnds
  dsimp only
  (repeat' split) <;> simp

@[simp] theorem pool_echoFails (l : Line) : (b.echoFails l).still.points = b.still.points := by
  unfold Block.echoFails
  dsimp only
  (repeat' split) <;> simp

@[simp] theorem pool_frameSent (l : Line) : (b.frameSent l).still.points = b.still.points := by
  unfold Block.frameSent
  dsimp only
  (repeat' split) <;> simp

@[simp] theorem pool_breakGoesOn (l : Line) : (b.breakGoesOn l).still.points = b.still.points := by
  unfold Block.breakGoesOn
  (repeat' split) <;> simp

@[simp] theorem lawful_handCabinet (h : b.still.points.Lawful) (d : DishId) (x : CabBody) :
    (b.handCabinet d x).still.points.Lawful := by
  simp [Block.handCabinet, h]

@[simp] theorem lawful_handStop (h : b.still.points.Lawful) (r : NodeRef) (a : Answer) :
    (b.handStop r a).still.points.Lawful := by
  unfold Block.handStop
  split <;> simp [h]

@[simp] theorem lawful_hand (h : b.still.points.Lawful) (r : NodeRef) (a : Answer) :
    (b.hand r a).still.points.Lawful := by
  unfold Block.hand
  dsimp only
  (repeat' split) <;> simp [h]

@[simp] theorem lawful_handAll (h : b.still.points.Lawful) (r : NodeRef) (as : List Answer) :
    (b.handAll r as).still.points.Lawful := by
  induction as generalizing b with
  | nil => exact h
  | cons a as ih =>
    cases as with
    | nil => exact lawful_hand h ..
    | cons => exact ih (lawful_handStop h ..)

@[simp] theorem lawful_handStops (h : b.still.points.Lawful) (r : NodeRef) (as : List Answer) :
    (b.handStops r as).still.points.Lawful :=
  lawful_each h _ _ fun _ _ hs => lawful_handStop hs ..

@[simp] theorem lawful_endVisit (h : b.still.points.Lawful) : b.endVisit.still.points.Lawful := by
  unfold Block.endVisit
  dsimp only
  (repeat' split) <;> simp [h]

/-! ### The configured set (R166) -/

@[simp] theorem pool_addCabinet (d : DishId) : (b.addCabinet d).still.points = b.still.points := by
  unfold Block.addCabinet
  dsimp only
  split <;> simp

@[simp] theorem lawful_removeCabinet (h : b.still.points.Lawful) (d : DishId) :
    (b.removeCabinet d).still.points.Lawful := by
  unfold Block.removeCabinet
  dsimp only
  split <;> simp [h]

@[simp] theorem lawful_setCabinets (h : b.still.points.Lawful) (want : DishId → Bool) :
    (b.setCabinets want).still.points.Lawful := by
  refine lawful_nextCycle (lawful_each h _ _ fun d s hs => ?_)
  (repeat' split) <;> simp [hs]

end

end Sys2Proof.Machine
end

-- ==== The pool's law through requests, events and the load ====
section
/-! What the owners of requests do, what the events of the timers and of the link do, and what the load puts in force,
keeps the law of the pool. -/

open Sys2Proof

namespace Sys2Proof.Machine

section
variable {b : Block}

/-! ### Settings, dishes and groups -/

@[simp] theorem pool_setSite (c : SiteCfg) : (b.setSite c).still.points = b.still.points := id rfl

theorem lawful_of_pool {c : Block} (same : c.still.points = b.still.points) (h : b.still.points.Lawful) :
    c.still.points.Lawful :=
  same ▸ h

theorem lawful_ite {c : Prop} [Decidable c] {x y : Block} (hx : x.still.points.Lawful) (hy : y.still.points.Lawful) :
    (if c then x else y).still.points.Lawful := by
  split <;> assumption

@[simp] theorem lawful_configureSite (h : b.still.points.Lawful) (c : SiteCfg) :
    (b.configureSite c).still.points.Lawful := by
  have set : (b.setSite c).still.points.Lawful := h
  unfold Block.configureSite
  dsimp only
  have called := lawful_ite (c := c.policy ≠ b.site.cfg.policy ∨ c.hmin ≠ b.site.cfg.hmin)
    (lawful_of_pool (congrArg _ (still_callExamine _)) set) set
  have cleared := lawful_ite (c := b.site.cfg.autoShed && !c.autoShed)
    (lawful_of_pool pool_clearDeferrals called) called
  have figured := lawful_ite (c := c.quorum ≠ b.site.cfg.quorum) (lawful_figuresChanged cleared) cleared
  have warmed := lawful_ite (c := c.warmTarget < b.site.cfg.warmTarget)
    (lawful_each figured allWeather (fun n s => s.wxWarmed n) fun _ _ hs => lawful_wxWarmed hs _) figured
  exact lawful_ite warmed (lawful_evaluate warmed)

@[simp] theorem pool_configureLines (x : LinesParams) : (b.configureLines x).still.points = b.still.points := id rfl

@[simp] theorem pool_setClock (ms : Nat) : (b.setClock ms).still.points = b.still.points := id rfl

@[simp] theorem pool_raiseBudget (w : Nat) : (b.raiseBudget w).still.points = b.still.points := by
  unfold Block.raiseBudget
  rw [still_callExamine, pool_tellBudget, pool_withAccount]

@[simp] theorem pool_lowerBudget (w : Nat) : (b.lowerBudget w).still.points = b.still.points := by
  unfold Block.lowerBudget
  dsimp only
  split
  · rw [still_callExamine, pool_tellBudget, pool_withAccount, still_curtail, pool_withAccount]
  · rw [pool_tellBudget, pool_withAccount, still_curtail, pool_withAccount]

@[simp] theorem pool_setBudget (w : Nat) : (b.setBudget w).still.points = b.still.points := by
  unfold Block.setBudget
  split
  · exact pool_raiseBudget w
  · exact pool_lowerBudget w

@[simp] theorem lawful_flushDish (h : b.still.points.Lawful) (d : DishId) : (b.flushDish d).still.points.Lawful := by
  unfold Block.flushDish
  dsimp only
  split <;> simp [h]

@[simp] theorem pool_askHold (d : DishId) : (b.askHold d).1.still.points = b.still.points := by
  unfold Block.askHold
  dsimp only
  split <;> simp

@[simp] theorem pool_restartPark (d : DishId) : (b.restartPark d).still.points = b.still.points := id rfl

@[simp] theorem pool_parkDish (d : DishId) : (b.parkDish d).still.points = b.still.points := by simp [Block.parkDish]

@[simp] theorem pool_formIn (g : GroupId) (x : Group) : (b.formIn g x).still.points = b.still.points :=
  (pool_each _ _ _ fun _ _ => pool_modDish ..).trans rfl

@[simp] theorem pool_handMembers (g : GroupId) (x : Group) : (b.handMembers g x).still.points = b.still.points := by
  refine pool_each _ _ _ fun m s => ?_
  simp [Block.handDish, Block.handAxis, Block.needGroup, Block.bothAxes]

@[simp] theorem pool_startReply (g : GroupId) (code : Code) : (b.startReply g code).1.still.points = b.still.points := by
  unfold Block.startReply
  split <;> rfl

@[simp] theorem pool_startPlanned (g : GroupId) (x : Group) (ms : List Mover) :
    (b.startPlanned g x ms).1.still.points = b.still.points := by
  unfold Block.startPlanned Block.startAsking Block.startWarming
  dsimp only
  (repeat' split) <;> simp [refuse]

@[simp] theorem pool_discardContext (d : DishId) : (b.discardContext d).still.points = b.still.points := by
  unfold Block.discardContext
  dsimp only
  split <;> simp

@[simp] theorem pool_unlatch : b.unlatch.still.points = b.still.points := by
  unfold Block.unlatch
  rw [pool_withSite, pool_tellEstop, pool_withSite]

/-! ### Weather and heat -/

@[simp] theorem pool_enableWx (n : WeatherId) : (b.enableWx n).still.points = b.still.points := by simp [Block.enableWx]

@[simp] theorem lawful_disableWx (h : b.still.points.Lawful) (n : WeatherId) : (b.disableWx n).still.points.Lawful := by
  unfold Block.disableWx
  dsimp only
  split <;> simp [h]

@[simp] theorem pool_forgetWx (n : WeatherId) : (b.forgetWx n).still.points = b.still.points := by
  unfold Block.forgetWx
  dsimp only
  split <;> simp

@[simp] theorem lawful_forgetAll (h : b.still.points.Lawful) (mask : BitVec 8) : (b.forgetAll mask).still.points.Lawful := by
  unfold Block.forgetAll
  split
  · exact h
  · exact lawful_figuresChanged (lawful_each h _ _ fun _ _ hs => by simpa using hs)

@[simp] theorem lawful_setForce (h : b.still.points.Lawful) (v : Bool) : (b.setForce v).still.points.Lawful := by
  simp [Block.setForce, h]

@[simp] theorem pool_setPrewarm (d : DishId) (start : Bool) : (b.setPrewarm d start).still.points = b.still.points := by
  unfold Block.setPrewarm
  (repeat' split) <;> simp

@[simp] theorem pool_setSnowForce (v : Bool) : (b.setSnowForce v).still.points = b.still.points := by
  simp [Block.setSnowForce]

/-! ### Timers -/

@[simp] theorem lawful_cycleComes (h : b.still.points.Lawful) : b.cycleComes.still.points.Lawful := by
  have carried (f : FieldCtl) : ({ b.carryTo b.field.cycleDue with field := f } : Block).still.points.Lawful := h
  unfold Block.cycleComes
  dsimp only
  split
  · exact carried _
  · exact lawful_of_pool (pool_judgeStartup ..) (lawful_beginCycle (carried _))

@[simp] theorem pool_clockTo (t : Nat) : (b.clockTo t).still.points = b.still.points := by
  unfold Block.clockTo
  split <;> simp

@[simp] theorem pool_deadlineComes (g : GroupId) : (b.deadlineComes g).still.points = b.still.points := by
  unfold Block.deadlineComes
  split <;> simp

@[simp] theorem lawful_visitNext (h : b.still.points.Lawful) : b.visitNext.still.points.Lawful := by
  unfold Block.visitNext
  (repeat' split) <;> simp [h]

@[simp] theorem pool_discoveryEnds : b.discoveryEnds.still.points = b.still.points := by
  unfold Block.discoveryEnds
  split <;> simp

@[simp] theorem pool_beaconComes : b.beaconComes.still.points = b.still.points := by
  unfold Block.beaconComes
  split <;> simp

@[simp] theorem pool_opExpires (d : DishId) (k : AxisKind) (st : AxisState) (why : FaultReason) :
    (b.opExpires d k st why).still.points = b.still.points := by
  unfold Block.opExpires
  dsimp only
  (repeat' split) <;> simp

@[simp] theorem pool_parkExpires (d : DishId) (k : AxisKind) : (b.parkExpires d k).still.points = b.still.points := by
  unfold Block.parkExpires
  split <;> simp

@[simp] theorem pool_offlineExpires (d : DishId) (k : AxisKind) : (b.offlineExpires d k).still.points = b.still.points := by
  unfold Block.offlineExpires
  split <;> simp

@[simp] theorem pool_lagComes (d : DishId) (k : AxisKind) : (b.lagComes d k).still.points = b.still.points := by
  unfold Block.lagComes
  dsimp only
  (repeat' split) <;> simp

@[simp] theorem pool_nextSecond : b.nextSecond.still.points = b.still.points := id rfl

@[simp] theorem lawful_tick (h : b.still.points.Lawful) : b.tick.still.points.Lawful := by
  simp [Block.tick, h]

@[simp] theorem lawful_readingExpires (h : b.still.points.Lawful) (n : WeatherId) :
    (b.readingExpires n).still.points.Lawful := by
  unfold Block.readingExpires
  dsimp only
  (repeat' split) <;> simp [h]

@[simp] theorem lawful_graceComes (h : b.still.points.Lawful) : b.graceComes.still.points.Lawful := by
  unfold Block.graceComes
  split <;> simp [h]

@[simp] theorem lawful_holdComes (h : b.still.points.Lawful) : b.holdComes.still.points.Lawful := by
  unfold Block.holdComes
  split <;> simp [h]

@[simp] theorem lawful_watchComes (h : b.still.points.Lawful) : b.watchComes.still.points.Lawful := by
  unfold Block.watchComes
  split <;> simp [h]

@[simp] theorem pool_clearComes : b.clearComes.still.points = b.still.points := by
  unfold Block.clearComes
  split <;> simp

@[simp] theorem pool_prewarmExpires (d : DishId) : (b.prewarmExpires d).still.points = b.still.points := by
  unfold Block.prewarmExpires
  split <;> simp

@[simp] theorem lawful_dwellEnds (h : b.still.points.Lawful) (d : DishId) : (b.dwellEnds d).still.points.Lawful := by
  unfold Block.dwellEnds
  dsimp only
  (repeat' split) <;> simp [h]

@[simp] theorem pool_mismatchComes (d : DishId) (z : ZoneKind) : (b.mismatchComes d z).still.points = b.still.points := by
  unfold Block.mismatchComes
  split <;> simp

/-! ### The link -/

@[simp] theorem pool_portAnswer (tag : Tag) (kind : Byte) (code : Code) :
    (b.portAnswer tag kind code).still.points = b.still.points := by
  unfold Block.portAnswer
  split <;> simp

@[simp] theorem pool_accept (i : Instr) : (b.accept i).still.points = b.still.points := by
  unfold Block.accept
  (repeat' split) <;> simp

@[simp] theorem pool_judgeFrame (bytes : List Byte) : (b.judgeFrame bytes).still.points = b.still.points := by
  unfold Block.judgeFrame
  dsimp only
  (repeat' split) <;> simp

@[simp] theorem pool_abandon (f : LinkCounters → LinkCounters) : (b.abandon f).still.points = b.still.points := by
  unfold Block.abandon
  split <;> simp

@[simp] theorem pool_rxByte (x : Byte) : (b.rxByte x).still.points = b.still.points := by
  unfold Block.rxByte
  dsimp only
  (repeat' split) <;> simp

@[simp] theorem pool_rxBytesIn (bytes : List Byte) : (b.rxBytesIn bytes).still.points = b.still.points :=
  pool_each _ _ _ fun _ _ => pool_rxByte _

@[simp] theorem pool_arrives (i : Instr) : (b.arrives i).still.points = b.still.points := by
  unfold Block.arrives
  split <;> simp

/-! ### Reset and the load -/

theorem lawful_afterReset (store : Store) : (Block.afterReset store).still.points.Lawful := by
  have empty (d : DishId) : (Block.afterReset store).points.queues[d] = [] := queue_afterReset store d
  refine ⟨?_, fun d => ?_⟩
  · change 480 + (allDishes.map fun d : DishId => ((Block.afterReset store).points.queues[d]).length).sum = 480
    simp [empty]
  · change ((Block.afterReset store).points.queues[d]).length ≤ 120
      ∧ ((Block.afterReset store).points.queues[d]).Pairwise fun x y => x.time < y.time
    simp [empty]

@[simp] theorem pool_loadContent : b.loadContent.still.points = b.still.points := by
  have axes (t : Block) (m : Image) (counts : Vector (PerAxis Nat) 12) : (t.each allAxes fun p s =>
      s.setAxis p.1 p.2 (s.loadedAxis m counts p.1 p.2)).still.points = t.still.points := pool_each _ _ _ fun _ _ => rfl
  have zones (t : Block) (m : Image) : (t.each allZones fun p s =>
      s.setZone p.1 p.2 (s.loadedZone m p.1 p.2)).still.points = t.still.points := pool_each _ _ _ fun _ _ => rfl
  have entries (t : Block) (m : Image) : (t.each allWeather fun n s => s.setWx n (s.loadedWx m n)).still.points
      = t.still.points := pool_each _ _ _ fun _ _ => rfl
  have image (t : Block) (m : Image) (counts : Vector (PerAxis Nat) 12) :
      (t.putImage m counts).still.points = t.still.points := by
    unfold Block.putImage
    extract_lets loadedAxes loadedZones loadedEntries
    have same : loadedEntries.still.points = t.still.points := by rw [entries, zones, axes]
    clear_value loadedEntries
    exact same
  have locks (t : Block) (ls : List StoredLock) : (t.putLocks ls).still.points = t.still.points := rfl
  unfold Block.loadContent
  split <;> simp [image, locks]

@[simp] theorem pool_judgeAllWear : b.judgeAllWear.still.points = b.still.points :=
  pool_of_beside (by simp)

@[simp] theorem lawful_markBreak (h : b.still.points.Lawful) (l : Line) : (b.markBreak l).still.points.Lawful := by
  unfold Block.markBreak
  split <;> simp [h]

@[simp] theorem pool_levelBudget : b.levelBudget.still.points = b.still.points := id rfl

@[simp] theorem pool_beginDiscovery : b.beginDiscovery.still.points = b.still.points := id rfl

@[simp] theorem lawful_loadEnds (h : b.still.points.Lawful) : b.loadEnds.still.points.Lawful := by
  unfold Block.loadEnds
  split <;> simp [Block.load, h]

@[simp] theorem lawful_frameGone (h : b.still.points.Lawful) : b.frameGone.still.points.Lawful := by
  have after (c : Block) (hc : c.still.points.Lawful) (a : After) : (c.applyAfter a).still.points.Lawful := by
    cases a with
    | nothing => exact hc
    | setRate r => simp [Block.applyAfter, hc]
    | softReset => exact lawful_afterReset _
  unfold Block.frameGone
  dsimp only
  (repeat' split) <;> simp [h, after]

end

end Sys2Proof.Machine
end

-- ==== The pool's law through every step ====
section
/-! Whatever an owner answers, and whatever an event does, the law of the pool stands, so that every step keeps it
(R34). -/

open Sys2Proof

namespace Sys2Proof.Machine

/-! ### The owners' answers -/

section
variable {b : Block}

theorem lawful_ownConfigAxis (h : b.still.points.Lawful) (subj : Nat) (x : AxisParams) :
    (ownConfigAxis subj x b).1.still.points.Lawful := by
  unfold ownConfigAxis
  (repeat' split) <;> simp [refuse, done, reply, h]

theorem lawful_ownConfigZone (h : b.still.points.Lawful) (subj : Nat) (x : ZoneParams) :
    (ownConfigZone subj x b).1.still.points.Lawful := by
  unfold ownConfigZone
  (repeat' split) <;> simp [refuse, done, reply, h]

theorem lawful_ownConfigSite (h : b.still.points.Lawful) (x : SiteParams) :
    (ownConfigSite x b).1.still.points.Lawful := by
  unfold ownConfigSite
  split <;> simp [refuse, h]

theorem lawful_ownConfigLines (h : b.still.points.Lawful) (x : LinesParams) :
    (ownConfigLines x b).1.still.points.Lawful := by
  unfold ownConfigLines
  split <;> simp [refuse, done, reply, h]

theorem lawful_ownSetTime (h : b.still.points.Lawful) (ms : Nat) : (ownSetTime ms b).1.still.points.Lawful := by
  unfold ownSetTime
  split <;> exact h

theorem lawful_ownSetBudget (h : b.still.points.Lawful) (watts : Nat) : (ownSetBudget watts b).1.still.points.Lawful := by
  unfold ownSetBudget
  split <;> simp [refuse, reply, h]

theorem lawful_ownAddPoints (h : b.still.points.Lawful) (dish : Nat) (ps : List PointParams) :
    (ownAddPoints dish ps b).1.still.points.Lawful := by
  unfold ownAddPoints
  dsimp only
  (repeat' split) <;> simp only [refuse, reply, h]
  exact pointsLaw_iff.mp (pointsLaw_takePoints (pointsLaw_iff.mpr h) ..)

theorem lawful_ownFlushPoints (h : b.still.points.Lawful) (dish : Nat) :
    (ownFlushPoints dish b).1.still.points.Lawful := by
  unfold ownFlushPoints
  split <;> simp [refuse, reply, h]

theorem lawful_ownTrackStart (h : b.still.points.Lawful) (dish : Nat) : (ownTrackStart dish b).1.still.points.Lawful := by
  unfold ownTrackStart
  dsimp only
  (repeat' split) <;> simp [refuse, reply, h]

theorem lawful_ownTrackStop (h : b.still.points.Lawful) (dish : Nat) : (ownTrackStop dish b).1.still.points.Lawful := by
  unfold ownTrackStop
  (repeat' split) <;> simp [refuse, done, reply, h]

theorem lawful_ownHoldDish (h : b.still.points.Lawful) (dish : Nat) : (ownHoldDish dish b).1.still.points.Lawful := by
  unfold ownHoldDish
  dsimp only
  (repeat' split) <;> simp [refuse, done, reply, h]

theorem lawful_ownParkDish (h : b.still.points.Lawful) (dish : Nat) : (ownParkDish dish b).1.still.points.Lawful := by
  unfold ownParkDish
  (repeat' split) <;> simp [refuse, done, reply, h]

theorem lawful_ownFormGroup (h : b.still.points.Lawful) (dishes : List Nat) (az el : Int)
    (pref thenTrack waitWarm limit : Nat) :
    (ownFormGroup dishes az el pref thenTrack waitWarm limit b).1.still.points.Lawful := by
  unfold ownFormGroup
  dsimp only
  (repeat' split) <;> simp [refuse, reply, h]

theorem lawful_ownStartGroup (h : b.still.points.Lawful) (group : Nat) :
    (ownStartGroup group b).1.still.points.Lawful := by
  unfold ownStartGroup
  (repeat' split) <;> simp [refuse, reply, h]

theorem lawful_ownAbortGroup (h : b.still.points.Lawful) (group : Nat) :
    (ownAbortGroup group b).1.still.points.Lawful := by
  unfold ownAbortGroup
  (repeat' split) <;> simp [refuse, done, reply, h]

theorem lawful_ownGetGroup (h : b.still.points.Lawful) (group : Nat) : (ownGetGroup group b).1.still.points.Lawful := by
  unfold ownGetGroup
  split <;> exact h

theorem lawful_ownShed (h : b.still.points.Lawful) (dish : Nat) : (ownShed dish b).1.still.points.Lawful := by
  unfold ownShed
  (repeat' split)
  · exact h
  · exact h
  · next shed => exact lawful_of_pool (pool_shedDish (r := (_, _)) shed) h

theorem lawful_ownResume (h : b.still.points.Lawful) (dish : Nat) : (ownResume dish b).1.still.points.Lawful := by
  unfold ownResume
  dsimp only
  (repeat' split) <;> simp [refuse, reply, h]

theorem lawful_ownClearContext (h : b.still.points.Lawful) (dish : Nat) :
    (ownClearContext dish b).1.still.points.Lawful := by
  unfold ownClearContext
  (repeat' split) <;> simp [refuse, done, reply, h]

theorem lawful_ownPlaceLock (h : b.still.points.Lawful) (kind dish holder id : Nat) :
    (ownPlaceLock kind dish holder id b).1.still.points.Lawful := by
  unfold ownPlaceLock
  dsimp only
  (repeat' split) <;> simp [refuse, h]

theorem lawful_ownRemoveLock (h : b.still.points.Lawful) (num holder id : Nat) :
    (ownRemoveLock num holder id b).1.still.points.Lawful := by
  unfold ownRemoveLock
  (repeat' split) <;> simp [refuse, h]

theorem lawful_ownClearEstop (h : b.still.points.Lawful) : (ownClearEstop b).1.still.points.Lawful := by
  unfold ownClearEstop
  (repeat' split) <;> simp [refuse, done, reply, h]

theorem lawful_ownGetStatus (h : b.still.points.Lawful) (sect : Nat) (dish : Option Nat) :
    (ownGetStatus sect dish b).1.still.points.Lawful := by
  unfold ownGetStatus
  split <;> exact h

theorem lawful_ownResetFault (h : b.still.points.Lawful) (x : TargetParams) :
    (ownResetFault x b).1.still.points.Lawful := by
  unfold ownResetFault ownResetAxis ownResetZone
  (repeat' split) <;> simp [refuse, done, reply, h]

theorem lawful_ownResetWear (h : b.still.points.Lawful) (subj : Nat) : (ownResetWear subj b).1.still.points.Lawful := by
  unfold ownResetWear
  (repeat' split) <;> simp [refuse, done, reply, h]

theorem lawful_ownSetReportMask (h : b.still.points.Lawful) (mask : BitVec 32) :
    (ownSetReportMask mask b).1.still.points.Lawful := by
  unfold ownSetReportMask
  split <;> exact h

theorem lawful_ownSoftReset (h : b.still.points.Lawful) : (ownSoftReset b).1.still.points.Lawful := by
  unfold ownSoftReset
  split <;> exact h

theorem lawful_ownWeatherEnable (h : b.still.points.Lawful) (addr : Nat) :
    (ownWeatherEnable addr b).1.still.points.Lawful := by
  unfold ownWeatherEnable
  dsimp only
  (repeat' split) <;> simp [refuse, reply, h]

theorem lawful_ownWeatherDisable (h : b.still.points.Lawful) (addr : Nat) :
    (ownWeatherDisable addr b).1.still.points.Lawful := by
  unfold ownWeatherDisable
  (repeat' split) <;> simp [refuse, done, reply, h]

theorem lawful_ownForgetWeather (h : b.still.points.Lawful) (mask : BitVec 8) :
    (ownForgetWeather mask b).1.still.points.Lawful := lawful_forgetAll h mask

theorem lawful_ownForce (h : b.still.points.Lawful) (v : Bool) : (ownForce v b).1.still.points.Lawful :=
  lawful_setForce h v

theorem lawful_ownPrewarm (h : b.still.points.Lawful) (dish act : Nat) : (ownPrewarm dish act b).1.still.points.Lawful := by
  unfold ownPrewarm
  dsimp only
  (repeat' split) <;> simp [refuse, reply, h]

theorem lawful_ownSnowForce (h : b.still.points.Lawful) (act : Nat) : (ownSnowForce act b).1.still.points.Lawful := by
  unfold ownSnowForce
  dsimp only
  split <;> simp [refuse, reply, h]

theorem lawful_handTo (h : b.still.points.Lawful) (id : Nat) {owner : Nat → Block → Answered}
    (ho : ∀ id c, c.still.points.Lawful → (owner id c).1.still.points.Lawful) :
    (b.handTo id owner).still.points.Lawful := by
  unfold Block.handTo
  dsimp only
  split
  · exact lawful_of_pool (pool_answer ..) (ho _ _ h)
  · exact ho _ _ h

theorem lawful_serveRequest (h : b.still.points.Lawful) (i : Instr) {owner : Nat → Block → Answered}
    (ho : ∀ id c, c.still.points.Lawful → (owner id c).1.still.points.Lawful) :
    (b.serveRequest i owner).still.points.Lawful := by
  unfold Block.serveRequest
  dsimp only
  (repeat' split)
  · exact lawful_handTo h _ ho
  · simp [h]
  · exact lawful_handTo (lawful_of_pool (pool_arrives ..) h) _ ho
  · simp [h]

end

/-! ### Every instruction -/

/-- A change of the blocks that keeps the law of the pool. -/
def KeepsPool (f : Block → Block) : Prop :=
  ∀ b : Block, b.still.points.Lawful → (f b).still.points.Lawful

theorem keeps_of_pool {f : Block → Block} (h : ∀ b, (f b).still.points = b.still.points) : KeepsPool f :=
  fun b hb => lawful_of_pool (h b) hb

/-- An outcome whose pool is lawful where the pool it came from is. -/
def State.Pools (s : State) (o : Ran) : Prop :=
  s.block.still.points.Lawful → ∀ t, o = .next t → t.block.still.points.Lawful

section
variable {s : State}

theorem pools_run {f : Block → Block} (h : KeepsPool f) : s.Pools (s.run f) := by
  rintro lawful _ ⟨⟩
  exact lawful_of_pool (congrArg (·.points) (still_finish _)) (h _ lawful)

theorem pools_event {f : Block → Block} (h : KeepsPool f) : s.Pools (s.event f) := by
  refine pools_run fun b hb => ?_
  split
  · exact hb
  · exact h b hb

theorem pools_request (i : Instr) {owner : Nat → Block → Answered} (h : ∀ id, KeepsPool fun b => (owner id b).1) :
    s.Pools (s.request i owner) :=
  pools_run fun _ hb => lawful_serveRequest hb i fun id c => h id c

/-- A request that is answered from the records alone. -/
theorem pools_reading (i : Instr) (fields : Block → List Fld) :
    s.Pools (s.request i fun _ b => reply b .ok (fields b)) :=
  pools_request i fun _ _ hb => hb

theorem exec_pools (i : Instr) : s.Pools (exec i s) := by
  cases i with
  | identify => exact pools_reading _ _
  | getStatus => exact pools_request _ fun _ _ h => lawful_ownGetStatus h ..
  | setTime => exact pools_request _ fun _ _ h => lawful_ownSetTime h _
  | configAxis => exact pools_request _ fun _ _ h => lawful_ownConfigAxis h ..
  | configZone => exact pools_request _ fun _ _ h => lawful_ownConfigZone h ..
  | configSite => exact pools_request _ fun _ _ h => lawful_ownConfigSite h _
  | configLines => exact pools_request _ fun _ _ h => lawful_ownConfigLines h _
  | saveConfig => exact pools_request _ fun _ _ h => lawful_of_pool (pool_askFull ..) h
  | setBudget => exact pools_request _ fun _ _ h => lawful_ownSetBudget h _
  | getBudget => exact pools_reading _ _
  | addPoints => exact pools_request _ fun _ _ h => lawful_ownAddPoints h ..
  | flushPoints => exact pools_request _ fun _ _ h => lawful_ownFlushPoints h _
  | trackStart => exact pools_request _ fun _ _ h => lawful_ownTrackStart h _
  | trackStop => exact pools_request _ fun _ _ h => lawful_ownTrackStop h _
  | holdDish => exact pools_request _ fun _ _ h => lawful_ownHoldDish h _
  | parkDish => exact pools_request _ fun _ _ h => lawful_ownParkDish h _
  | formGroup => exact pools_request _ fun _ _ h => lawful_ownFormGroup h ..
  | startGroup => exact pools_request _ fun _ _ h => lawful_ownStartGroup h _
  | abortGroup => exact pools_request _ fun _ _ h => lawful_ownAbortGroup h _
  | getGroup => exact pools_request _ fun _ _ h => lawful_ownGetGroup h _
  | prewarm => exact pools_request _ fun _ _ h => lawful_ownPrewarm h ..
  | snowForce => exact pools_request _ fun _ _ h => lawful_ownSnowForce h _
  | weatherEnable => exact pools_request _ fun _ _ h => lawful_ownWeatherEnable h _
  | weatherDisable => exact pools_request _ fun _ _ h => lawful_ownWeatherDisable h _
  | forgetWeather => exact pools_request _ fun _ _ h => lawful_ownForgetWeather h _
  | getWeather => exact pools_reading _ _
  | stowNow => exact pools_request _ fun _ _ h => lawful_ownForce h _
  | stowRelease => exact pools_request _ fun _ _ h => lawful_ownForce h _
  | shed => exact pools_request _ fun _ _ h => lawful_ownShed h _
  | resume => exact pools_request _ fun _ _ h => lawful_ownResume h _
  | clearContext => exact pools_request _ fun _ _ h => lawful_ownClearContext h _
  | placeLock => exact pools_request _ fun _ _ h => lawful_ownPlaceLock h ..
  | removeLock => exact pools_request _ fun _ _ h => lawful_ownRemoveLock h ..
  | listLocks => exact pools_reading _ _
  | resetFault => exact pools_request _ fun _ _ h => lawful_ownResetFault h _
  | resetWear => exact pools_request _ fun _ _ h => lawful_ownResetWear h _
  | clearEstop => exact pools_request _ fun _ _ h => lawful_ownClearEstop h
  | setReportMask => exact pools_request _ fun _ _ h => lawful_ownSetReportMask h _
  | softReset => exact pools_request _ fun _ _ h => lawful_ownSoftReset h
  | linkFrameReceived => exact pools_run (keeps_of_pool fun _ => pool_rxBytesIn ..)
  | linkGapTimeout => exact pools_run (keeps_of_pool fun _ => pool_abandon ..)
  | linkByteError => exact pools_run (keeps_of_pool fun _ => pool_abandon ..)
  | linkFrameSent => exact pools_run fun _ h => lawful_frameGone h
  | linkStartByte => exact pools_run (keeps_of_pool fun _ => pool_rxByte ..)
  | reset => exact pools_run fun _ _ => lawful_afterReset _
  | storeLoadDone => exact pools_run fun _ h => lawful_loadEnds h
  | discoveryTimeout => exact pools_event (keeps_of_pool fun _ => pool_discoveryEnds ..)
  | fieldCycle => exact pools_event fun _ h => lawful_cycleComes h
  | lateDeadline => exact pools_event (keeps_of_pool fun _ => pool_deadlineComes ..)
  | nodeVisit => exact pools_event fun _ h => lawful_visitNext h
  | echoMismatch => exact pools_event (keeps_of_pool fun _ => pool_echoFails ..)
  | orderFrameSent => exact pools_event (keeps_of_pool fun _ => pool_frameSent ..)
  | answerReceived => exact pools_event (keeps_of_pool fun _ => pool_answerEnds ..)
  | visitEnd => exact pools_event fun _ h => lawful_of_pool (pool_judgeStartup ..) (lawful_endVisit h)
  | estopInputActive => exact pools_event fun _ h => lawful_setMark h ..
  | estopInputInactive => exact pools_event fun _ h => lawful_setMark h ..
  | lineBreak => exact pools_run fun _ h => lawful_lineBreaks h _
  | breakHeld => exact pools_run (keeps_of_pool fun _ => pool_breakGoesOn ..)
  | breakEnd l => exact pools_run (f := fun b => b.breakEnds l) fun _ h => lawful_breakEnds h l
  | beaconIntervalMet => exact pools_event (keeps_of_pool fun _ => pool_beaconComes)
  | brakeTestTimeout => exact pools_event (keeps_of_pool fun _ => pool_opExpires ..)
  | releaseTimeout => exact pools_event (keeps_of_pool fun _ => pool_opExpires ..)
  | engageTimeout => exact pools_event (keeps_of_pool fun _ => pool_opExpires ..)
  | parkExpiry => exact pools_event (keeps_of_pool fun _ => pool_parkExpires ..)
  | offlineHoldExpiry => exact pools_event (keeps_of_pool fun _ => pool_offlineExpires ..)
  | trackLag => exact pools_event (keeps_of_pool fun _ => pool_lagComes ..)
  | weatherTick => exact pools_event fun _ h => lawful_tick h
  | readingExpiry => exact pools_event fun _ h => lawful_readingExpires h _
  | unknownGraceExpiry => exact pools_event fun _ h => lawful_graceComes h
  | releaseHoldComplete => exact pools_event fun _ h => lawful_holdComes h
  | watchReleaseExpiry => exact pools_event fun _ h => lawful_watchComes h
  | snowEpisodeEnd => exact pools_event (keeps_of_pool fun _ => pool_clearComes ..)
  | prewarmExpiry => exact pools_event (keeps_of_pool fun _ => pool_prewarmExpires ..)
  | dwellExpiry => exact pools_event fun _ h => lawful_dwellEnds h _
  | zoneContactorFault => exact pools_event (keeps_of_pool fun _ => pool_mismatchComes ..)
  | storeWriteDone => exact pools_event (keeps_of_pool fun _ => pool_writeDone ..)

/-- Settles O5: each instruction is a run of its change of the blocks, each change keeps the law of the pool, and what
settles after it leaves the points. -/
theorem stepsKeepPoints : Obligations.StepsKeepPoints := by
  intro s t law ran
  unfold step at ran
  split at ran
  · next c rest _ =>
    exact pointsLaw_iff.mpr (exec_pools (s := { s with pending := rest }) c (pointsLaw_iff.mp law) t ran)
  · cases ran
    exact law

end

end Sys2Proof.Machine
end

-- ==== The statements on dishes: named, flushed, stopped and parked (R23, R28, R31, R40) ====
section
/-! What a request on a dish answers where its number names none; then FLUSH_POINTS, TRACK_STOP and PARK_DISH, each from
what its owner makes of the blocks. -/

open Sys2Proof

namespace Sys2Proof.Machine

/-! ### A dish that is not named (R23) -/

/-- A request whose owner first asks for its dish is refused with that dish's code. -/
theorem request_names {s : State} {c : Instr} {own : Nat → Block → Answered} {n : Nat} (taken : s.takes c)
    (asks : ∀ id b code, b.useDish n = .error code → own id b = refuse b code) :
    (dishOf n = none → s.request c own = .next (s.refuses c .badValue))
    ∧ ∀ d, dishOf n = some d → s.block.configured d = false → s.request c own = .next (s.refuses c .noSuch) :=
  ⟨fun unnamed => request_refused taken (asks _ _ _ (useDish_none unnamed)),
    fun _ named out => request_refused taken (asks _ _ _ (useDish_unconfigured named out))⟩

/-- Settles O36: each of the eight owners asks for its dish first. -/
theorem dishRequestsName : Obligations.DishRequestsName := by
  intro s tag n act c among taken
  simp only [List.mem_cons, List.not_mem_nil, or_false] at among
  obtain rfl | rfl | rfl | rfl | rfl | rfl | rfl | rfl := among
  · exact request_names taken fun _ _ _ e => by simp [ownTrackStart, e]
  · exact request_names taken fun _ _ _ e => by simp [ownTrackStop, e]
  · exact request_names taken fun _ _ _ e => by simp [ownHoldDish, e]
  · exact request_names taken fun _ _ _ e => by simp [ownParkDish, e]
  · exact request_names taken fun _ _ _ e => by simp [ownPrewarm, e]
  · exact request_names taken fun _ _ _ e => by simp [ownShed, e]
  · exact request_names taken fun _ _ _ e => by simp [ownResume, e]
  · exact request_names taken fun _ _ _ e => by simp [ownClearContext, e]

/-! ### What a reply leaves -/

theorem points_finish (b : Block) : b.finish.points = b.points := by
  have same := congrArg (·.points) (still_finish b)
  exact same

section
variable {s : State} {c : Instr} {u : Block} {code : Code} {body : List Fld}

theorem still_replies : (s.replies u code body).block.still = (u.answer s.block.link.nextId code body .nothing).still :=
  still_finish _

/-- The points that stand after a reply are those its owner left. -/
theorem points_replies {after : After} : (s.replies u code body after).block.points = u.points := points_finish _

/-- The entry of a request found stands until its reply is made ready. -/
theorem hasReply_replies (kept : u.link.out = (s.found c).link.out) :
    (s.replies u code body).hasReply s.block.link.nextId code body := by
  have stands : ∃ e ∈ u.link.out, e.id = s.block.link.nextId := by
    rw [kept]
    exact ⟨_, List.mem_append_right _ (List.mem_singleton_self _), rfl⟩
  obtain ⟨e, within, named, answered, -⟩ := answer_stands u _ code body .nothing stands
  have same := congrArg (·.link.out) (still_replies (s := s) (u := u) (code := code) (body := body))
  change (s.replies u code body).block.link.out = _ at same
  exact ⟨e, same ▸ within, named, answered⟩

end

/-! ### FLUSH_POINTS (R40) -/

section
variable (b : Block) (d : DishId)

/-- What a flush does to the mode leaves the points, the clamp episode and the link's list as the flush left them. -/
theorem still_flushDish : (b.flushDish d).still = (b.flush d).still := by
  unfold Block.flushDish
  dsimp only
  split <;> simp

variable {b d} in
/-- What a reply to a flush leaves of the points. -/
theorem points_flushed {s : State} {u : Block} {code : Code} {body : List Fld} (h : u.still = (b.flush d).still) :
    (s.replies u code body).block.points = (b.setQueue d []).points :=
  points_replies.trans (congrArg (·.points) h)

variable {b d} in
theorem queue_flushed {s : State} {u : Block} {code : Code} {body : List Fld} (h : u.still = (b.flush d).still)
    (e : DishId) : (s.replies u code body).block.queue e = if d = e then [] else b.queue e := by
  rw [queue_of_points (points_flushed h), queue_setQueue]

variable {b d} in
theorem clampOpen_flushed {s : State} {u : Block} {code : Code} {body : List Fld} (h : u.still = (b.flush d).still) :
    ((s.replies u code body).block.dish d).clampOpen = false := by
  have answered : (u.answer s.block.link.nextId code body .nothing).dishes = u.dishes := rfl
  have closed : ((b.flush d).dish d).clampOpen = false := by simp [Block.flush, Block.closeClamp, Block.modDish]
  have settled := congrArg Dish.clampOpen (dish_still_of_still (still_replies (s := s) (u := u) (code := code)
    (body := body)) d)
  exact (settled.trans (congrArg Dish.clampOpen (dish_still_of_still h d))).trans closed

theorem mode_flush : ((b.flush d).dish d).mode = (b.dish d).mode := by simp [Block.flush, Block.closeClamp, Block.modDish]

theorem pendingReq_flush : ((b.flush d).dish d).pendingReq = (b.dish d).pendingReq := by
  simp [Block.flush, Block.closeClamp, Block.modDish]

theorem flushDish_tracking (h : (b.dish d).mode = .tracking) :
    b.flushDish d = ((b.flush d).setMode d .idle .flush).holdBoth d := by
  simp [Block.flushDish, mode_flush, h, Block.endTracking]

theorem losePending_track (cause : ModeCause) (h : (b.dish d).pendingReq = some .track) :
    b.losePending d cause
      = ((b.withdraw (.track d)).modDish d fun x => { x with pendingReq := none }).setMode d .idle cause := by
  simp [Block.losePending, Block.withdrawPending, h]

theorem flushDish_trackWait (h : (b.dish d).mode = .trackWait) (pending : (b.dish d).pendingReq = some .track) :
    b.flushDish d = (((b.flush d).withdraw (.track d)).modDish d
      fun x => { x with pendingReq := none }).setMode d .idle .flush := by
  rw [← losePending_track _ _ _ ((pendingReq_flush b d).trans pending)]
  simp [Block.flushDish, mode_flush, h]

theorem flushDish_other (ht : (b.dish d).mode ≠ .tracking) (hw : (b.dish d).mode ≠ .trackWait) :
    b.flushDish d = b.flush d := by
  unfold Block.flushDish
  dsimp only
  rw [mode_flush]
  split <;> simp_all

end

/-- Settles O40: what the flush leaves stands through the reply, and the mode says what follows it. -/
theorem flushPointsEmpties : Obligations.FlushPointsEmpties := by
  intro s tag dish taken c
  refine ⟨fun unnamed => request_refused taken (by simp [ownFlushPoints, unnamed]), ?_⟩
  intro d named n flushed
  have flush : flushed = (s.found c).flush d := rfl
  have ran : exec c s = .next (s.replies ((s.found c).flushDish d) .ok [f1 n]) :=
    request_replies taken (by simp [ownFlushPoints, named, reply, n, c])
  have still := still_flushDish (s.found c) d
  refine ⟨⟨_, ran, ?_, ?_, fun e other => ?_, ?_, ?_⟩, fun h => ?_, fun h pending => ?_, fun ht hw => ?_⟩
  · exact (queue_flushed still d).trans (if_pos rfl)
  · exact congrArg (·.free) (points_flushed still)
  · exact (queue_flushed still e).trans (if_neg (Ne.symm other))
  · exact clampOpen_flushed still
  · exact hasReply_replies (congrArg (·.link.out) still)
  · rw [ran, flush, flushDish_tracking (s.found c) d h]
  · rw [ran, flush, flushDish_trackWait (s.found c) d h pending]
  · rw [ran, flush, flushDish_other (s.found c) d ht hw]

/-! ### TRACK_STOP and PARK_DISH (R28, R31) -/

/-- A request whose owner leaves the points leaves them through its reply. -/
theorem points_request {s : State} {c : Instr} {own : Nat → Block → Answered} (taken : s.takes c)
    (kept : (own s.block.link.nextId (s.found c)).1.still.points = s.block.points) {t : State}
    (ran : s.request c own = .next t) : t.block.points = s.block.points := by
  rw [request_taken own taken] at ran
  cases ran
  split
  · exact points_replies.trans kept
  · exact (points_finish _).trans kept

theorem pool_ownTrackStop (b : Block) (n : Nat) : (ownTrackStop n b).1.still.points = b.points := by
  have same : b.still.points = b.points := rfl
  unfold ownTrackStop
  (repeat' split) <;> simp [refuse, done, reply, same]

theorem pool_ownParkDish (b : Block) (n : Nat) : (ownParkDish n b).1.still.points = b.points := by
  have same : b.still.points = b.points := rfl
  unfold ownParkDish
  (repeat' split) <;> simp [refuse, done, reply, same]

theorem working_iff {m : Mode} : m.working = true ↔ m = .idle ∨ m = .trackWait ∨ m = .tracking := by
  cases m <;> simp [Mode.working]

section
variable {b : Block} {d : DishId} {n : Nat}

theorem ownTrackStop_trackWait (named : b.useDish n = .ok d) (h : (b.dish d).mode = .trackWait) :
    ownTrackStop n b = done (b.losePending d .request) := by
  simp [ownTrackStop, named, h]

theorem ownTrackStop_tracking (named : b.useDish n = .ok d) (h : (b.dish d).mode = .tracking) :
    ownTrackStop n b = done (b.endTracking d .request) := by
  simp [ownTrackStop, named, h]

theorem ownTrackStop_other (named : b.useDish n = .ok d) (hw : (b.dish d).mode ≠ .trackWait)
    (ht : (b.dish d).mode ≠ .tracking) : ownTrackStop n b = refuse b .state := by
  simp only [ownTrackStop, named]

theorem ownParkDish_ok (named : b.useDish n = .ok d) : ownParkDish n b =
    if (b.dish d).mode.working = true then done (b.parkDish d) else refuse b .state := by
  simp only [ownParkDish, named]

end

/-- Settles O42: TRACK_STOP by the dish's mode, PARK_DISH by the three modes it takes; both leave the points. -/
theorem trackStopAndPark : Obligations.TrackStopAndPark := by
  refine ⟨fun s tag n d taken named conf => ?_, fun s tag n d taken named conf => ?_⟩
  · intro c f
    have used : f.useDish n = .ok d := useDish_ok named conf
    refine ⟨fun h pending => ?_, fun h => ?_, fun hw ht => ?_, fun t ran => ?_⟩
    · rw [← losePending_track f d .request pending]
      exact request_replies taken (ownTrackStop_trackWait used h)
    · exact request_replies taken (ownTrackStop_tracking used h)
    · exact request_refused taken (ownTrackStop_other used hw ht)
    · exact points_request taken (pool_ownTrackStop f n) ran
  · intro c f m
    have used : f.useDish n = .ok d := useDish_ok named conf
    refine ⟨fun h => request_replies taken ?_, fun h => request_refused taken ?_, fun t ran => ?_⟩
    · exact (ownParkDish_ok used).trans (if_pos (working_iff.mpr h))
    · exact (ownParkDish_ok used).trans (if_neg fun working => h (working_iff.mp working))
    · exact points_request taken (pool_ownParkDish f n) ran

end Sys2Proof.Machine
end

-- ==== The statements on dishes: tracked and held (R25, R26, R30, R72) ====
section
/-! What a request for power answers where no examination is due; then TRACK_START and HOLD_DISH, each from its checks in
their order and what its owner asks for. -/

open Sys2Proof

namespace Sys2Proof.Machine

/-! ### Asking for power with no examination due (R72) -/

section
variable {b : Block}

variable (h : b.account.examineDue = false) (who : Waiter) (ws : List Want)
include h

theorem askPower_full (full : 20 ≤ b.account.waitq.length) : b.askPower who ws = (b, .busy) := by
  simp [Block.askPower, examine_id h, Block.queueFull, full]

theorem askPower_queues (room : b.account.waitq.length < 20)
    (behind : b.account.waitq ≠ [] ∨ b.account.stowq ≠ [] ∨ b.motionFits ws = false) :
    b.askPower who ws = (b.enqueue who ws, .queued) := by
  have later : (!b.mustQueue && b.motionFits ws) = false := by
    rcases behind with waits | stows | short
    · simp [Block.mustQueue, waits]
    · simp [Block.mustQueue, stows]
    · simp [short]
  have unfull : b.queueFull = false := by simp [Block.queueFull, room]
  simp [Block.askPower, examine_id h, unfull, later]

theorem askPower_grants (empty : b.account.waitq = []) (stowed : b.account.stowq = []) (fits : b.motionFits ws = true) :
    b.askPower who ws = (b.grant ws .motion, .granted) := by
  simp [Block.askPower, examine_id h, Block.queueFull, Block.mustQueue, empty, stowed, fits]

end

section
variable {b t : Block} {d : DishId}

theorem askTrack_busy {why : ModeCause} (h : b.askPower (.track d) (b.trackWants d) = (t, .busy)) :
    b.askTrack d why = (t.setMode d .idle why, .busy) := by
  simp only [Block.askTrack, h]

theorem askTrack_granted {why : ModeCause} (h : b.askPower (.track d) (b.trackWants d) = (t, .granted)) :
    b.askTrack d why = (t.takeTrack d (b.trackWants d) why, .granted) := by
  simp only [Block.askTrack, h]

theorem askTrack_queued {why : ModeCause} (h : b.askPower (.track d) (b.trackWants d) = (t, .queued)) :
    b.askTrack d why
      = ((t.modDish d fun x => { x with pendingReq := some .track }).setMode d .trackWait why, .queued) := by
  simp only [Block.askTrack, h]

theorem askHold_busy (h : b.askPower (.hold d) (b.holdWants d) = (t, .busy)) : b.askHold d = (b, .busy) := by
  simp only [Block.askHold, h]

theorem askHold_granted (h : b.askPower (.hold d) (b.holdWants d) = (t, .granted)) :
    b.askHold d = (t.takeHold d (b.holdWants d), .granted) := by
  simp only [Block.askHold, h]

theorem askHold_queued (h : b.askPower (.hold d) (b.holdWants d) = (t, .queued)) :
    b.askHold d = (t.modDish d fun x => { x with pendingReq := some .hold }, .queued) := by
  simp only [Block.askHold, h]

end

/-! ### The checks of Table 2-3 (R25, R30) -/

section
variable {b : Block} {d : DishId}

theorem driveRefused_estop (h : b.site.estop = true) : b.driveRefused d = some .estop := if_pos h

theorem driveRefused_wind (h : b.site.estop = false) (stow : b.weather.level = .stow) : b.driveRefused d = some .wind := by
  simp [Block.driveRefused, h, stow]

theorem driveRefused_locked (h : b.site.estop = false) (calm : b.weather.level ≠ .stow)
    (locked : 0 < b.axisLocks d .az ∨ 0 < b.axisLocks d .el) : b.driveRefused d = some .locked := by
  simp [Block.driveRefused, h, calm, Block.dishLocked, locked]

theorem driveRefused_none (h : b.site.estop = false) (calm : b.weather.level ≠ .stow) (az : b.axisLocks d .az = 0)
    (el : b.axisLocks d .el = 0) : b.driveRefused d = none := by
  simp [Block.driveRefused, h, calm, Block.dishLocked, az, el]

theorem outOfService_iff : b.outOfService d = true
    ↔ ∃ k, (b.axis d k).state = .offline ∨ (b.axis d k).state = .faulted := by
  simp only [Block.outOfService, Block.blockReasons, Bool.or_eq_true, beq_iff_eq]
  constructor
  · rintro ((h | h) | (h | h))
    exacts [⟨.az, .inr h⟩, ⟨.el, .inr h⟩, ⟨.az, .inl h⟩, ⟨.el, .inl h⟩]
  · rintro ⟨k, h⟩
    cases k <;> tauto

theorem trackRefused_driven (idle : (b.dish d).mode = .idle) (timed : b.site.clock ≠ none) {code : Code}
    (refused : b.driveRefused d = some code) : b.trackRefused d = some code := by
  simp [Block.trackRefused, idle, timed, refused]

theorem trackRefused_undriven (idle : (b.dish d).mode = .idle) (timed : b.site.clock ≠ none)
    (free : b.driveRefused d = none) : b.trackRefused d
      = if b.outOfService d = true ∨ b.queue d = [] then some .state else none := by
  simp [Block.trackRefused, idle, timed, free]

theorem holdRefused_driven (idle : (b.dish d).mode = .idle) {code : Code} (refused : b.driveRefused d = some code) :
    b.holdRefused d = some code := by
  simp [Block.holdRefused, idle, refused]

theorem holdRefused_undriven (idle : (b.dish d).mode = .idle) (free : b.driveRefused d = none) : b.holdRefused d
      = if b.outOfService d = true then some .state else none := by
  simp [Block.holdRefused, idle, free]

end

/-! ### TRACK_START (R25, R26) -/

section
variable {b : Block} {d : DishId} {n : Nat}

theorem ownTrackStart_refused (named : b.useDish n = .ok d) {code : Code} (h : b.trackRefused d = some code) :
    ownTrackStart n b = refuse b code := by
  simp [ownTrackStart, named, h]

/-- A dish that passes its checks withdraws what it asked for and asks for its track power. -/
theorem ownTrackStart_asks (named : b.useDish n = .ok d) (passed : b.trackRefused d = none) {u : Block} {r : Asked}
    (asked : (b.withdrawPending d).askTrack d .request = (u, r)) : ownTrackStart n b =
      if r = .busy then refuse u .busy else reply (u.clearPark d) (if r = .granted then .ok else .queued) [] := by
  simp only [ownTrackStart, named, passed, asked]
  cases r <;> rfl

theorem withdrawPending_none (h : (b.dish d).pendingReq = none) : b.withdrawPending d = b := by
  simp [Block.withdrawPending, h]

end

/-- Settles O41: the checks in their order; a dish that passes asks, and without an examination due its answer is the
account's. -/
theorem trackStart : Obligations.TrackStart := by
  intro s tag n d taken named conf c b f ws
  have used : f.useDish n = .ok d := useDish_ok named conf
  have refuses {code : Code} (h : f.trackRefused d = some code) : exec c s = .next (s.refuses c code) :=
    request_refused taken (ownTrackStart_refused used h)
  have asks (passed : f.trackRefused d = none) {u : Block} {r : Asked}
      (asked : (f.withdrawPending d).askTrack d .request = (u, r)) :
      (r = .busy → exec c s = .next (s.replies u .busy []))
      ∧ (r ≠ .busy → exec c s = .next (s.replies (u.clearPark d) (if r = .granted then .ok else .queued) [])) :=
    ⟨fun busy => request_replies taken ((ownTrackStart_asks used passed asked).trans (if_pos busy)),
      fun other => request_replies taken ((ownTrackStart_asks used passed asked).trans (if_neg other))⟩
  refine ⟨fun mode => refuses (if_pos mode), fun idle unset => refuses ?_, fun idle timed => ?_⟩
  · exact (if_neg fun other => other idle).trans (if_pos unset)
  have refusesDriven {code : Code} (h : f.driveRefused d = some code) := refuses (trackRefused_driven idle timed h)
  refine ⟨fun stop => refusesDriven (driveRefused_estop stop), fun off stow => refusesDriven (driveRefused_wind off stow),
    fun off calm => ⟨fun locked => refusesDriven (driveRefused_locked off calm locked), fun az el => ?_⟩⟩
  · intro out
    have checked := trackRefused_undriven (b := f) (d := d) idle timed (driveRefused_none off calm az el)
    have unfit : f.outOfService d = true ∨ f.queue d = [] ↔ out := or_congr_left outOfService_iff
    refine ⟨fun isOut => refuses (checked.trans (if_pos (unfit.mpr isOut))), fun inService => ?_⟩
    have passed := checked.trans (if_neg fun isOut => inService (unfit.mp isOut))
    refine ⟨fun u r asked => asks passed asked, fun undue unasked => ?_⟩
    rw [withdrawPending_none (b := f) unasked] at asks
    refine ⟨fun full => ?_, fun empty stowed fits => ?_, fun room behind => ?_⟩
    · exact (asks passed (askTrack_busy (askPower_full (b := f) undue _ _ full))).1 rfl
    · exact (asks passed (askTrack_granted (askPower_grants (b := f) undue _ _ empty stowed fits))).2 (by decide)
    · exact (asks passed (askTrack_queued (askPower_queues (b := f) undue _ _ room behind))).2 (by decide)

/-! ### HOLD_DISH (R30) -/

section
variable {b : Block} {d : DishId} {n : Nat}

theorem ownHoldDish_refused (named : b.useDish n = .ok d) {code : Code} (h : b.holdRefused d = some code) :
    ownHoldDish n b = refuse b code := by
  simp [ownHoldDish, named, h]

theorem bothHeld_iff : b.bothHeld d = true ↔ (b.axis d .az).state = .held ∧ (b.axis d .el).state = .held := by
  simp [Block.bothHeld]

theorem ownHoldDish_restarts (named : b.useDish n = .ok d) (passed : b.holdRefused d = none)
    (held : b.bothHeld d = true) : ownHoldDish n b = done ((b.restartPark d).clearPark d) := by
  simp [ownHoldDish, named, passed, held]

theorem ownHoldDish_again (named : b.useDish n = .ok d) (passed : b.holdRefused d = none)
    (held : b.bothHeld d = false) (pending : (b.dish d).pendingReq = some .hold) :
    ownHoldDish n b = reply (b.clearPark d) .queued [] := by
  simp [ownHoldDish, named, passed, held, pending]

theorem ownHoldDish_asks (named : b.useDish n = .ok d) (passed : b.holdRefused d = none)
    (held : b.bothHeld d = false) (pending : (b.dish d).pendingReq ≠ some .hold) {u : Block} {r : Asked}
    (asked : b.askHold d = (u, r)) : ownHoldDish n b =
      if r = .busy then refuse b .busy else reply (u.clearPark d) r.code [] := by
  simp only [ownHoldDish, named, passed, held, pending, asked]
  cases r <;> rfl

end

/-- Settles O44: the checks in their order; both axes HELD, a HOLD pending, and the account's answer to a new one. -/
theorem holdDishHolds : Obligations.HoldDishHolds := by
  intro s tag n d taken named conf c b f locked out both ws
  have used : f.useDish n = .ok d := useDish_ok named conf
  have refuses {code : Code} (h : f.holdRefused d = some code) : exec c s = .next (s.refuses c code) :=
    request_refused taken (ownHoldDish_refused used h)
  refine ⟨fun mode => refuses (if_pos mode), fun idle => ?_⟩
  have refusesDriven {code : Code} (h : f.driveRefused d = some code) := refuses (holdRefused_driven idle h)
  have unlocked (free : ¬locked) : b.axisLocks d .az = 0 ∧ b.axisLocks d .el = 0 := by simpa [locked] using free
  have checked (off : f.site.estop = false) (calm : f.weather.level ≠ .stow) (free : ¬locked) :=
    holdRefused_undriven (b := f) (d := d) idle (driveRefused_none off calm (unlocked free).1 (unlocked free).2)
  refine ⟨fun stop => refusesDriven (driveRefused_estop stop), fun off stow => refusesDriven (driveRefused_wind off stow),
    fun off calm => ⟨fun isLocked => refusesDriven (driveRefused_locked off calm isLocked),
    fun free isOut => refuses ((checked off calm free).trans (if_pos (outOfService_iff.mpr isOut))),
    fun free inService => ?_⟩⟩
  · have passed := (checked off calm free).trans (if_neg fun isOut => inService (outOfService_iff.mp isOut))
    have unheld (apart : ¬both) : f.bothHeld d = false := by
      rw [Bool.eq_false_iff, ne_eq, bothHeld_iff]
      exact apart
    refine ⟨fun held => ?_, fun apart pending => ?_, fun apart pending undue => ?_⟩
    · exact request_replies taken (ownHoldDish_restarts used passed (bothHeld_iff.mpr held))
    · exact request_replies taken (ownHoldDish_again used passed (unheld apart) pending)
    · have asks {u : Block} {r : Asked} (asked : f.askHold d = (u, r)) :=
        ownHoldDish_asks used passed (unheld apart) pending asked
      refine ⟨fun full => ?_, fun empty stowed fits => ?_, fun room behind => ?_⟩
      · exact request_refused taken
          ((asks (askHold_busy (askPower_full (b := f) undue _ _ full))).trans (if_pos rfl))
      · exact request_replies taken
          ((asks (askHold_granted (askPower_grants (b := f) undue _ _ empty stowed fits))).trans (if_neg (by decide)))
      · exact request_replies taken
          ((asks (askHold_queued (askPower_queues (b := f) undue _ _ room behind))).trans (if_neg (by decide)))

end Sys2Proof.Machine
end

-- ==== What a grant leaves of the queues (R75, R76) ====
section
/-! No part of a grant enters anything in the wait queue or the stow-pending list: entries only leave. -/

open Sys2Proof

namespace Sys2Proof.Machine

/-- The wait queue and the stow-pending list keep their order and gain nothing. -/
def Block.Thins (b c : Block) : Prop :=
  c.account.waitq.Sublist b.account.waitq ∧ c.account.stowq.Sublist b.account.stowq

section
variable {b c t : Block}

theorem thins_refl (b : Block) : b.Thins b := ⟨.refl _, .refl _⟩

theorem thins_trans (h : b.Thins c) (h' : c.Thins t) : b.Thins t := ⟨h'.1.trans h.1, h'.2.trans h.2⟩

theorem thins_of_same (waits : c.account.waitq = b.account.waitq) (stows : c.account.stowq = b.account.stowq) :
    b.Thins c :=
  ⟨waits ▸ .refl _, stows ▸ .refl _⟩

theorem thins_of_account (h : c.account = b.account) : b.Thins c := thins_of_same (by rw [h]) (by rw [h])

theorem thins_of_beside (waits : c.account.waitq = b.account.waitq) (h : c.beside = b.beside) : b.Thins c :=
  thins_of_same waits (congrArg (fun x : Block => x.account.stowq) h :)

theorem thins_each {α : Type} (xs : List α) (f : α → Block → Block) (h : ∀ x (s : Block), s.Thins (f x s)) (b : Block) :
    b.Thins (b.each xs f) :=
  each_holds (b.Thins ·) xs f (fun x s thin => thins_trans thin (h x s)) b (thins_refl b)

end

section
variable (b : Block) (d : DishId) (k : AxisKind) (g : GroupId)

theorem thins_withdraw (w : Waiter) : b.Thins (b.withdraw w) := by
  unfold Block.withdraw
  split
  · exact ⟨List.filter_sublist, .refl _⟩
  · exact thins_refl b

theorem thins_deliverNeed (n : Need) : b.Thins (b.deliverNeed d k n).1 := by
  cases refused : b.needRefused d k with
  | some why =>
    rw [deliverNeed_refused n refused]
    split
    · exact thins_of_beside (by simp) (beside_releaseClaim b d k)
    · exact thins_refl b
  | none =>
    by_cases granted : (b.axis d k).state = .braked ∧ n.grant.isSome = true
    · rw [deliverNeed_granted n refused granted.1 granted.2]
      have needed : b.Thins (b.setAxis d k { b.axis d k with need := some n }) := thins_of_account rfl
      exact thins_trans (thins_trans needed (thins_withdraw ..)) (thins_of_account rfl)
    · rw [deliverNeed_recorded n refused granted]
      exact thins_of_account rfl

theorem thins_deliverBoth (who : Requester) (wa we : Nat) : b.Thins (b.deliverBoth d who wa we).1 :=
  thins_trans (thins_deliverNeed b d .az _) (thins_deliverNeed _ d .el _)

theorem thins_setMode (m : Mode) (why : ModeCause) : b.Thins (b.setMode d m why) := thins_of_account (by simp)

theorem thins_holdBoth : b.Thins (b.holdBoth d) :=
  have one (s : Block) (k : AxisKind) : s.Thins (s.holdAfterEnd d k) :=
    thins_of_beside (waitq_holdAfterEnd s d k) (beside_holdAfterEnd s d k)
  thins_trans (one b .az) (one _ .el)

theorem thins_endTracking (why : ModeCause) : b.Thins (b.endTracking d why) :=
  thins_trans (thins_setMode ..) (thins_holdBoth ..)

theorem thins_takeHold (ws : List Want) : b.Thins (b.takeHold d ws) := by
  have cleared (f : Dish → Dish) : b.Thins (b.modDish d f) := thins_of_account rfl
  exact thins_trans (cleared _) (thins_deliverBoth ..)

theorem thins_takeTrack (ws : List Want) (why : ModeCause) : b.Thins (b.takeTrack d ws why) := by
  have cleared (f : Dish → Dish) : b.Thins (b.modDish d f) := thins_of_account rfl
  have delivered (s : Block) := thins_trans (thins_setMode s d .tracking why)
    (thins_deliverBoth _ d .track (wanted ws d .az) (wanted ws d .el))
  unfold Block.takeTrack
  dsimp only
  split
  · exact thins_trans (thins_trans (cleared _) (delivered _)) (thins_endTracking ..)
  · exact thins_trans (cleared _) (delivered _)

theorem thins_loseMove : b.Thins (b.loseMove d) := by
  have gone : b.Thins (b.setMove d none) := thins_of_account rfl
  have ended : b.Thins (b.endMove d) := by
    unfold Block.endMove
    split
    · exact thins_refl b
    · exact thins_trans (thins_trans gone (thins_withdraw ..)) (thins_holdBoth ..)
  have cleared : (b.endMove d).Thins ((b.endMove d).clearContext d) := thins_of_account rfl
  unfold Block.loseMove
  dsimp only
  split
  · exact thins_refl b
  · split
    · exact thins_trans (thins_trans ended cleared) (thins_setMode ..)
    · exact thins_trans ended (thins_setMode ..)
    · exact ended

theorem thins_takeMove (n : Nat) (ws : List Want) : b.Thins (b.takeMove d n ws) := by
  have set (x : Option InternalMove) : b.Thins (b.setMove d x) := thins_of_account rfl
  unfold Block.takeMove
  split
  · exact thins_refl b
  · dsimp only
    split
    · exact thins_trans (thins_trans (set _) (thins_deliverBoth ..)) (thins_loseMove ..)
    · exact thins_trans (set _) (thins_deliverBoth ..)

theorem thins_recordGrant (n : Nat) (ws : List Want) : b.Thins (b.recordGrant g n ws) := by
  unfold Block.recordGrant
  split
  · exact thins_refl b
  · exact thins_of_account (by simp)

theorem thins_startGroup (by_ : Option DishId) : b.Thins (b.startGroup g by_) := by
  by_cases ready : ∃ x, b.group g = some x ∧ x.state = .starting ∧ b.allHeld g x = true
  · obtain ⟨x, found, starting, held⟩ := ready
    obtain ⟨m, starts⟩ := startGroup_sends b g by_ found starting held
    rw [starts]
    refine thins_of_account ?_
    rw [(tellGroup_kept ..).2.1, sendAll_account]
    rfl
  · rw [startGroup_waits by_ fun x found h => ready ⟨x, found, h⟩]
    exact thins_refl b

theorem thins_dropMember (r : DropReason) : b.Thins (b.dropMember g d r) := by
  rw [dropMember_eq]
  have left : b.Thins (b.letGo g d r) :=
    thins_trans (thins_trans (thins_of_account (by simp)) (thins_holdBoth ..)) (thins_setMode ..)
  exact thins_trans (thins_trans left (thins_of_account (by simp))) (thins_startGroup ..)

theorem thins_deliverGroup : b.Thins (b.deliverGroup g) := by
  cases found : b.group g with
  | none =>
    unfold Block.deliverGroup
    rw [found]
    exact thins_refl b
  | some x =>
    rw [deliverGroup_eq b g found]
    refine thins_each _ _ (fun m s => ?_) b
    unfold Block.deliverMember
    dsimp only
    split
    · split
      · exact thins_trans (thins_deliverBoth ..) (thins_dropMember ..)
      · exact thins_deliverBoth ..
    · exact thins_refl s

end

end Sys2Proof.Machine
end

-- ==== Grants: the stow's, and the head of the queue's (R54, R74, R78) ====
section
/-! A grant sets the claims of its axes and leaves the queues; a stow granted leaves the list; a head granted leaves the
wait queue, and its requester takes its shares. -/

open Sys2Proof

namespace Sys2Proof.Machine

/-! ### A grant (R74) -/

section
variable (b : Block) (ws : List Want) (cls : ClaimClass)

/-- A grant makes of the claims what its amounts make of them, and leaves both queues. -/
theorem grant_account :
    (b.grant ws cls).account.claims
      = (b.each ws fun w s => s.setClaim w.d w.k (some ⟨cls, w.watts⟩)).account.claims
    ∧ (b.grant ws cls).account.waitq = b.account.waitq ∧ (b.grant ws cls).account.stowq = b.account.stowq := by
  have waits := each_keeps (·.account.waitq) ws (fun w s => s.setClaim w.d w.k (some ⟨cls, w.watts⟩))
    (fun _ _ => rfl) b
  have stows := each_keeps (·.account.stowq) ws (fun w s => s.setClaim w.d w.k (some ⟨cls, w.watts⟩))
    (fun _ _ => rfl) b
  unfold Block.grant
  generalize (b.each ws fun w s => s.setClaim w.d w.k (some ⟨cls, w.watts⟩)) = claimed at waits stows ⊢
  have lag : claimed.followLag.account.claims = claimed.account.claims
      ∧ claimed.followLag.account.waitq = b.account.waitq ∧ claimed.followLag.account.stowq = b.account.stowq := by
    simpa using ⟨waits, stows⟩
  dsimp only
  split
  · obtain ⟨-, -, -, -, -, -, -, -, claims, waits', stows', -⟩ :=
      sameButZones_of_zoneless (zoneless_curtail claimed.followLag
        (claimed.followLag.claimTotal + claimed.followLag.heatTotal - claimed.followLag.account.breq))
    exact ⟨claims.trans lag.1, waits'.trans lag.2.1, stows'.trans lag.2.2⟩
  · exact lag

theorem thins_grant : b.Thins (b.grant ws cls) :=
  have ⟨_, waits, stows⟩ := grant_account b ws cls
  thins_of_same waits stows

theorem claim_grant (d : DishId) (k : AxisKind) : (b.grant ws cls).claim d k
    = (b.each ws fun w s => s.setClaim w.d w.k (some ⟨cls, w.watts⟩)).claim d k := by
  simp only [Block.claim, (grant_account b ws cls).1]

theorem claim_grant_one (d : DishId) (k : AxisKind) (w : Nat) :
    (b.grant [⟨d, k, w⟩] cls).claim d k = some ⟨cls, w⟩ := by
  simp [claim_grant, Block.each]

theorem claim_grant_both (d : DishId) (wa we : Nat) (k : AxisKind) :
    (b.grant [⟨d, .az, wa⟩, ⟨d, .el, we⟩] cls).claim d k = some ⟨cls, if k = .az then wa else we⟩ := by
  cases k <;> simp [claim_grant, Block.each]

theorem axis_grant (d : DishId) (k : AxisKind) : (b.grant ws cls).axis d k = b.axis d k := by
  rw [(sameAxes_of_axes (axes_grant ..)).2]

theorem needRefused_grant (d : DishId) (k : AxisKind) : (b.grant ws cls).needRefused d k = b.needRefused d k := by
  obtain ⟨axes, -, -, lockout, site⟩ := grant_kept b ws cls
  have locks : (b.grant ws cls).axisLocks = b.axisLocks := by
    funext e j
    simp only [Block.axisLocks, lockout]
  simp only [Block.needRefused, locks, site, (sameAxes_of_axes axes).2]

end

/-! ### A stow granted (R78, R82) -/

section
variable (b : Block) (d : DishId)

theorem stowFits_iff : b.stowFits d = true
    ↔ (b.axis d .el).cfg.pstow + (b.claimTotal - b.claimWatts d .el) ≤ b.account.breq := by
  simp [Block.stowFits, Block.stowWants, total, Block.otherTotal]

/-- The dish of a stow granted is off the list. -/
def Block.unlisted (b : Block) (d : DishId) : Block :=
  { b with account := { b.account with stowq := b.account.stowq.filter (· != d) } }

theorem grantStow_eq : b.grantStow d = (((b.grant [⟨d, .el, (b.axis d .el).cfg.pstow⟩] .stow).unlisted d).deliverNeed d .el
    ⟨.stow, some (b.axis d .el).cfg.pstow⟩).1 := by
  simp [Block.grantStow, Block.stowWants, total, Block.unlisted]

variable {b d} in
theorem unlisted_kept : (b.unlisted d).claim = b.claim ∧ (b.unlisted d).axis = b.axis
    ∧ (b.unlisted d).needRefused = b.needRefused := ⟨rfl, rfl, rfl⟩

theorem stowq_grantStow : (b.grantStow d).account.stowq = b.account.stowq.filter (· != d) := by
  have stows := (grant_account b [⟨d, .el, (b.axis d .el).cfg.pstow⟩] .stow).2.2
  obtain ⟨⟨-, -, -, -, -, -, -, -, -, -, -, -, -, -, -, -, -, -, -, -, left, -⟩, -⟩ :=
    deliverNeed_kept ((b.grant [⟨d, .el, (b.axis d .el).cfg.pstow⟩] .stow).unlisted d) d .el
      ⟨.stow, some (b.axis d .el).cfg.pstow⟩
  rw [grantStow_eq, left, ← stows]
  rfl

theorem waitq_grantStow : (b.grantStow d).account.waitq.Sublist b.account.waitq := by
  have waits := (grant_account b [⟨d, .el, (b.axis d .el).cfg.pstow⟩] .stow).2.1
  rw [grantStow_eq, ← waits]
  exact (thins_deliverNeed ..).1

/-- A stow share taken stands with its need; one refused takes the whole claim away, and the need stands (log 40). -/
theorem grantStow_row :
    let w := (b.axis d .el).cfg.pstow
    let u := b.grantStow d
    (b.needRefused d .el = none → u.claim d .el = some ⟨.stow, w⟩ ∧ (u.axis d .el).need = some ⟨.stow, some w⟩)
    ∧ (b.needRefused d .el ≠ none → u.claim d .el = none ∧ (u.axis d .el).need = (b.axis d .el).need) := by
  intro w u
  have eq : u = _ := grantStow_eq b d
  have claim := claim_grant_one b .stow d .el w
  have axis := axis_grant b [⟨d, .el, w⟩] .stow d .el
  have answer := needRefused_grant b [⟨d, .el, w⟩] .stow d .el
  obtain ⟨claim', axis', answer'⟩ := unlisted_kept (b := b.grant [⟨d, .el, w⟩] .stow) (d := d)
  rw [← claim'] at claim
  rw [← axis'] at axis
  rw [← answer'] at answer
  refine ⟨fun free => ?_, fun lost => ?_⟩
  · obtain ⟨-, taken, -, claims, -⟩ := deliverNeed_taken ⟨.stow, some w⟩ (answer.trans free)
    rw [eq, claims.2, taken, if_pos ⟨rfl, rfl⟩]
    exact ⟨claim, rfl⟩
  · obtain ⟨why, refused⟩ := Option.ne_none_iff_exists'.mp lost
    rw [eq, deliverNeed_refused _ (answer.trans refused)]
    simp [axis]

end

/-! ### A HOLD and a TRACK granted (R26, R30) -/

/-- The amounts of a dish's request, one for each axis. -/
def dishWants (d : DishId) (wa we : Nat) : List Want := [⟨d, .az, wa⟩, ⟨d, .el, we⟩]

theorem wanted_dishWants (d : DishId) (wa we : Nat) (k : AxisKind) :
    wanted (dishWants d wa we) d k = if k = .az then wa else we := by
  cases k <;> simp [wanted, dishWants]

section
variable (b : Block) (d : DishId) (wa we : Nat)

/-- Both axes of a dish take the shares of a request. -/
def Block.Shares (b u : Block) (d : DishId) (who : Requester) (wa we : Nat) : Prop :=
  ∀ k, u.axis d k = (b.axis d k).needing ⟨who, some (if k = .az then wa else we)⟩ ∧ u.claim d k = b.claim d k

/-- Both needs of a dish taken are its shares. -/
theorem shares_deliverBoth (who : Requester) (ready : ∀ k, b.needRefused d k = none) :
    b.Shares (b.deliverBoth d who wa we).1 d who wa we := by
  intro k
  obtain ⟨axis, claim⟩ := deliverBoth_taken b d who wa we (ready .az) (ready .el) k
  refine ⟨axis.trans ?_, claim⟩
  cases k <;> rfl

theorem takeHold_row : let u := b.takeHold d (dishWants d wa we)
    (u.dish d).pendingReq = none ∧ (u.dish d).mode = (b.dish d).mode
    ∧ ((∀ k, b.needRefused d k = none) → b.Shares u d .hold wa we) := by
  have dish := (deliverBoth_kept (b.modDish d fun x => { x with pendingReq := none }) d .hold wa we).2.1
  intro u
  have eq : u = ((b.modDish d fun x => { x with pendingReq := none }).deliverBoth d .hold wa we).1 := by
    simp [u, Block.takeHold, wanted_dishWants]
  rw [eq, dish]
  refine ⟨by simp [Block.modDish], by simp [Block.modDish], fun ready => ?_⟩
  exact shares_deliverBoth (b.modDish d fun x => { x with pendingReq := none }) d wa we .hold ready

/-- A dish that tracks its granted power, its shares not yet delivered. -/
def Block.tracks (b : Block) (d : DishId) (why : ModeCause) : Block :=
  (b.modDish d fun x => { x with pendingReq := none }).setMode d .tracking why

variable {b d} in
theorem needRefused_tracks {why : ModeCause} : (b.tracks d why).needRefused = b.needRefused := by
  funext e j
  have ground : (b.tracks d why).ground = b.ground := by simp [Block.tracks]
  obtain ⟨-, -, -, -, -, site, -, -, -, -, -, -, -, -, locks, -⟩ := sameGround_of_ground ground
  have axes : (b.tracks d why).axis = b.axis := (sameAxes_of_axes (by simp [Block.tracks])).2
  simp only [Block.needRefused, locks, site, axes]

end

end Sys2Proof.Machine
end

-- ==== The head of the queue granted (R54) ====
section
/-! What each requester makes of its grant once its entry has left the queue. -/

open Sys2Proof

namespace Sys2Proof.Machine

section
variable (b : Block) (d : DishId) (wa we : Nat) (why : ModeCause)

/-- The dish whose power to track is granted, by whether its axes take their shares. -/
theorem takeTrack_eq : b.takeTrack d (dishWants d wa we) why
    = if (b.needRefused d .az <|> b.needRefused d .el).isSome = true
      then ((b.tracks d why).deliverBoth d .track wa we).1.endTracking d .axis
      else ((b.tracks d why).deliverBoth d .track wa we).1 := by
  have answer := deliverBoth_answer (b.tracks d why) d .track wa we
  rw [needRefused_tracks] at answer
  rw [← answer]
  simp only [Block.takeTrack, wanted_dishWants]
  rfl

theorem pendingReq_endTracking : ((b.endTracking d why).dish d).pendingReq = (b.dish d).pendingReq := by
  have held := dish_of_beside (beside_holdBoth (b.setMode d .idle why) d) d
  refine (congrArg Dish.pendingReq held :).trans ?_
  simp

theorem dish_tracks_delivered : (((b.tracks d why).deliverBoth d .track wa we).1.dish d).mode = .tracking
    ∧ (((b.tracks d why).deliverBoth d .track wa we).1.dish d).pendingReq = none := by
  rw [(deliverBoth_kept (b.tracks d why) d .track wa we).2.1]
  simp [Block.tracks, Block.modDish]

theorem takeTrack_row : let u := b.takeTrack d (dishWants d wa we) why
    (u.dish d).pendingReq = none
    ∧ ((∀ k, b.needRefused d k = none) → (u.dish d).mode = .tracking ∧ b.Shares u d .track wa we)
    ∧ ((∃ k, b.needRefused d k ≠ none) → (u.dish d).mode = .idle) := by
  obtain ⟨mode, pending⟩ := dish_tracks_delivered b d wa we why
  have tracked : (b.tracks d why).axis = b.axis ∧ (b.tracks d why).claim = b.claim := by
    refine ⟨(sameAxes_of_axes (by simp [Block.tracks])).2, ?_⟩
    funext e j
    simp [Block.claim, Block.tracks]
  intro u
  have eq : u = _ := takeTrack_eq b d wa we why
  refine ⟨?_, fun ready => ?_, fun ⟨k, lost⟩ => ?_⟩
  · rw [eq]
    split
    · rw [pendingReq_endTracking]
      exact pending
    · exact pending
  · rw [if_neg (by simp [ready])] at eq
    rw [eq]
    refine ⟨mode, fun k => ?_⟩
    have shares := shares_deliverBoth (b.tracks d why) d wa we .track (by rw [needRefused_tracks]; exact ready) k
    rwa [tracked.1, tracked.2] at shares
  · have refused : (b.needRefused d .az <|> b.needRefused d .el).isSome = true := by
      cases k <;> cases h : b.needRefused d .az <;> simp_all [Option.isSome_iff_ne_none]
    rw [if_pos refused] at eq
    rw [eq]
    exact (endTracking_row _ d d .axis).1.trans (if_pos rfl)


theorem takeMove_row {m : InternalMove} (found : b.move d = some m) (n : Nat) (ws : List Want) :
    let sh := b.sharesUnder (d, m.plan) n ws
    let u := b.setMove d (some { m with phase := .starting, nStar := some n, grant := some sh })
    let az := u.deliverNeed d .az ⟨.internal, some sh.az.claim⟩
    let el := az.1.deliverNeed d .el ⟨.internal, some sh.el.claim⟩
    (az.2 = none → el.2 = none → b.takeMove d n ws = el.1)
    ∧ (az.2 ≠ none ∨ el.2 ≠ none → b.takeMove d n ws = el.1.loseMove d) := by
  intro sh u az el
  have taken : b.takeMove d n ws = if (az.2 <|> el.2).isSome = true then el.1.loseMove d else el.1 := by
    unfold Block.takeMove
    rw [found]
    rfl
  refine ⟨fun first second => taken.trans (if_neg ?_), fun refused => taken.trans (if_pos ?_)⟩
  · simp [first, second]
  · cases first : az.2 with
    | some why => rfl
    | none => simpa [Option.isSome_iff_ne_none, first] using refused

end

/-! ### The requesters of the head (R54) -/

/-- The entries behind the head of the wait queue alone wait. -/
def Block.behind (b : Block) (rest : List WaitEntry) : Block := { b with account := { b.account with waitq := rest } }

section
variable {b : Block} {e : WaitEntry} {rest : List WaitEntry} (head : b.account.waitq = e :: rest)
include head

theorem grantHead_axis {d : DishId} {k : AxisKind} (who : e.who = .axis d k) :
    b.grantHead e = ((b.behind rest).grant e.wants .motion).modAxis d k fun a => { a with stage := .beacon } := by
  simp only [Block.grantHead, who, head, List.tail_cons, Block.behind]

theorem grantHead_hold {d : DishId} (who : e.who = .hold d) :
    b.grantHead e = ((b.behind rest).grant e.wants .motion).takeHold d e.wants := by
  simp only [Block.grantHead, who, head, List.tail_cons, Block.behind]

theorem grantHead_track {d : DishId} (who : e.who = .track d) :
    b.grantHead e = ((b.behind rest).grant e.wants .motion).takeTrack d e.wants .grant := by
  simp only [Block.grantHead, who, head, List.tail_cons, Block.behind]

theorem grantHead_noMove {d : DishId} (who : e.who = .internal d) (lacks : b.move d = none) :
    b.grantHead e = b.behind rest := by
  have lacks' : (b.behind rest).move d = none := lacks
  simp only [Block.behind] at lacks' ⊢
  simp only [Block.grantHead, who, head, List.tail_cons, lacks']

theorem grantHead_move {d : DishId} {m : InternalMove} (who : e.who = .internal d) (found : b.move d = some m) :
    let p := (b.behind rest).planGrant [(d, m.plan)] m.n0 6000 e.wants
    b.grantHead e = ((b.behind rest).grant p.2 .motion).takeMove d p.1 p.2 := by
  have found' : (b.behind rest).move d = some m := found
  simp only [Block.behind] at found' ⊢
  simp only [Block.grantHead, who, head, List.tail_cons, found']

theorem grantHead_noGroup {g : GroupId} (who : e.who = .group g) (lacks : b.group g = none) :
    b.grantHead e = b.behind rest := by
  have lacks' : (b.behind rest).group g = none := lacks
  simp only [Block.behind] at lacks' ⊢
  simp only [Block.grantHead, who, head, List.tail_cons, lacks']

theorem grantHead_group {g : GroupId} {x : Group} (who : e.who = .group g) (found : b.group g = some x) :
    let p := (b.behind rest).planGrant x.movers (x.n0.getD 20) x.limit e.wants
    b.grantHead e = (((b.behind rest).grant p.2 .motion).recordGrant g p.1 p.2).deliverGroup g := by
  have found' : (b.behind rest).group g = some x := found
  simp only [Block.behind] at found' ⊢
  simp only [Block.grantHead, who, head, List.tail_cons, found']

/-- A head granted has left the wait queue, and nothing has entered. -/
theorem thins_grantHead : (b.behind rest).Thins (b.grantHead e) := by
  cases who : e.who with
  | axis d k =>
    rw [grantHead_axis head who]
    exact thins_trans (thins_grant ..) (thins_of_account rfl)
  | hold d =>
    rw [grantHead_hold head who]
    exact thins_trans (thins_grant ..) (thins_takeHold ..)
  | track d =>
    rw [grantHead_track head who]
    exact thins_trans (thins_grant ..) (thins_takeTrack ..)
  | internal d =>
    cases found : b.move d with
    | none =>
      rw [grantHead_noMove head who found]
      exact thins_refl _
    | some m =>
      rw [grantHead_move head who found]
      exact thins_trans (thins_grant ..) (thins_takeMove ..)
  | group g =>
    cases found : b.group g with
    | none =>
      rw [grantHead_noGroup head who found]
      exact thins_refl _
    | some x =>
      rw [grantHead_group head who found]
      exact thins_trans (thins_trans (thins_grant ..) (thins_recordGrant ..)) (thins_deliverGroup ..)

end

/-! ### What a dish's grant serves -/

/-- Both axes of a dish hold their amounts in the motion class, each under its need, a braked one on the way to its
release. -/
def Block.Serves (b u : Block) (d : DishId) (who : Requester) (wa we : Nat) : Prop :=
  ∀ k, let w := if k = .az then wa else we
    u.claim d k = some ⟨.motion, w⟩ ∧ (u.axis d k).need = some ⟨who, some w⟩
    ∧ ((b.axis d k).state = .braked → (u.axis d k).stage = .beacon)

section
variable {b u : Block} {d : DishId} {who : Requester} {wa we : Nat}

theorem serves_of_shares (h : (b.grant (dishWants d wa we) .motion).Shares u d who wa we) : b.Serves u d who wa we := by
  intro k w
  obtain ⟨axis, claim⟩ := h k
  rw [axis_grant] at axis
  refine ⟨claim.trans (claim_grant_both ..), by rw [axis]; rfl, fun braked => ?_⟩
  simp [axis, Axis.needing, braked]

theorem ready_iff : (∀ k, b.needRefused d k = none) ↔ b.site.estop = false ∧ ∀ k, b.axisLocks d k = 0
    ∧ (b.axis d k).state ≠ .offline ∧ (b.axis d k).state ≠ .faulted ∧ (b.axis d k).state ≠ .locked := by
  simp only [needRefused_none]
  constructor
  · intro h
    exact ⟨(h .az).2.1, fun k => ⟨(h k).1, (h k).2.2⟩⟩
  · rintro ⟨clear, h⟩ k
    exact ⟨(h k).1, clear, (h k).2⟩

end

end Sys2Proof.Machine
end

-- ==== The examination of the queues, and asking for power (R72 to R78) ====
section
/-! An examination ends: whatever it grants leaves a queue, and one that grants nothing calls for no other. -/

open Sys2Proof

namespace Sys2Proof.Machine

/-! ### An examination ends (R76) -/

/-- The entries of both queues. -/
def Block.entriesLeft (b : Block) : Nat := b.account.waitq.length + b.account.stowq.length

/-- Nothing was granted, or an entry is gone. -/
def Block.Grants (b c : Block) : Prop := c = b ∨ c.entriesLeft < b.entriesLeft

section
variable {b c t : Block}

theorem grants_trans (h : b.Grants c) (h' : c.Grants t) : b.Grants t := by
  obtain rfl | less := h
  · exact h'
  · obtain rfl | less' := h'
    · exact .inr less
    · exact .inr (less'.trans less)

theorem entriesLeft_of_thins (h : b.Thins c) : c.entriesLeft ≤ b.entriesLeft :=
  Nat.add_le_add h.1.length_le h.2.length_le

/-- A stow granted to a dish on the list takes it off. -/
theorem grants_grantStow {d : DishId} (listed : d ∈ b.account.stowq) : b.Grants (b.grantStow d) := by
  have shorter : (b.account.stowq.filter (· != d)).length < b.account.stowq.length :=
    List.length_filter_lt_length_iff_exists.mpr ⟨d, listed, by simp⟩
  have waits := (waitq_grantStow b d).length_le
  refine .inr ?_
  rw [Block.entriesLeft, Block.entriesLeft, stowq_grantStow]
  omega

theorem grants_examineStow (b : Block) : b.Grants b.examineStow := by
  unfold Block.examineStow
  split
  · refine each_holds (b.Grants ·) allDishes _ (fun d s grants => grants_trans grants ?_) b (.inl rfl)
    split
    · next tried =>
      rw [Bool.and_eq_true, List.contains_iff_mem] at tried
      exact grants_grantStow tried.1
    · exact .inl rfl
  · exact .inl rfl

section
variable {e : WaitEntry} {rest : List WaitEntry} (head : b.account.waitq = e :: rest)
include head

theorem waitq_grantHead : (b.grantHead e).account.waitq.length ≤ rest.length := (thins_grantHead head).1.length_le

theorem grants_grantHead : b.Grants (b.grantHead e) := by
  have left := entriesLeft_of_thins (thins_grantHead head)
  refine .inr (Nat.lt_of_le_of_lt left ?_)
  simp [Block.entriesLeft, Block.behind, head]

theorem examineQueue_stops (short : b.motionFits e.wants = false) (n : Nat) : b.examineQueue n = b := by
  cases n with
  | zero => rfl
  | succ n => simp only [Block.examineQueue, head, short, Bool.false_eq_true, if_false]

theorem examineQueue_grants (fits : b.motionFits e.wants = true) (n : Nat) :
    b.examineQueue (n + 1) = (b.grantHead e).examineQueue n := by
  simp only [Block.examineQueue, head, fits, if_true]

end

theorem examineQueue_empty (empty : b.account.waitq = []) (n : Nat) : b.examineQueue n = b := by
  cases n with
  | zero => rfl
  | succ n => simp only [Block.examineQueue, empty]

theorem grants_examineQueue (b : Block) (n : Nat) : b.Grants (b.examineQueue n) := by
  induction n generalizing b with
  | zero => exact .inl rfl
  | succ n ih =>
    cases head : b.account.waitq with
    | nil => exact .inl (examineQueue_empty head _)
    | cons e rest =>
      cases fits : b.motionFits e.wants with
      | false => exact .inl (examineQueue_stops head fits _)
      | true =>
        rw [examineQueue_grants head fits]
        exact grants_trans (grants_grantHead head) (ih _)

/-- Tried as often as it has entries, the wait queue ends empty or with a head that does not fit. -/
theorem examineQueue_ends (n : Nat) (enough : b.account.waitq.length ≤ n) {e : WaitEntry} {rest : List WaitEntry}
    (left : (b.examineQueue n).account.waitq = e :: rest) : (b.examineQueue n).motionFits e.wants = false := by
  induction n generalizing b with
  | zero =>
    have empty : b.account.waitq = [] := List.length_eq_zero_iff.mp (Nat.le_zero.mp enough)
    exact absurd (empty.symm.trans left) (List.cons_ne_nil _ _).symm
  | succ n ih =>
    cases head : b.account.waitq with
    | nil =>
      rw [examineQueue_empty head] at left
      exact absurd (head.symm.trans left) (List.cons_ne_nil _ _).symm
    | cons x xs =>
      cases fits : b.motionFits x.wants with
      | false =>
        rw [examineQueue_stops head fits] at left ⊢
        obtain ⟨rfl, -⟩ := List.cons.inj (head.symm.trans left)
        exact fits
      | true =>
        rw [examineQueue_grants head fits] at left ⊢
        have behind := waitq_grantHead head
        rw [head, List.length_cons] at enough
        exact ih (by omega) left

/-- No examination is called for. -/
def Block.undue (b : Block) : Block := { b with account := { b.account with examineDue := false } }

/-- One examination grants nothing and calls for no other, or takes an entry away. -/
theorem grants_examineOnce (b : Block) : b.undue.Grants b.examineOnce := by
  have stows := grants_examineStow b.undue
  have once : b.examineOnce = if b.undue.examineStow.account.stowq = []
      then b.undue.examineStow.examineQueue b.undue.examineStow.account.waitq.length else b.undue.examineStow := rfl
  rw [once]
  split
  · exact grants_trans stows (grants_examineQueue ..)
  · exact stows

/-- Examined once more than it has entries, a block calls for no other examination. -/
theorem examineAll_ends (n : Nat) (enough : b.entriesLeft < n) : (b.examineAll n).account.examineDue = false := by
  induction n generalizing b with
  | zero => exact absurd enough (Nat.not_lt_zero _)
  | succ n ih =>
    cases due : b.account.examineDue with
    | false => simp [Block.examineAll, due]
    | true =>
      have again : b.examineAll (n + 1) = b.examineOnce.examineAll n := by simp [Block.examineAll, due]
      rw [again]
      obtain same | less := grants_examineOnce b
      · have quiet : b.examineOnce.account.examineDue = false := by rw [same]; rfl
        cases n with
        | zero => exact quiet
        | succ n => simp [Block.examineAll, quiet]
      · have within : b.undue.entriesLeft = b.entriesLeft := rfl
        exact ih (by omega)

theorem examine_due (due : b.account.examineDue = true) : ∃ n, b.examine = b.examineOnce.examineAll n :=
  ⟨b.account.waitq.length + b.account.stowq.length, by simp [Block.examine, Block.examineAll, due]⟩

/-- Each stow entry in turn, by its own fit test. -/
theorem examineStow_stow (stow : b.weather.level = .stow) : b.examineStow = allDishes.foldl
    (fun s d => if d ∈ s.account.stowq ∧ s.stowFits d = true then s.grantStow d else s) b := by
  unfold Block.examineStow Block.each
  rw [if_pos stow]
  congr 1
  funext s d
  simp

end

end Sys2Proof.Machine
end

-- ==== The statement on asking for power ====
section
/-! The fit test, the request, the examination, the stow request, and the head of the queue by its requester. -/

open Sys2Proof

namespace Sys2Proof.Machine

section
variable {b : Block}

/-! ### The fit test of motion (R73) -/

theorem motionFits_over {ws : List Want} (policy : b.site.cfg.policy = .motionOverMelt) : b.motionFits ws = true
    ↔ (total ws : Int) ≤ b.account.breq - b.otherTotal ws - min b.heatTotal b.site.cfg.hmin := by
  simp only [Block.motionFits, Block.heatAgainst, policy, decide_eq_true_eq]
  omega

theorem motionFits_under {ws : List Want} (policy : b.site.cfg.policy = .meltFirst) : b.motionFits ws = true
    ↔ (total ws : Int) ≤ b.account.breq - b.otherTotal ws - b.heatTotal := by
  simp only [Block.motionFits, Block.heatAgainst, policy, decide_eq_true_eq]
  omega

/-! ### One examination (R76) -/

theorem examineOnce_stows (left : b.undue.examineStow.account.stowq ≠ []) : b.examineOnce = b.undue.examineStow :=
  if_neg left

theorem examineOnce_queue (none : b.undue.examineStow.account.stowq = []) :
    let after := b.undue.examineStow.examineQueue b.undue.examineStow.account.waitq.length
    b.examineOnce = after ∧ ∀ e rest, after.account.waitq = e :: rest → after.motionFits e.wants = false :=
  ⟨if_pos none, fun _ _ left => examineQueue_ends _ le_rfl left⟩

/-! ### A stow entry (R77, R78) -/

theorem stow_granted (b : Block) (d : DishId) :
    let w := (b.axis d .el).cfg.pstow
    let free := b.axisLocks d .el = 0 ∧ b.site.estop = false ∧ (b.axis d .el).state ≠ .offline
      ∧ (b.axis d .el).state ≠ .faulted ∧ (b.axis d .el).state ≠ .locked
    let u := b.grantStow d
    (b.stowFits d = true ↔ w + (b.claimTotal - b.claimWatts d .el) ≤ b.account.breq)
    ∧ u.account.stowq = b.account.stowq.filter (· != d)
    ∧ (free → u.claim d .el = some ⟨.stow, w⟩ ∧ (u.axis d .el).need = some ⟨.stow, some w⟩)
    ∧ (¬free → u.claim d .el = none ∧ (u.axis d .el).need = (b.axis d .el).need) := by
  intro w free u
  obtain ⟨taken, refused⟩ := grantStow_row b d
  exact ⟨stowFits_iff b d, stowq_grantStow b d, fun h => taken (needRefused_none.mpr h),
    fun h => refused fun none => h (needRefused_none.mp none)⟩

theorem stow_asked (b : Block) (d : DishId) :
    let entered := { b with account := { b.account with
      stowq := allDishes.filter fun x => x == d || b.account.stowq.contains x, examineDue := true } }
    (b.weather.level ≠ .stow → b.askStow d = b)
    ∧ (b.weather.level = .stow →
      (d ∈ b.account.stowq → b.askStow d = b) ∧ (d ∉ b.account.stowq → b.askStow d = entered.examineStow)) := by
  intro entered
  refine ⟨askStow_off b d, fun stow => ⟨askStow_kept b d, fun fresh => ?_⟩⟩
  have enters : b.enterStow d = entered := if_neg (by simpa using fresh)
  rw [askStow_new b d stow fresh, enters]

theorem shares_under (b : Block) (m : Mover) (n : Nat) (ws : List Want) :
    (b.sharesUnder m n ws).az.rate = (b.sharesAt m n).az.rate
    ∧ (b.sharesUnder m n ws).el.rate = (b.sharesAt m n).el.rate
    ∧ ∀ wa we, ws = [⟨m.1, .az, wa⟩, ⟨m.1, .el, we⟩] →
      (b.sharesUnder m n ws).az.claim = wa ∧ (b.sharesUnder m n ws).el.claim = we := by
  refine ⟨rfl, rfl, ?_⟩
  rintro wa we rfl
  exact ⟨wanted_dishWants m.1 wa we .az, wanted_dishWants m.1 wa we .el⟩

/-! ### The head of the queue (R54) -/

section
variable {e : WaitEntry} {rest : List WaitEntry} (head : b.account.waitq = e :: rest)
include head

/-- The head of one axis: its hold claim, and the axis on its way to the beacon (R6). -/
theorem head_axis {d : DishId} {k : AxisKind} {w : Nat} (who : e.who = .axis d k) (wants : e.wants = [⟨d, k, w⟩]) :
    (b.grantHead e).claim d k = some ⟨.motion, w⟩ ∧ ((b.grantHead e).axis d k).stage = .beacon := by
  rw [grantHead_axis head who, wants]
  have claim := claim_grant_one (b.behind rest) .motion d k w
  refine ⟨claim, ?_⟩
  simp [modAxis_eq]

/-- The head of a dish: a HOLD's or a TRACK's shares on both axes (R26, R30). -/
theorem head_dish {d : DishId} {wa we : Nat} (wants : e.wants = dishWants d wa we) :
    let ready := b.site.estop = false ∧ ∀ k, b.axisLocks d k = 0 ∧ (b.axis d k).state ≠ .offline
      ∧ (b.axis d k).state ≠ .faulted ∧ (b.axis d k).state ≠ .locked
    let u := b.grantHead e
    (e.who = .hold d → (u.dish d).pendingReq = none ∧ (u.dish d).mode = (b.dish d).mode
      ∧ (ready → b.Serves u d .hold wa we))
    ∧ (e.who = .track d → (u.dish d).pendingReq = none
      ∧ (ready → (u.dish d).mode = .tracking ∧ b.Serves u d .track wa we)
      ∧ ((∃ k, 0 < b.axisLocks d k) → (u.dish d).mode = .idle)) := by
  intro ready u
  have answer (k : AxisKind) : ((b.behind rest).grant (dishWants d wa we) .motion).needRefused d k = b.needRefused d k :=
    needRefused_grant ..
  have dishes : ((b.behind rest).grant (dishWants d wa we) .motion).dishes = b.dishes := (grant_kept ..).2.1
  refine ⟨fun who => ?_, fun who => ?_⟩
  · obtain ⟨pending, mode, shares⟩ := takeHold_row ((b.behind rest).grant (dishWants d wa we) .motion) d wa we
    rw [← wants, ← grantHead_hold head who] at pending mode shares
    rw [wants, (sameDishes_of_dishes dishes).2] at mode
    refine ⟨pending, mode, fun all => serves_of_shares (b := b.behind rest) ?_⟩
    rw [wants] at shares
    exact shares fun k => (answer k).trans (ready_iff.mpr all k)
  · obtain ⟨pending, shares, lost⟩ := takeTrack_row ((b.behind rest).grant (dishWants d wa we) .motion) d wa we .grant
    rw [← wants, ← grantHead_track head who] at pending shares lost
    rw [wants] at shares lost
    refine ⟨pending, fun all => ?_, fun ⟨k, locked⟩ => lost ⟨k, ?_⟩⟩
    · obtain ⟨mode, shared⟩ := shares fun k => (answer k).trans (ready_iff.mpr all k)
      exact ⟨mode, serves_of_shares (b := b.behind rest) shared⟩
    · rw [answer, ne_eq, needRefused_none]
      omega

/-- The head of an internal move: the duration found, or the limit, and its shares delivered (R54, R64). -/
theorem head_move {d : DishId} {m : InternalMove} (who : e.who = .internal d) (found : b.move d = some m) :
    let p := (b.behind rest).planGrant [(d, m.plan)] m.n0 6000 e.wants
    let v := (b.behind rest).grant p.2 .motion
    let sh := v.sharesUnder (d, m.plan) p.1 p.2
    let u := v.setMove d (some { m with phase := .starting, nStar := some p.1, grant := some sh })
    let az := u.deliverNeed d .az ⟨.internal, some sh.az.claim⟩
    let el := az.1.deliverNeed d .el ⟨.internal, some sh.el.claim⟩
    (az.2 = none → el.2 = none → b.grantHead e = el.1)
    ∧ (az.2 ≠ none ∨ el.2 ≠ none → b.grantHead e = el.1.loseMove d) := by
  intro p v
  have planner : v.planner = b.planner := (grant_kept (b.behind rest) p.2 .motion).2.2.1
  have moving : v.move d = some m := by
    rw [← found]
    simp only [Block.move, planner]
  rw [grantHead_move head who found]
  exact takeMove_row v d moving p.1 p.2

/-- The head of a group: the duration found, or the limit, recorded with each member's shares, and delivered (R54,
R55). -/
theorem head_group {g : GroupId} {x : Group} (who : e.who = .group g) (found : b.group g = some x) :
    let p := (b.behind rest).planGrant x.movers (x.n0.getD 20) x.limit e.wants
    let v := (b.behind rest).grant p.2 .motion
    b.grantHead e = (v.recordGrant g p.1 p.2).deliverGroup g
    ∧ (v.recordGrant g p.1 p.2).group g = some { x with
        state := .starting, nStar := some p.1, total := some (p.2.map (·.watts)).sum
        members := x.members.map fun m => match m.plan with
          | some q => { m with grant := some (v.sharesUnder (m.dish, q) p.1 p.2) }
          | none => m } := by
  intro p v
  have planner : v.planner = b.planner := (grant_kept (b.behind rest) p.2 .motion).2.2.1
  have stands : v.group g = some x := by
    rw [← found]
    simp only [Block.group, planner]
  refine ⟨grantHead_group head who found, ?_⟩
  unfold Block.recordGrant
  rw [stands]
  exact (group_tellGroup ..).trans ((group_setGroup ..).trans (if_pos rfl))

end

end

/-- Settles O31: the fit test and the request by their definitions; the examination by what it grants; the head of the
queue by its requester. -/
theorem askingForPower : Obligations.AskingForPower := by
  refine ⟨fun b ws => ⟨motionFits_over, motionFits_under⟩, fun b who ws undue => ⟨askPower_full undue who ws, fun room =>
    ⟨askPower_queues undue who ws room, askPower_grants undue who ws⟩⟩, ?_⟩
  intro b taken stows after
  refine ⟨examine_id, examine_due, examineAll_ends _ (Nat.lt_succ_self _), examineStow_off taken,
    examineStow_stow (b := taken), examineOnce_stows, examineOnce_queue, stow_granted b, stow_asked b, shares_under b,
    fun n empty => examineQueue_empty empty n, fun e rest n head => ?_⟩
  refine ⟨fun short => examineQueue_stops head short n, fun fits => examineQueue_grants head fits n,
    waitq_grantHead head, fun d k w who wants => head_axis head who wants, ?_⟩
  intro left g plan
  refine ⟨fun d wa we who wants => ?_, fun d k who => ?_, fun d who lacks => grantHead_noMove head who lacks,
    fun d m who found => head_move head who found, fun i who lacks => grantHead_noGroup head who lacks,
    fun i x who found => head_group head who found⟩
  · obtain ⟨hold, track⟩ := head_dish head (wants : e.wants = dishWants d wa we)
    intro ready u served
    refine ⟨?_, fun own => (hold own).2, fun own => (track own).2⟩
    obtain own | own := who
    · exact (hold own).1
    · exact (track own).1
  · rw [grantHead_axis head who, modAxis_eq]
    rfl

end Sys2Proof.Machine
end

-- ==== R29's and R31's tables as equations ====
section
/-! What the end of a dish's work makes of each of its axes, of its claim and of its park request. -/

open Sys2Proof

namespace Sys2Proof.Machine

/-! ### Held after an end (R29) -/

/-- An axis held for its dish after an end. -/
def Axis.heldAfter (a : Axis) : Axis :=
  let held := { a with need := some ⟨.hold, none⟩ }
  match a.state with
  | .moving => { held.ordered .stop with intent := .hold }.entered .stopping
  | .held | .testing | .releasing | .engaging => held
  | .braked => if a.stage = .none then a else held
  | .stopping => { held with intent := .hold }
  | _ => a

/-- The states whose claim falls to P_hold after an end. -/
def Axis.lowers (a : Axis) : Bool :=
  match a.state with
  | .held | .testing | .releasing => true
  | .braked => a.stage != .none
  | _ => false

/-- A claim that falls to P_hold. -/
def Axis.lowered (a : Axis) (c : Option Claim) : Option Claim := c.map fun c => { c with watts := min c.watts a.cfg.phold }

section
variable (b : Block) (d e : DishId) (k j : AxisKind)

/-- An axis is passed over by R29's table where it is lost or the latch is set. -/
def Block.passedOver (b : Block) (d : DishId) (k : AxisKind) : Bool := b.axisLost d k || b.site.estop

variable {b d k} in
theorem holdAfterEnd_passed (h : b.passedOver d k = true) : b.holdAfterEnd d k = b := if_pos h

/-- R29's table on an axis and on its claim. -/
theorem holdAfterEnd_own (h : b.passedOver d k = false) : (b.holdAfterEnd d k).axis d k = (b.axis d k).heldAfter
    ∧ (b.holdAfterEnd d k).claim d k
      = if (b.axis d k).lowers = true then (b.axis d k).lowered (b.claim d k) else b.claim d k := by
  obtain ⟨free, clear⟩ : b.axisLost d k = false ∧ b.site.estop = false := by simpa [Block.passedOver] using h
  cases state : (b.axis d k).state with
  | moving =>
    rw [holdAfterEnd_moving free clear state]
    simp [needHold_eq, Axis.heldAfter, Axis.lowers, state]
  | held | testing | releasing =>
    rw [holdAfterEnd_held free clear (by simp [state])]
    simp [needHold_eq, reduceToHold_eq, Axis.heldAfter, Axis.lowers, state, Axis.lowered]
  | braked =>
    by_cases unstaged : (b.axis d k).stage = .none
    · rw [holdAfterEnd_left (.inr ⟨state, unstaged⟩)]
      simp [Axis.heldAfter, Axis.lowers, state, unstaged]
    · rw [holdAfterEnd_held free clear (by simp [state, unstaged])]
      simp [needHold_eq, reduceToHold_eq, Axis.heldAfter, Axis.lowers, state, Axis.lowered, unstaged]
  | stopping =>
    rw [holdAfterEnd_stopping free clear state]
    simp [Axis.heldAfter, Axis.lowers, state]
  | engaging =>
    rw [holdAfterEnd_engaging free clear state]
    simp [needHold_eq, Axis.heldAfter, Axis.lowers, state]
  | offline | faulted | locked => simp [Block.axisLost, state, AxisState.lost] at free

/-- R29's table leaves every other axis and claim. -/
theorem holdAfterEnd_other (other : ¬(d = e ∧ k = j)) :
    (b.holdAfterEnd d k).axis e j = b.axis e j ∧ (b.holdAfterEnd d k).claim e j = b.claim e j := by
  unfold Block.holdAfterEnd
  simp only []
  (repeat' split) <;> simp [needHold_eq, reduceToHold_eq, modAxis_eq, other]

theorem passedOver_holdAfterEnd : (b.holdAfterEnd d .az).passedOver d .el = b.passedOver d .el := by
  have axis := (holdAfterEnd_other b d d .az .el (by simp)).1
  obtain ⟨-, -, -, -, -, -, site, -, -, -, -, -, -, -, -, -, -, locks, -⟩ := outer_of_beside (beside_holdAfterEnd b d .az)
  simp only [Block.passedOver, Block.axisLost, axis, locks, site]

/-- R29's table on both axes of a dish. -/
theorem holdBoth_own : (b.passedOver d k = true → (b.holdBoth d).axis d k = b.axis d k
      ∧ (b.holdBoth d).claim d k = b.claim d k)
    ∧ (b.passedOver d k = false → (b.holdBoth d).axis d k = (b.axis d k).heldAfter
      ∧ (b.holdBoth d).claim d k
        = if (b.axis d k).lowers = true then (b.axis d k).lowered (b.claim d k) else b.claim d k) := by
  have both : b.holdBoth d = (b.holdAfterEnd d .az).holdAfterEnd d .el := rfl
  rw [both]
  cases k with
  | az =>
    obtain ⟨axis, claim⟩ := holdAfterEnd_other (b.holdAfterEnd d .az) d d .el .az (by simp)
    rw [axis, claim]
    exact ⟨fun passed => by rw [holdAfterEnd_passed passed]; exact ⟨rfl, rfl⟩, holdAfterEnd_own b d .az⟩
  | el =>
    obtain ⟨axis, claim⟩ := holdAfterEnd_other b d d .az .el (by simp)
    have own := holdAfterEnd_own (b.holdAfterEnd d .az) d .el
    rw [passedOver_holdAfterEnd, axis, claim] at own
    refine ⟨fun passed => ?_, own⟩
    rw [holdAfterEnd_passed ((passedOver_holdAfterEnd b d).trans passed), axis, claim]
    exact ⟨rfl, rfl⟩

/-- R29's table on a dish leaves every other dish's axes and claims. -/
theorem holdBoth_other (other : d ≠ e) :
    (b.holdBoth d).axis e j = b.axis e j ∧ (b.holdBoth d).claim e j = b.claim e j := by
  obtain ⟨axis, claim⟩ := holdAfterEnd_other b d e .az j (fun same => other same.1)
  obtain ⟨axis', claim'⟩ := holdAfterEnd_other (b.holdAfterEnd d .az) d e .el j (fun same => other same.1)
  exact ⟨axis'.trans axis, claim'.trans claim⟩

end

end Sys2Proof.Machine
end

-- ==== ABORT_GROUP and a group aborted (R62) ====
section
/-! A group aborted: its record ends, its dishes leave it, and each member handed over is IDLE with its axes held. -/

open Sys2Proof

namespace Sys2Proof.Machine

/-! ### An axis held for its dish -/

/-- What R29's table makes of an axis that it does not pass over. -/
def Block.Holding (b t : Block) (d : DishId) (k : AxisKind) : Prop :=
  let old := b.axis d k
  let a := t.axis d k
  let low := ∀ c, t.claim d k = some c → c.watts ≤ old.cfg.phold
  b.site.estop = false → b.axisLost d k = false →
    (old.state = .moving → a.state = .stopping ∧ a.intent = .hold)
    ∧ (old.state = .stopping → a.state = .stopping ∧ a.intent = .hold)
    ∧ (old.state = .held ∨ old.state = .testing ∨ old.state = .releasing → a.state = old.state ∧ low)
    ∧ (old.state = .engaging → a.state = .engaging)
    ∧ (old.state = .braked → old.stage ≠ .none → a.state = .braked ∧ a.stage = old.stage ∧ low)
    ∧ (old.state = .braked → old.stage = .none → a = old)
    ∧ (old.state ≠ .braked ∨ old.stage ≠ .none → a.need = some ⟨.hold, none⟩)

theorem lowered_le {a : Axis} {x : Option Claim} {c : Claim} (h : a.lowered x = some c) : c.watts ≤ a.cfg.phold := by
  obtain ⟨c', -, rfl⟩ := Option.map_eq_some_iff.mp h
  exact Nat.min_le_right ..

/-- An axis whose claim falls to P_hold does not engage. -/
theorem heldAfter_lowers {a : Axis} (low : a.lowers = true) : a.heldAfter.state ≠ .engaging := by
  unfold Axis.heldAfter
  cases state : a.state <;> simp_all [Axis.lowers]

section
variable {b t : Block} {d : DishId} {k : AxisKind}

theorem holding_of_row (axis : b.passedOver d k = false → t.axis d k = (b.axis d k).heldAfter)
    (claim : b.passedOver d k = false → (b.axis d k).lowers = true →
      t.claim d k = (b.axis d k).lowered (b.claim d k)) : b.Holding t d k := by
  intro clear free
  have open_ : b.passedOver d k = false := by simp [Block.passedOver, free, clear]
  have row := axis open_
  have fallen (h : (b.axis d k).lowers = true) (c : Claim) (hc : t.claim d k = some c) :
      c.watts ≤ (b.axis d k).cfg.phold := lowered_le ((claim open_ h).symm.trans hc)
  have present : (b.axis d k).state.lost = false := by
    simp only [Block.axisLost, Bool.or_eq_false_iff] at free
    exact free.1
  refine ⟨fun h => ?_, fun h => ?_, fun h => ?_, fun h => ?_, fun h staged => ?_, fun h unstaged => ?_, fun h => ?_⟩
  · simp [row, Axis.heldAfter, h]
  · simp [row, Axis.heldAfter, h]
  · refine ⟨?_, fallen ?_⟩
    · rcases h with h | h | h <;> simp [row, Axis.heldAfter, h]
    · rcases h with h | h | h <;> simp [Axis.lowers, h]
  · simp [row, Axis.heldAfter, h]
  · exact ⟨by simp [row, Axis.heldAfter, h, staged], by simp [row, Axis.heldAfter, h, staged],
      fallen (by simp [Axis.lowers, h, staged])⟩
  · simp [row, Axis.heldAfter, h, unstaged]
  · rw [row, Axis.heldAfter]
    cases state : (b.axis d k).state <;> simp_all [AxisState.lost]

end

/-! ### One dish alike in two states -/

/-- A dish's axes, claims and mode stand, and the ground. -/
structure Block.Alike (b : Block) (d : DishId) (t : Block) : Prop where
  axis : ∀ k, t.axis d k = b.axis d k
  claim : ∀ k, t.claim d k = b.claim d k
  mode : (t.dish d).mode = (b.dish d).mode
  ground : t.ground = b.ground

section
variable {b s t : Block} {d e : DishId}

theorem alike_trans (h : b.Alike d s) (h' : s.Alike d t) : b.Alike d t :=
  ⟨fun k => (h'.axis k).trans (h.axis k), fun k => (h'.claim k).trans (h.claim k), h'.mode.trans h.mode,
    h'.ground.trans h.ground⟩

theorem passedOver_alike (h : b.Alike d t) (k : AxisKind) : t.passedOver d k = b.passedOver d k := by
  obtain ⟨-, -, -, -, -, site, -, -, -, -, -, -, -, -, locks, -⟩ := sameGround_of_ground h.ground
  simp only [Block.passedOver, Block.axisLost, h.axis k, locks, site]

theorem alike_holdBoth (b : Block) (other : e ≠ d) : b.Alike d (b.holdBoth e) := by
  have row (k : AxisKind) := holdBoth_other b e d k other
  exact ⟨fun k => (row k).1, fun k => (row k).2, (congrArg Dish.mode (dish_of_beside (beside_holdBoth b e) d) :),
    ground_holdBoth ..⟩

theorem alike_setMode (b : Block) (other : e ≠ d) (m : Mode) (why : ModeCause) : b.Alike d (b.setMode e m why) := by
  have axes := (sameAxes_of_axes (setMode_kept b e m why).1).2
  have claims : (b.setMode e m why).claim = b.claim := by
    funext e' k
    simp only [Block.claim, (setMode_kept b e m why).2.1]
  exact ⟨fun k => by rw [axes], fun k => by rw [claims], by rw [dish_setMode, if_neg other],
    (setMode_kept b e m why).2.2.2⟩

end

/-! ### The members of an aborted group (R62) -/

/-- The shares of a dish's engaging axes fall to P_hold. -/
def Block.cutBoth (b : Block) (d : DishId) : Block := b.bothAxes fun k u => u.cutEngaging d k

/-- One member of an aborted group: IDLE with its axes held, where it was handed over. -/
def Block.releaseMember (m : Member) (s : Block) : Block :=
  if (s.dish m.dish).mode = .slewWait ∨ (s.dish m.dish).mode = .slewing then
    ((s.holdBoth m.dish).cutBoth m.dish).setMode m.dish .idle .group
  else s

theorem releaseMembers_eq (b : Block) (ms : List Member) : b.releaseMembers ms = b.each ms Block.releaseMember := rfl

section
variable (b : Block) (d e : DishId) (k j : AxisKind)

theorem cutEngaging_kept : (b.cutEngaging d k).axes = b.axes ∧ (b.cutEngaging d k).beside = b.beside
    ∧ (b.cutEngaging d k).account.waitq = b.account.waitq ∧ (b.cutEngaging d k).dishes = b.dishes := by
  have beside : (b.cutEngaging d k).beside = b.beside := by
    unfold Block.cutEngaging
    split
    · exact beside_reduceToHold b d k
    · rfl
  refine ⟨?_, beside, ?_, ?_⟩
  all_goals
    unfold Block.cutEngaging
    split <;> simp [reduceToHold_eq]

theorem claim_cutEngaging : (b.cutEngaging d k).claim e j = if d = e ∧ k = j ∧ (b.axis d k).state = .engaging then
    (b.axis d k).lowered (b.claim d k) else b.claim e j := by
  unfold Block.cutEngaging
  by_cases engaging : (b.axis d k).state = .engaging <;> simp [engaging, reduceToHold_eq, Axis.lowered]

theorem cutBoth_kept : (b.cutBoth d).axes = b.axes ∧ (b.cutBoth d).beside = b.beside
    ∧ (b.cutBoth d).account.waitq = b.account.waitq ∧ (b.cutBoth d).dishes = b.dishes := by
  obtain ⟨axes, beside, waits, dishes⟩ := cutEngaging_kept b d .az
  obtain ⟨axes', beside', waits', dishes'⟩ := cutEngaging_kept (b.cutEngaging d .az) d .el
  exact ⟨axes'.trans axes, beside'.trans beside, waits'.trans waits, dishes'.trans dishes⟩

theorem claim_cutBoth : (b.cutBoth d).claim e j = if d = e ∧ (b.axis d j).state = .engaging then
    (b.axis d j).lowered (b.claim d j) else b.claim e j := by
  have axis : (b.cutEngaging d .az).axis = b.axis := (sameAxes_of_axes (cutEngaging_kept b d .az).1).2
  have cut : b.cutBoth d = (b.cutEngaging d .az).cutEngaging d .el := rfl
  rw [cut]
  simp only [claim_cutEngaging, axis]
  by_cases own : d = e
  · subst own
    cases j <;> simp
  · simp [own]

end

section
variable {b s : Block} {d : DishId} {m : Member}

theorem alike_cutBoth (b : Block) {e : DishId} (other : e ≠ d) : b.Alike d (b.cutBoth e) := by
  obtain ⟨axes, beside, -, dishes⟩ := cutBoth_kept b e
  refine ⟨fun k => by rw [(sameAxes_of_axes axes).2], fun k => ?_, by rw [(sameDishes_of_dishes dishes).2],
    ground_of_beside beside⟩
  rw [claim_cutBoth, if_neg fun own => other own.1]

/-- The release of another member leaves a dish. -/
theorem alike_releaseMember (other : m.dish ≠ d) : s.Alike d (s.releaseMember m) := by
  unfold Block.releaseMember
  split
  · exact alike_trans (alike_trans (alike_holdBoth s other) (alike_cutBoth _ other)) (alike_setMode _ other _ _)
  · exact ⟨fun _ => rfl, fun _ => rfl, rfl, rfl⟩

/-- A member released: IDLE where it was handed over, its axes held, the share of an engaging one at P_hold. -/
theorem releaseMember_row (same : b.Alike m.dish s) :
    let t := s.releaseMember m
    let slewing := (b.dish m.dish).mode = .slewWait ∨ (b.dish m.dish).mode = .slewing
    (slewing → (t.dish m.dish).mode = .idle ∧ ∀ k, b.Holding t m.dish k
      ∧ ((b.axis m.dish k).state = .engaging → ∀ c, t.claim m.dish k = some c → c.watts ≤ (b.axis m.dish k).cfg.phold))
    ∧ (¬slewing → (t.dish m.dish).mode = (b.dish m.dish).mode ∧ ∀ k, t.axis m.dish k = b.axis m.dish k) := by
  intro t slewing
  refine ⟨fun h => ?_, fun h => ?_⟩
  · have released : t = ((s.holdBoth m.dish).cutBoth m.dish).setMode m.dish .idle .group := if_pos (by rwa [same.mode])
    have axis (k : AxisKind) : t.axis m.dish k = (s.holdBoth m.dish).axis m.dish k := by
      rw [released, (sameAxes_of_axes (setMode_kept ..).1).2, (sameAxes_of_axes (cutBoth_kept ..).1).2]
    have claim (k : AxisKind) : t.claim m.dish k = ((s.holdBoth m.dish).cutBoth m.dish).claim m.dish k := by
      rw [released]
      simp only [Block.claim, (setMode_kept ..).2.1]
    refine ⟨by simp [released], fun k => ?_⟩
    obtain ⟨passed, taken⟩ := holdBoth_own s m.dish k
    rw [passedOver_alike same, same.axis, same.claim] at passed taken
    have cut := claim_cutBoth (s.holdBoth m.dish) m.dish m.dish k
    refine ⟨holding_of_row (fun free => (axis k).trans (taken free).1) fun free low => ?_, fun engaging c hc => ?_⟩
    · rw [claim, cut, if_neg, (taken free).2, if_pos low]
      rintro ⟨-, engages⟩
      rw [(taken free).1] at engages
      exact heldAfter_lowers low engages
    · have stands : ((s.holdBoth m.dish).axis m.dish k).state = .engaging
          ∧ ((s.holdBoth m.dish).axis m.dish k).cfg = (b.axis m.dish k).cfg := by
        cases over_ : b.passedOver m.dish k with
        | true =>
          rw [(passed over_).1]
          exact ⟨engaging, rfl⟩
        | false =>
          rw [(taken over_).1]
          simp [Axis.heldAfter, engaging]
      rw [claim, cut, if_pos ⟨rfl, stands.1⟩] at hc
      exact stands.2 ▸ lowered_le hc
  · have left : t = s := if_neg (by rwa [same.mode])
    rw [left]
    exact ⟨same.mode, same.axis⟩

theorem holding_of_alike {k : AxisKind} {t : Block} (h : b.Holding s d k) (same : s.Alike d t) : b.Holding t d k := by
  unfold Block.Holding
  simp only [same.axis k, same.claim k]
  exact h

/-- Each member of a list is released once. -/
theorem releaseMembers_row {ms : List Member} (apart : (ms.map (·.dish)).Nodup) (mem : m ∈ ms) (same : b.Alike m.dish s) :
    let t := s.releaseMembers ms
    let slewing := (b.dish m.dish).mode = .slewWait ∨ (b.dish m.dish).mode = .slewing
    (slewing → (t.dish m.dish).mode = .idle ∧ ∀ k, b.Holding t m.dish k
      ∧ ((b.axis m.dish k).state = .engaging → ∀ c, t.claim m.dish k = some c → c.watts ≤ (b.axis m.dish k).cfg.phold))
    ∧ (¬slewing → (t.dish m.dish).mode = (b.dish m.dish).mode ∧ ∀ k, t.axis m.dish k = b.axis m.dish k) := by
  rw [releaseMembers_eq]
  refine each_once Member.dish (b.Alike m.dish) (fun t =>
    let slewing := (b.dish m.dish).mode = .slewWait ∨ (b.dish m.dish).mode = .slewing
    (slewing → (t.dish m.dish).mode = .idle ∧ ∀ k, b.Holding t m.dish k
      ∧ ((b.axis m.dish k).state = .engaging → ∀ c, t.claim m.dish k = some c → c.watts ≤ (b.axis m.dish k).cfg.phold))
    ∧ (¬slewing → (t.dish m.dish).mode = (b.dish m.dish).mode ∧ ∀ k, t.axis m.dish k = b.axis m.dish k)) _ m
    (fun y s other before => alike_trans before (alike_releaseMember other)) (fun s before => releaseMember_row before)
    ?_ ms apart mem s same
  rintro y u other ⟨handed, left⟩
  have still : u.Alike m.dish (u.releaseMember y) := alike_releaseMember other
  refine ⟨fun h => ?_, fun h => ?_⟩
  · obtain ⟨mode, axes⟩ := handed h
    refine ⟨still.mode.trans mode, fun k => ⟨holding_of_alike (axes k).1 still, fun engaging c hc => ?_⟩⟩
    exact (axes k).2 engaging c ((still.claim k).symm.trans hc)
  · obtain ⟨mode, axes⟩ := left h
    exact ⟨still.mode.trans mode, fun k => (still.axis k).trans (axes k)⟩

/-- The release of members leaves the planner, the wait queue and the dishes' groups. -/
theorem releaseMembers_kept (s : Block) (ms : List Member) : (s.releaseMembers ms).planner = s.planner
    ∧ (s.releaseMembers ms).account.waitq = s.account.waitq
    ∧ ∀ e, ((s.releaseMembers ms).dish e).group = (s.dish e).group := by
  have one (m : Member) (u : Block) : (u.releaseMember m).planner = u.planner
      ∧ (u.releaseMember m).account.waitq = u.account.waitq
      ∧ ∀ e, ((u.releaseMember m).dish e).group = (u.dish e).group := by
    unfold Block.releaseMember
    split
    · obtain ⟨-, beside, waits, dishes⟩ := cutBoth_kept (u.holdBoth m.dish) m.dish
      have held := beside_holdBoth u m.dish
      have planner := (records_of_beside (beside.trans held)).1
      obtain ⟨-, account, planner', -⟩ := setMode_kept ((u.holdBoth m.dish).cutBoth m.dish) m.dish .idle .group
      refine ⟨planner'.trans planner, ?_, fun e => ?_⟩
      · rw [account, waits]
        exact (waitq_holdAfterEnd ..).trans (waitq_holdAfterEnd ..)
      · have dish : ((u.holdBoth m.dish).cutBoth m.dish).dish = (u.holdBoth m.dish).dish := (sameDishes_of_dishes dishes).2
        refine Eq.trans ?_ (congrArg Dish.group (dish_of_beside held e) :)
        rw [dish_setMode, dish]
        split
        · next own => rw [own]
        · rfl
    · exact ⟨rfl, rfl, fun _ => rfl⟩
  rw [releaseMembers_eq]
  refine each_holds (fun u => u.planner = s.planner ∧ u.account.waitq = s.account.waitq
    ∧ ∀ e, (u.dish e).group = (s.dish e).group) ms _ ?_ s ⟨rfl, rfl, fun _ => rfl⟩
  rintro m u ⟨planner, waits, groups⟩
  obtain ⟨planner', waits', groups'⟩ := one m u
  exact ⟨planner'.trans planner, waits'.trans waits, fun e => (groups' e).trans (groups e)⟩

end

end Sys2Proof.Machine
end

-- ==== A group's abort, as its statement has it (R62) ====
section
/-! The record of an aborted group, its dishes, its axes; and ABORT_GROUP. -/

open Sys2Proof

namespace Sys2Proof.Machine

section
variable {b : Block} {g : GroupId} {x : Group}

/-- A group's end takes its members out of it. -/
theorem ungrouped_endGroup (found : b.group g = some x) {m : Member} (mem : m ∈ x.members) (st : GroupState)
    (r : Option EndReason) (by_ : Option DishId) : ((b.endGroup g st r by_).dish m.dish).group = none := by
  unfold Block.endGroup
  rw [found]
  simp only [(sameDishes_of_dishes (tellGroup_kept ..).2.2.1).2]
  refine each_reaches (fun _ => True) (fun s => (s.dish m.dish).group = none) _ x.members m (fun _ _ _ => trivial) ?_ ?_
    mem _ trivial
  · intro s _
    simp [Block.modDish]
  · intro y s gone
    by_cases own : y.dish = m.dish <;> simp [Block.modDish, own, gone]

/-- A group ended, its entry withdrawn. -/
def Block.aborted (b : Block) (g : GroupId) (r : EndReason) (by_ : Option DishId) : Block :=
  (b.endGroup g .aborted (some r) by_).withdraw (.group g)

theorem abortGroup_eq (found : b.group g = some x) (r : EndReason) (by_ : Option DishId) :
    b.abortGroup g r by_ = if x.state = .formed then b.aborted g r by_ else (b.aborted g r by_).releaseMembers x.members := by
  unfold Block.abortGroup
  rw [found]
  rfl

theorem alike_aborted (b : Block) (g : GroupId) (r : EndReason) (by_ : Option DishId) (d : DishId) :
    b.Alike d (b.aborted g r by_) := by
  obtain ⟨axes, account, -, ground⟩ := endGroup_kept b g .aborted (some r) by_
  have left : (b.aborted g r by_).axis = (b.endGroup g .aborted (some r) by_).axis
      ∧ (b.aborted g r by_).claim = (b.endGroup g .aborted (some r) by_).claim
      ∧ (b.aborted g r by_).dish = (b.endGroup g .aborted (some r) by_).dish := by simp [Block.aborted]
  refine ⟨fun k => ?_, fun k => ?_, ?_, (ground_withdraw ..).trans ground⟩
  · rw [left.1, (sameAxes_of_axes axes).2]
  · rw [left.2.1]
    simp only [Block.claim, account]
  · rw [left.2.2]
    exact (congrArg Dish.mode (dish_endGroup ..) :)

/-- What a group's abort leaves of the planner, the wait queue and the dishes' groups. -/
theorem abortGroup_kept (found : b.group g = some x) (r : EndReason) (by_ : Option DishId) :
    let t := b.abortGroup g r by_
    t.planner = (b.endGroup g .aborted (some r) by_).planner ∧ t.waits (.group g) = false
    ∧ ∀ e, (t.dish e).group = ((b.endGroup g .aborted (some r) by_).dish e).group := by
  obtain ⟨planner, waits, groups⟩ := releaseMembers_kept (b.aborted g r by_) x.members
  have planner' : (b.aborted g r by_).planner = (b.endGroup g .aborted (some r) by_).planner := by simp [Block.aborted]
  have waits' : (b.aborted g r by_).waits (.group g) = false := waits_withdraw ..
  have dish : (b.aborted g r by_).dish = (b.endGroup g .aborted (some r) by_).dish := by simp [Block.aborted]
  intro t
  have eq : t = _ := abortGroup_eq found r by_
  rw [eq]
  split
  · exact ⟨planner', waits', fun e => by rw [dish]⟩
  · refine ⟨planner.trans planner', ?_, fun e => (groups e).trans (by rw [dish])⟩
    rw [(sameQueue_of_waitq waits).2, waits']

theorem group_abortGroup (found : b.group g = some x) (r : EndReason) (by_ : Option DishId) (e : GroupId) :
    (b.abortGroup g r by_).group e = (b.endGroup g .aborted (some r) by_).group e := by
  simp only [Block.group, (abortGroup_kept found r by_).1]

/-- A group aborted (R62). -/
theorem abortGroup_row (b : Block) (g : GroupId) (r : EndReason) (by_ : Option DishId) (x : Group)
    (found : b.group g = some x) :
    let t := b.abortGroup g r by_
    t.group g = some { x with state := .aborted, reason := some r, finishOrder := some b.planner.finished }
    ∧ (∀ h, h ≠ g → t.group h = b.group h) ∧ (∀ m ∈ x.members, (t.dish m.dish).group = none)
    ∧ t.waits (.group g) = false
    ∧ (x.state = .formed → t.axes = b.axes ∧ ∀ d, (t.dish d).mode = (b.dish d).mode)
    ∧ (x.state ≠ .formed → (x.members.map (·.dish)).Nodup → ∀ m ∈ x.members,
      let slewing := (b.dish m.dish).mode = .slewWait ∨ (b.dish m.dish).mode = .slewing
      (slewing → (t.dish m.dish).mode = .idle ∧ ∀ k, b.Holding t m.dish k
        ∧ ((b.axis m.dish k).state = .engaging → ∀ c, t.claim m.dish k = some c → c.watts ≤ (b.axis m.dish k).cfg.phold))
      ∧ (¬slewing → (t.dish m.dish).mode = (b.dish m.dish).mode ∧ ∀ k, t.axis m.dish k = b.axis m.dish k)) := by
  intro t
  have eq : t = _ := abortGroup_eq found r by_
  obtain ⟨-, waits, groups⟩ := abortGroup_kept found r by_
  refine ⟨(group_abortGroup found r by_ g).trans (group_endGroup_own found ..), fun h other => ?_, fun m mem => ?_, waits,
    fun formed => ?_, fun handed apart m mem => ?_⟩
  · rw [group_abortGroup found, group_endGroup, if_neg (Ne.symm other)]
  · exact (groups m.dish).trans (ungrouped_endGroup found mem ..)
  · rw [if_pos formed] at eq
    rw [eq]
    refine ⟨?_, fun d => (alike_aborted b g r by_ d).mode⟩
    simp [Block.aborted]
  · rw [if_neg handed] at eq
    rw [eq]
    exact releaseMembers_row apart mem (alike_aborted b g r by_ m.dish)

theorem ownAbortGroup_unfound {n : Nat} {code : Code} (h : b.useGroup n = .error code) :
    ownAbortGroup n b = refuse b code := by
  simp only [ownAbortGroup, h]

theorem ownAbortGroup_found {n : Nat} (slot : groupOf n = some g) (found : b.group g = some x) :
    ownAbortGroup n b = if x.state.live = true then done (b.abortGroup g .request none) else refuse b .state := by
  simp only [ownAbortGroup, useGroup_found slot found]

end

/-- ABORT_GROUP, by its group's slot and state (R62). -/
theorem abortGroup_asked (s : State) (tag : Tag) (n : Nat) (taken : s.takes (.abortGroup tag n)) :
    let c : Instr := .abortGroup tag n
    (groupOf n = none → exec c s = .next (s.refuses c .badValue))
    ∧ ∀ g, groupOf n = some g →
      (s.block.group g = none → exec c s = .next (s.refuses c .noSuch))
      ∧ ∀ x, s.block.group g = some x →
        (x.state.live = false → exec c s = .next (s.refuses c .state))
        ∧ (x.state.live = true →
            exec c s = .next (s.replies ((s.found c).abortGroup g .request none) .ok [])
            ∧ ((s.found c).abortGroup g .request none).group g = some { x with
                state := .aborted, reason := some .request, finishOrder := some s.block.planner.finished }) := by
  intro c
  refine ⟨fun bad => request_refused taken (ownAbortGroup_unfound (useGroup_bad bad)), fun g slot => ⟨fun empty =>
    request_refused taken (ownAbortGroup_unfound (useGroup_empty (b := s.found c) slot empty)), fun x found => ?_⟩⟩
  have own := ownAbortGroup_found (b := s.found c) slot found
  refine ⟨fun dead => request_refused taken (own.trans (if_neg (by simp [dead]))), fun live => ⟨?_, ?_⟩⟩
  · exact request_replies taken (own.trans (if_pos live))
  · exact (abortGroup_row (s.found c) g .request none x found).1

end Sys2Proof.Machine
end

-- ==== A group that loses an axis of a member (R59 to R61) ====
section
/-! A member dropped: its dish is IDLE with its axes held, and its group goes on, starts, or ends. -/

open Sys2Proof

namespace Sys2Proof.Machine

section
variable {b : Block} {g : GroupId} {d : DishId} {x : Group} {why : DropReason}

/-- A member dropped for a reason. -/
def Member.fallen (why : DropReason) (m : Member) : Member := { m with state := .dropped, drop := some why }

/-! ### What a group's start leaves -/

theorem account_startGroup (b : Block) (g : GroupId) (by_ : Option DishId) :
    (b.startGroup g by_).account = b.account := by
  by_cases ready : ∃ x, b.group g = some x ∧ x.state = .starting ∧ b.allHeld g x = true
  · obtain ⟨x, found, starting, held⟩ := ready
    obtain ⟨m, starts⟩ := startGroup_sends b g by_ found starting held
    rw [starts, (tellGroup_kept ..).2.1, sendAll_account]
    rfl
  · rw [startGroup_waits by_ fun x found h => ready ⟨x, found, h⟩]

/-- A group's start leaves the axes of the dishes dropped. -/
theorem axis_startGroup (by_ : Option DishId) (h : b.Roster g (DropsOf d why)) (k : AxisKind) :
    (b.startGroup g by_).axis d k = b.axis d k := by
  by_cases ready : ∃ x, b.group g = some x ∧ x.state = .starting ∧ b.allHeld g x = true
  · obtain ⟨x, found, starting, held⟩ := ready
    obtain ⟨m, sent⟩ := startGroup_sends b g by_ found starting held
    obtain ⟨y, found', marked⟩ := h
    obtain rfl : x = y := Option.some.inj (found.symm.trans found')
    rw [sent, (sameAxes_of_axes (tellGroup_kept ..).1).2, (sendAll_other d fun m mem => mover_of_dropsOf marked mem).2]
    rfl
  · rw [startGroup_waits by_ fun x found h => ready ⟨x, found, h⟩]

/-- A group started is RUNNING; one not started stands. -/
theorem state_startGroup (found : b.group g = some x) (by_ : Option DishId) :
    ∃ y, (b.startGroup g by_).group g = some y ∧ (y.state = x.state ∨ (x.state = .starting ∧ y.state = .running)) := by
  by_cases ready : x.state = .starting ∧ b.allHeld g x = true
  · obtain ⟨m, sent⟩ := startGroup_sends b g by_ found ready.1 ready.2
    have begun : (b.underWay g x).group g = some { x with state := .running, start := some b.moveStart } := by
      simp [Block.underWay]
    obtain ⟨y, record, same⟩ := sendAll_record (n := x.nStar.getD 20) (start := b.moveStart) (ms := x.movers) begun
    refine ⟨y, ?_, .inr ⟨ready.1, congrArg Group.state same⟩⟩
    rw [sent, group_tellGroup, record]
  · rw [startGroup_waits by_ fun y found' h => ready (Option.some.inj (found.symm.trans found') ▸ h)]
    exact ⟨x, found, .inl rfl⟩

/-! ### A member let go -/

/-- A dish alike in two states is held alike. -/
theorem holdBoth_alike {s : Block} (h : b.Alike d s) (k : AxisKind) :
    (s.holdBoth d).axis d k = (b.holdBoth d).axis d k ∧ (s.holdBoth d).claim d k = (b.holdBoth d).claim d k := by
  have passes := passedOver_alike h k
  obtain ⟨passed, clear⟩ := holdBoth_own b d k
  obtain ⟨passed', clear'⟩ := holdBoth_own s d k
  rw [passes, h.axis k, h.claim k] at passed' clear'
  cases free : b.passedOver d k with
  | true => exact ⟨(passed' free).1.trans (passed free).1.symm, (passed' free).2.trans (passed free).2.symm⟩
  | false => exact ⟨(clear' free).1.trans (clear free).1.symm, (clear' free).2.trans (clear free).2.symm⟩

theorem alike_modMember (b : Block) (g : GroupId) (d e : DishId) (f : Member → Member) : b.Alike d (b.modMember g e f) := by
  obtain ⟨axes, account, dishes, -, ground⟩ := modMember_kept b e g f
  exact ⟨fun k => by rw [(sameAxes_of_axes axes).2], fun k => by simp only [Block.claim, account],
    by rw [(sameDishes_of_dishes dishes).2], ground⟩

theorem letGo_kept (b : Block) (g : GroupId) (d : DishId) (why : DropReason) (k : AxisKind) :
    (b.letGo g d why).axis d k = (b.holdBoth d).axis d k ∧ (b.letGo g d why).claim d k = (b.holdBoth d).claim d k := by
  obtain ⟨axis, claim⟩ := holdBoth_alike (alike_modMember b g d d fun m => { m with state := .dropped, drop := some why }) k
  obtain ⟨axes, account, -⟩ := setMode_kept ((b.modMember g d fun m =>
    { m with state := .dropped, drop := some why }).holdBoth d) d .idle .group
  rw [← axis, ← claim]
  unfold Block.letGo
  exact ⟨by rw [(sameAxes_of_axes axes).2], by simp only [Block.claim, account]⟩

theorem finished_modMember (b : Block) (g : GroupId) (d : DishId) (f : Member → Member) :
    (b.modMember g d f).planner.finished = b.planner.finished := by
  unfold Block.modMember
  rw [(tellGroup_kept ..).2.2.2.1]
  rfl

theorem group_letGo (found : b.group g = some x) (d : DishId) (why : DropReason) :
    (b.letGo g d why).group g = some { x with members := changeOf d (Member.fallen why) x.members }
    ∧ (b.letGo g d why).planner.finished = b.planner.finished := by
  have planner : (b.letGo g d why).planner = (b.modMember g d (Member.fallen why)).planner := by
    unfold Block.letGo
    rw [(setMode_kept ..).2.2.1, (records_of_beside (beside_holdBoth ..)).1]
    rfl
  refine ⟨?_, ?_⟩
  · simp only [Block.group, planner]
    exact group_modMember_own found d _
  · rw [planner, finished_modMember]

/-! ### A group settled, or not -/

/-- A member whose settling may end its group: the members dropped or arrived. -/
theorem settleGroup_ends (found : b.group g = some x) (afoot : x.state = .starting ∨ x.state = .running)
    (settled : ∀ z ∈ x.members, z.active = false) (d : DishId) :
    b.settleGroup g d = b.endGroup g (if x.members.all fun m => m.state == .arrived then .done else .partly) none (some d) := by
  unfold Block.settleGroup
  rw [found]
  exact if_pos ⟨afoot, List.all_eq_true.mpr fun z mem => by simp [settled z mem]⟩

theorem settleGroup_waits (found : b.group g = some x) {z : Member} (mem : z ∈ x.members) (active : z.active = true)
    (d : DishId) : b.settleGroup g d = b := by
  unfold Block.settleGroup
  rw [found]
  refine if_neg fun h => ?_
  simpa [active] using List.all_eq_true.mp h.2 z mem

/-- The members of a changed list, one by one. -/
theorem mem_changeOf {f : Member → Member} {ms : List Member} {z : Member} : z ∈ changeOf d f ms ↔
    (∃ m ∈ ms, m.dish = d ∧ z = f m) ∨ (z ∈ ms ∧ z.dish ≠ d) := by
  unfold changeOf
  rw [List.mem_map]
  constructor
  · rintro ⟨m, mem, rfl⟩
    by_cases own : m.dish = d
    · exact .inl ⟨m, mem, own, if_pos own⟩
    · rw [if_neg own]
      exact .inr ⟨mem, own⟩
  · rintro (⟨m, mem, own, rfl⟩ | ⟨mem, other⟩)
    · exact ⟨m, mem, if_pos own⟩
    · exact ⟨z, mem, if_neg other⟩

end

/-! ### The member dropped -/

section
variable {b : Block} {g : GroupId} {d : DishId} {x : Group} {m : Member}

/-- A member dropped: its dish's axes. -/
theorem dropMember_holding (found : b.group g = some x) (listed : Lists d x.members) (why : DropReason) (k : AxisKind) :
    b.Holding (b.dropMember g d why) d k := by
  have dropped := roster_settleGroup (dropsOf_letGo (⟨x, found, listed⟩ : b.Roster g (Lists d)) why) d
  obtain ⟨axis, claim⟩ := letGo_kept b g d why k
  obtain ⟨axes, account, -⟩ := settleGroup_kept (b.letGo g d why) d g
  have axis' : (b.dropMember g d why).axis d k = (b.holdBoth d).axis d k := by
    rw [dropMember_eq, axis_startGroup _ dropped, (sameAxes_of_axes axes).2, axis]
  have claim' : (b.dropMember g d why).claim d k = (b.holdBoth d).claim d k := by
    rw [← claim, dropMember_eq]
    simp only [Block.claim, account_startGroup, account]
  refine holding_of_row (fun clear => axis'.trans ((holdBoth_own b d k).2 clear).1) fun clear low => ?_
  rw [claim', ((holdBoth_own b d k).2 clear).2, if_pos low]

/-- A member dropped: its group ends, starts, or stands. -/
theorem dropMember_group (found : b.group g = some x) (afoot : x.state = .starting ∨ x.state = .running)
    (mem : m ∈ x.members) (own : m.dish = d) (why : DropReason) :
    ∃ y, (b.dropMember g d why).group g = some y
      ∧ ((∀ z ∈ x.members, z.dish ≠ d → z.active = false) → y.state = .partly ∧ y.finishOrder = some b.planner.finished)
      ∧ ((∃ z ∈ x.members, z.dish ≠ d ∧ z.active = true) → y.state = x.state ∨ (x.state = .starting ∧ y.state = .running)) := by
  obtain ⟨left, finished⟩ := group_letGo found d why
  by_cases settled : ∀ z ∈ x.members, z.dish ≠ d → z.active = false
  · have ends := settleGroup_ends left afoot (fun z h => by
      rcases mem_changeOf.mp h with ⟨m, -, -, rfl⟩ | ⟨hz, other⟩
      · rfl
      · exact settled z hz other) d
    rw [if_neg fun all => by
      simpa [Member.fallen] using List.all_eq_true.mp all _ (mem_changeOf.mpr (.inl ⟨m, mem, own, rfl⟩))] at ends
    have record := group_endGroup_own left .partly none (some d)
    rw [← ends, finished] at record
    have stays : (b.dropMember g d why).group g = ((b.letGo g d why).settleGroup g d).group g := by
      rw [dropMember_eq, startGroup_waits _ fun y found' h => ?_]
      rw [record] at found'
      cases found'
      exact absurd h.1 nofun
    refine ⟨_, stays.trans record, fun _ => ⟨rfl, rfl⟩, fun ⟨z, hz, other, active⟩ => ?_⟩
    simp [settled z hz other] at active
  · obtain ⟨z, hz, other, active⟩ : ∃ z ∈ x.members, z.dish ≠ d ∧ z.active = true := by simpa using settled
    have waits := settleGroup_waits left (mem_changeOf.mpr (.inr ⟨hz, other⟩)) active d
    obtain ⟨y, record, state⟩ := state_startGroup left (some d)
    refine ⟨y, ?_, fun h => absurd h settled, fun _ => state⟩
    rw [dropMember_eq, waits, record]

end

end Sys2Proof.Machine
end

-- ==== A group's lost member, by the group's state (R60, R61) ====
section
/-! A lost axis drops its dish from a group under way, aborts a group on its way there, and leaves any other. -/

open Sys2Proof

namespace Sys2Proof.Machine

/-- A member still under way, as R59 counts it. -/
abbrev Member.Underway (m : Member) : Prop := m.state = .planned ∨ m.state = .moving

section
variable {b : Block} {g : GroupId} {d : DishId} {x : Group} {m : Member}

theorem not_underway_iff : ¬m.Underway ↔ m.active = false := by
  rw [Member.Underway, ← active_iff, Bool.not_eq_true]

theorem groupLoses_afoot (found : b.group g = some x) (afoot : x.state = .starting ∨ x.state = .running)
    (why : DropReason) : b.groupLoses g d why
      = if (x.members.any fun m => m.dish == d && m.active) = true then b.dropMember g d why else b := by
  unfold Block.groupLoses
  rw [found]
  rcases afoot with h | h <;> simp only [h]

theorem groupLoses_before (found : b.group g = some x) (before : x.state = .warming ∨ x.state = .waiting)
    (why : DropReason) :
    b.groupLoses g d why = (b.modMember g d (Member.fallen why)).abortGroup g why.toEnd (some d) := by
  unfold Block.groupLoses
  rw [found]
  rcases before with h | h <;> simp only [h] <;> rfl

theorem groupLoses_stands (found : b.group g = some x) (afoot : ¬(x.state = .starting ∨ x.state = .running))
    (before : ¬(x.state = .warming ∨ x.state = .waiting)) (why : DropReason) : b.groupLoses g d why = b := by
  unfold Block.groupLoses
  rw [found]
  cases h : x.state <;> simp_all

/-- A group that a lost axis aborts on its way to its start. -/
theorem groupLoses_aborts (found : b.group g = some x) (before : x.state = .warming ∨ x.state = .waiting)
    (why : DropReason) : ∃ y, (b.groupLoses g d why).group g = some y ∧ y.state = .aborted ∧ y.reason = some why.toEnd
      ∧ ∀ z ∈ y.members, z.dish = d → z.state = .dropped ∧ z.drop = some why := by
  have marked := group_modMember_own found d (Member.fallen why)
  have record := (abortGroup_row _ g why.toEnd (some d) _ marked).1
  refine ⟨_, (congrArg (·.group g) (groupLoses_before found before why)).trans record, rfl, rfl, fun z mem own => ?_⟩
  rcases mem_changeOf.mp mem with ⟨m, -, -, rfl⟩ | ⟨-, other⟩
  · exact ⟨rfl, rfl⟩
  · exact absurd own other

/-- A lost axis of a member, by its group's state. -/
theorem groupLoses_row (b : Block) (g : GroupId) (d : DishId) (why : DropReason) (x : Group)
    (found : b.group g = some x) :
    let t := b.groupLoses g d why
    let afoot := x.state = .starting ∨ x.state = .running
    let before := x.state = .warming ∨ x.state = .waiting
    (¬afoot → ¬before → t = b)
    ∧ (before →
      t = (b.modMember g d fun m => { m with state := .dropped, drop := some why }).abortGroup g why.toEnd (some d)
      ∧ ∃ y, t.group g = some y ∧ y.state = .aborted ∧ y.reason = some why.toEnd
        ∧ ∀ z ∈ y.members, z.dish = d → z.state = .dropped ∧ z.drop = some why)
    ∧ (afoot → (∀ m ∈ x.members, m.dish = d → ¬m.Underway) → t = b)
    ∧ ∀ m ∈ x.members, afoot → m.dish = d → m.Underway →
      (t.dish d).mode = .idle ∧ (∀ k, b.Holding t d k)
      ∧ ∃ y, t.group g = some y ∧ (∃ z ∈ y.members, z.dish = d ∧ z.state = .dropped ∧ z.drop = some why)
        ∧ ((∀ z ∈ x.members, z.dish ≠ d → ¬z.Underway) → y.state = .partly ∧ y.finishOrder = some b.planner.finished)
        ∧ ((∃ z ∈ x.members, z.dish ≠ d ∧ z.Underway) → y.state = x.state ∨ (x.state = .starting ∧ y.state = .running)) := by
  intro t afoot before
  refine ⟨fun notAfoot notBefore => groupLoses_stands found notAfoot notBefore why,
    fun h => ⟨groupLoses_before found h why, groupLoses_aborts found h why⟩, fun h settled => ?_,
    fun m mem h own underway => ?_⟩
  · refine (groupLoses_afoot found h why).trans (if_neg fun some_ => ?_)
    obtain ⟨m, mem, own, active⟩ : ∃ m ∈ x.members, m.dish = d ∧ m.active = true := by simpa using some_
    exact settled m mem own ((active_iff m).mp active)
  · have drops : t = b.dropMember g d why := (groupLoses_afoot found h why).trans
      (if_pos (List.any_eq_true.mpr ⟨m, mem, by simpa [own] using (active_iff m).mpr underway⟩))
    have listed : Lists d x.members := ⟨m, mem, own⟩
    obtain ⟨y, record, ends, goesOn⟩ := dropMember_group found h mem own why
    obtain ⟨y', record', ⟨z, hz, ofD⟩, dropped⟩ := dropsOf_dropMember (⟨x, found, listed⟩ : b.Roster g (Lists d)) why
    obtain rfl : y = y' := Option.some.inj (record.symm.trans record')
    rw [drops]
    refine ⟨mode_dropMember ⟨x, found, listed⟩ why, dropMember_holding found listed why, y, record,
      ⟨z, hz, ofD, dropped z hz ofD⟩, fun others => ends fun z mem other => not_underway_iff.mp (others z mem other), ?_⟩
    rintro ⟨z, mem, other, going⟩
    exact goesOn ⟨z, mem, other, (active_iff z).mpr going⟩

end

end Sys2Proof.Machine
end

-- ==== A member that has arrived (R57, R59) ====
section
/-! An answer judged for its dish's arrival: the marks, the outcome of Table 3-5, and the end of the group. -/

open Sys2Proof

namespace Sys2Proof.Machine

/-! ### What the judgement reads -/

/-- The marks of a member's axes that have arrived. -/
def Group.seeing (d : DishId) (seen : PerAxis Bool) (y : Group) : Group :=
  { y with members := changeOf d (fun z => { z with arrived := seen }) y.members }

/-- A member whose axes have both arrived. -/
def Member.landed (m : Member) : Member := { m with state := .arrived }

/-- A group's member marked as arrived, its outcome and the group's end to come. -/
def Block.lands (b : Block) (g : GroupId) (d : DishId) (seen : PerAxis Bool) : Block :=
  (b.modGroup g (Group.seeing d seen)).modMember g d Member.landed

section
variable {b : Block} {g : GroupId} {d : DishId} {x : Group} {m : Member} {p : Plan} {start : Nat}

/-- The active member of a dish is found. -/
theorem find_underway (apart : (x.members.map (·.dish)).Nodup) (mem : m ∈ x.members) (own : m.dish = d)
    (active : m.active = true) : x.members.find? (fun m => m.dish == d && m.active) = some m := by
  obtain ⟨z, found⟩ : ∃ z, x.members.find? (fun m => m.dish == d && m.active) = some z :=
    Option.isSome_iff_exists.mp (List.find?_isSome.mpr ⟨m, mem, by simp [own, active]⟩)
  have fits := List.find?_some found
  have same : z.dish = m.dish := by
    simp only [Bool.and_eq_true, beq_iff_eq] at fits
    exact fits.1.trans own.symm
  rw [found, List.inj_on_of_nodup_map apart (List.mem_of_find?_eq_some found) mem same]

theorem axisArrived_iff (k : AxisKind) (dist : Nat) (target : Int) : b.axisArrived d k dist target start = true ↔
    (dist ≠ 0 ∧ (b.axis d k).state = .held) ∨ (dist = 0 ∧ b.reached start = true
      ∧ ∃ r, (b.axis d k).reported = some r ∧ absDiff r.pos target ≤ (b.axis d k).cfg.tol ∧ r.rate = 0) := by
  unfold Block.axisArrived
  by_cases still : dist = 0
  · cases h : (b.axis d k).reported <;> simp [still, Axis.near, h, and_assoc]
  · simp [still]

/-- The answer judged, for a member under way. -/
theorem judgeMember_eq (grouped : (b.dish d).group = some g) (found : b.group g = some x) (running : x.state = .running)
    (begun : x.start = some start) (member : x.members.find? (fun m => m.dish == d && m.active) = some m)
    (planned : m.plan = some p) :
    let seen := b.arrivals d p start m.arrived
    b.judgeMember d = if (seen.az && seen.el) = true then ((b.lands g d seen).memberOutcome d x.thenTrack).settleGroup g d
      else b.modGroup g (Group.seeing d seen) := by
  unfold Block.judgeMember
  simp only [grouped, found, running, begun, member, planned]
  rfl

theorem judgeMember_ungrouped (alone : (b.dish d).group = none) : b.judgeMember d = b := by
  unfold Block.judgeMember
  simp only [alone]

/-! ### The marks -/

theorem group_seeing (found : b.group g = some x) (seen : PerAxis Bool) :
    (b.modGroup g (Group.seeing d seen)).group g = some (x.seeing d seen) := by
  unfold Block.modGroup
  rw [group_setGroup, if_pos rfl, found, Option.map_some]

theorem group_lands (found : b.group g = some x) (seen : PerAxis Bool) : (b.lands g d seen).group g
    = some { x with members := changeOf d Member.landed (x.seeing d seen).members } :=
  group_modMember_own (group_seeing found seen) d _

theorem lands_kept (b : Block) (g : GroupId) (d : DishId) (seen : PerAxis Bool) :
    let t := b.lands g d seen
    t.axes = b.axes ∧ t.account = b.account ∧ t.dishes = b.dishes ∧ t.ground = b.ground := by
  obtain ⟨axes, account, dishes, -, ground⟩ := modMember_kept (b.modGroup g (Group.seeing d seen)) d g Member.landed
  exact ⟨axes, account, dishes, ground⟩

/-- The members of the group after its member has landed. -/
theorem mem_lands {seen : PerAxis Bool} {z : Member} : z ∈ changeOf d Member.landed (x.seeing d seen).members ↔
    (∃ m ∈ x.members, m.dish = d ∧ z = Member.landed { m with arrived := seen }) ∨ (z ∈ x.members ∧ z.dish ≠ d) := by
  rw [mem_changeOf]
  refine or_congr ⟨?_, ?_⟩ ⟨?_, ?_⟩
  · rintro ⟨u, mem, own, rfl⟩
    rcases mem_changeOf.mp mem with ⟨m, hm, ofD, rfl⟩ | ⟨-, other⟩
    · exact ⟨m, hm, ofD, rfl⟩
    · exact absurd own other
  · rintro ⟨m, mem, own, rfl⟩
    exact ⟨_, mem_changeOf.mpr (.inl ⟨m, mem, own, rfl⟩), own, rfl⟩
  · rintro ⟨mem, other⟩
    rcases mem_changeOf.mp mem with ⟨m, -, ofD, rfl⟩ | ⟨hz, -⟩
    · exact absurd ofD other
    · exact ⟨hz, other⟩
  · rintro ⟨mem, other⟩
    exact ⟨mem_changeOf.mpr (.inr ⟨mem, other⟩), other⟩

/-! ### The hold satisfied -/

theorem satisfyHold_row (b : Block) (d : DishId) : let t := b.satisfyHold d
    (∀ k, t.axis d k = { b.axis d k with need := some ⟨.hold, none⟩ }) ∧ t.account = b.account ∧ t.dish = b.dish
    ∧ t.planner = b.planner ∧ t.ground = b.ground := by
  refine ⟨fun k => ?_, rfl, rfl, rfl, rfl⟩
  cases k <;> simp [Block.satisfyHold, Block.bothAxes, needHold_eq]

/-- The motion fit test reads the account and the heaters alone. -/
theorem motionFits_same {t : Block} (account : t.account = b.account) (ground : t.ground = b.ground) (ws : List Want) :
    t.motionFits ws = b.motionFits ws := by
  obtain ⟨-, -, -, -, -, site, -, zone, -⟩ := sameGround_of_ground ground
  have heat : t.heatAgainst = b.heatAgainst := by
    unfold Block.heatAgainst Block.heatTotal
    rw [site, zone]
  have others : t.otherTotal ws = b.otherTotal ws := by
    simp only [Block.otherTotal, Block.claimTotal, Block.claimWatts, Block.claim, account]
  unfold Block.motionFits
  rw [others, heat, account]

end

end Sys2Proof.Machine
end

-- ==== An arrived member's outcome (R57, R59; Table 3-5) ====
section
/-! The dish of an arrived member is IDLE, or asks to track; its group goes on, or ends with its last member. -/

open Sys2Proof

namespace Sys2Proof.Machine

section
variable {b : Block} {g : GroupId} {d : DishId} {x : Group} {m : Member} {why : ModeCause}

/-! ### Asking to track (R25, R72) -/

theorem planner_takeTrack (b : Block) (d : DishId) (wa we : Nat) (why : ModeCause) :
    (b.takeTrack d (dishWants d wa we) why).planner = b.planner := by
  have delivered : ((b.tracks d why).deliverBoth d .track wa we).1.planner = b.planner := by
    rw [(deliverBoth_kept ..).1]
    simp [Block.tracks]
  rw [takeTrack_eq]
  split
  · unfold Block.endTracking
    rw [(records_of_beside (beside_holdBoth ..)).1, (setMode_kept ..).2.2.1, delivered]
  · exact delivered

theorem planner_enqueue (b : Block) (who : Waiter) (ws : List Want) : (b.enqueue who ws).planner = b.planner := by
  unfold Block.enqueue
  simp only []
  split <;> rfl

/-- Nothing waits, and the dish's track power fits. -/
def Block.tracksAtOnce (b : Block) (d : DishId) : Prop :=
  b.account.waitq = [] ∧ b.account.stowq = [] ∧ b.motionFits (b.trackWants d) = true

section
variable (undue : b.account.examineDue = false) (d : DishId) (why : ModeCause)
include undue

theorem askTrack_full (full : 20 ≤ b.account.waitq.length) : (b.askTrack d why).1.planner = b.planner
    ∧ ((b.askTrack d why).1.dish d).mode = .idle := by
  have eq : (b.askTrack d why).1 = b.setMode d .idle why :=
    congrArg Prod.fst (askTrack_busy (askPower_full undue _ _ full))
  rw [eq, (setMode_kept ..).2.2.1, dish_setMode, if_pos rfl]
  exact ⟨rfl, rfl⟩

theorem askTrack_waits (room : ¬20 ≤ b.account.waitq.length) (behind : ¬b.tracksAtOnce d) :
    (b.askTrack d why).1.planner = b.planner ∧ ((b.askTrack d why).1.dish d).mode = .trackWait
    ∧ ((b.askTrack d why).1.dish d).pendingReq = some .track := by
  have behind : b.account.waitq ≠ [] ∨ b.account.stowq ≠ [] ∨ b.motionFits (b.trackWants d) = false := by
    by_contra h
    simp only [not_or, not_not, Bool.not_eq_false] at h
    exact behind h
  have eq : (b.askTrack d why).1 = ((b.enqueue (.track d) (b.trackWants d)).modDish d fun x =>
      { x with pendingReq := some .track }).setMode d .trackWait why :=
    congrArg Prod.fst (askTrack_queued (askPower_queues undue _ _ (by omega) behind))
  rw [eq, (setMode_kept ..).2.2.1, dish_setMode, if_pos rfl]
  exact ⟨planner_enqueue .., rfl, by simp [Block.modDish]⟩

theorem askTrack_atOnce (free : b.tracksAtOnce d) : (b.askTrack d why).1.planner = b.planner
    ∧ ((∀ k, b.needRefused d k = none) → ((b.askTrack d why).1.dish d).mode = .tracking
      ∧ ∀ k, ∃ n, ((b.askTrack d why).1.axis d k).need = some n ∧ n.who = .track) := by
  have eq := congrArg Prod.fst (askTrack_granted (why := why) (askPower_grants undue (.track d) _ free.1 free.2.1 free.2.2))
  have wants : b.trackWants d = dishWants d (b.axis d .az).cfg.ptrack (b.axis d .el).cfg.ptrack := rfl
  have planner : (b.grant (b.trackWants d) .motion).planner = b.planner := (grant_kept ..).2.2.1
  have ready (k : AxisKind) := needRefused_grant b (b.trackWants d) .motion d k
  rw [eq]
  simp only []
  generalize b.grant (b.trackWants d) .motion = t at planner ready ⊢
  rw [wants]
  obtain ⟨-, takes, -⟩ := takeTrack_row t d (b.axis d .az).cfg.ptrack (b.axis d .el).cfg.ptrack why
  refine ⟨(planner_takeTrack ..).trans planner, fun free => ?_⟩
  obtain ⟨mode, shares⟩ := takes fun k => (ready k).trans (free k)
  refine ⟨mode, fun k => ?_⟩
  rw [(shares k).1]
  exact ⟨_, rfl, rfl⟩

theorem planner_askTrack : (b.askTrack d why).1.planner = b.planner := by
  by_cases full : 20 ≤ b.account.waitq.length
  · exact (askTrack_full undue d why full).1
  · by_cases free : b.tracksAtOnce d
    · exact (askTrack_atOnce undue d why free).1
    · exact (askTrack_waits undue d why full free).1

end

/-! ### The outcome -/

theorem memberOutcome_idle {track : Bool} (h : ¬(track = true ∧ b.queue d ≠ [])) :
    b.memberOutcome d track = (b.satisfyHold d).setMode d .idle .group := by
  have queue : (b.satisfyHold d).queue d = b.queue d := rfl
  unfold Block.memberOutcome
  refine if_neg fun tracks => h ?_
  simpa [queue] using tracks

theorem memberOutcome_tracks {track : Bool} (h : track = true ∧ b.queue d ≠ []) :
    b.memberOutcome d track = ((b.satisfyHold d).askTrack d .group).1 := by
  have queue : (b.satisfyHold d).queue d = b.queue d := rfl
  unfold Block.memberOutcome
  refine if_pos ?_
  simpa [queue] using h

/-- The outcome leaves the planner, where no examination is due before its asking. -/
theorem planner_memberOutcome {track : Bool}
    (h : ¬(track = true ∧ b.queue d ≠ []) ∨ b.account.examineDue = false) :
    (b.memberOutcome d track).planner = b.planner := by
  by_cases tracks : track = true ∧ b.queue d ≠ []
  · rw [memberOutcome_tracks tracks, planner_askTrack (b := b.satisfyHold d) (h.resolve_left fun not => not tracks)]
    rfl
  · rw [memberOutcome_idle tracks, (setMode_kept ..).2.2.1]
    rfl

/-! ### The group after its member has landed -/

/-- A RUNNING group after its member has landed: it ends with its last member, else it goes on. -/
theorem settleGroup_landed {seen : PerAxis Bool} (mem : m ∈ x.members) (own : m.dish = d) (running : x.state = .running)
    (landed : b.group g = some { x with members := changeOf d Member.landed (x.seeing d seen).members }) :
    let others := fun (P : Member → Prop) => ∀ z ∈ x.members, z.dish ≠ d → P z
    ∃ y, (b.settleGroup g d).group g = some y ∧ (∃ z ∈ y.members, z.dish = d ∧ z.state = .arrived)
      ∧ ((others fun z => z.state = .arrived) → y.state = .done)
      ∧ ((others fun z => ¬z.Underway) → ¬(others fun z => z.state = .arrived) → y.state = .partly)
      ∧ (¬(others fun z => ¬z.Underway) → y.state = .running) := by
  intro others
  have arrived : ∃ z ∈ changeOf d Member.landed (x.seeing d seen).members, z.dish = d ∧ z.state = .arrived :=
    ⟨_, mem_lands.mpr (.inl ⟨m, mem, own, rfl⟩), own, rfl⟩
  by_cases settled : others fun z => ¬z.Underway
  · have ends := settleGroup_ends landed (.inr running) (fun z h => by
      rcases mem_lands.mp h with ⟨m, -, -, rfl⟩ | ⟨hz, other⟩
      · rfl
      · exact not_underway_iff.mp (settled z hz other)) d
    have all : (changeOf d Member.landed (x.seeing d seen).members).all (fun m => m.state == .arrived) = true
        ↔ others fun z => z.state = .arrived := by
      rw [List.all_eq_true]
      refine ⟨fun h z hz other => by simpa using h z (mem_lands.mpr (.inr ⟨hz, other⟩)), fun h z hz => ?_⟩
      rcases mem_lands.mp hz with ⟨m, -, -, rfl⟩ | ⟨hz, other⟩
      · rfl
      · simpa using h z hz other
    have record := (congrArg (·.group g) ends).trans (group_endGroup_own landed ..)
    exact ⟨_, record, arrived, fun h => if_pos (all.mpr h), fun _ h => if_neg fun h' => h (all.mp h'),
      fun h => absurd settled h⟩
  · obtain ⟨z, hz, other, active⟩ : ∃ z ∈ x.members, z.dish ≠ d ∧ z.active = true := by
      by_contra none_
      exact settled fun z hz other going => none_ ⟨z, hz, other, (active_iff z).mpr going⟩
    have waits := settleGroup_waits landed (mem_lands.mpr (.inr ⟨hz, other⟩)) active d
    have record := (congrArg (·.group g) waits).trans landed
    refine ⟨_, record, arrived, fun h => ?_, fun h => absurd h settled, fun _ => running⟩
    exact absurd (fun z hz other going => by simp [Member.Underway, h z hz other] at going) settled

end

end Sys2Proof.Machine
end

-- ==== The ends of a group (R57 to R63) ====
section
/-! An answer judged for a member's arrival, and with it the statement on a group's ends. -/

open Sys2Proof

namespace Sys2Proof.Machine

/-- An axis of a running plan has come to its target (R57). -/
def Block.Came (b : Block) (d : DishId) (start : Nat) (k : AxisKind) (dist : Nat) (target : Int) (seen : Bool) : Prop :=
  let a := b.axis d k
  seen = true ∨ (dist ≠ 0 ∧ a.state = .held)
    ∨ (dist = 0 ∧ b.reached start = true ∧ ∃ r, a.reported = some r ∧ absDiff r.pos target ≤ a.cfg.tol ∧ r.rate = 0)

section
variable {b t : Block} {g : GroupId} {d : DishId} {x : Group} {m : Member} {p : Plan} {start : Nat}

theorem arrivals_iff (seen : PerAxis Bool) :
    ((b.arrivals d p start seen).az = true ↔ b.Came d start .az p.dist.az p.target.az seen.az)
    ∧ ((b.arrivals d p start seen).el = true ↔ b.Came d start .el p.dist.el p.target.el seen.el) := by
  simp only [Block.arrivals, Bool.or_eq_true, axisArrived_iff, Block.Came, and_self]

/-- A settled group leaves the dishes' pending requests. -/
theorem pendingReq_settleGroup (b : Block) (g : GroupId) (d e : DishId) :
    ((b.settleGroup g e).dish d).pendingReq = (b.dish d).pendingReq := by
  unfold Block.settleGroup
  split
  · split
    · exact (congrArg Dish.pendingReq (dish_endGroup ..) :)
    · rfl
  · rfl

theorem axis_settleGroup (b : Block) (g : GroupId) (d e : DishId) : (b.settleGroup g e).axis d = b.axis d := by
  rw [(sameAxes_of_axes (settleGroup_kept b e g).1).2]

/-- The outcome of a dish that does not go on to track, after its group is settled. -/
theorem idles_after (g : GroupId) {track : Bool} (h : ¬(track = true ∧ b.queue d ≠ [])) :
    let t := (b.memberOutcome d track).settleGroup g d
    (t.dish d).mode = .idle
    ∧ ∀ k, (t.axis d k).state = (b.axis d k).state ∧ (t.axis d k).need = some ⟨.hold, none⟩ := by
  intro t
  have axis (k : AxisKind) : t.axis d k = { b.axis d k with need := some ⟨.hold, none⟩ } := by
    unfold t
    rw [axis_settleGroup, memberOutcome_idle h, (sameAxes_of_axes (setMode_kept ..).1).2]
    exact (satisfyHold_row b d).1 k
  refine ⟨?_, fun k => by rw [axis k]; exact ⟨rfl, rfl⟩⟩
  unfold t
  rw [mode_settleGroup, memberOutcome_idle h, dish_setMode, if_pos rfl]

theorem needRefused_satisfyHold (b : Block) (d : DishId) (free : b.site.estop = false)
    (held : ∀ k, (b.axis d k).state = .held ∧ b.axisLocks d k = 0) (k : AxisKind) :
    (b.satisfyHold d).needRefused d k = none := by
  have axis := (satisfyHold_row b d).1 k
  have ground : (b.satisfyHold d).axisLocks d k = b.axisLocks d k ∧ (b.satisfyHold d).site = b.site := ⟨rfl, rfl⟩
  simp [Block.needRefused, axis, ground, free, held k]

/-- The outcome of a dish that goes on to track, after its group is settled. -/
theorem tracks_after (g : GroupId) {track : Bool} (h : track = true ∧ b.queue d ≠ []) (undue : b.account.examineDue = false) :
    let t := (b.memberOutcome d track).settleGroup g d
    let full := 20 ≤ b.account.waitq.length
    (full → (t.dish d).mode = .idle)
    ∧ (¬full → ¬b.tracksAtOnce d → (t.dish d).mode = .trackWait ∧ (t.dish d).pendingReq = some .track)
    ∧ (b.tracksAtOnce d → b.site.estop = false → (∀ k, (b.axis d k).state = .held ∧ b.axisLocks d k = 0) →
      (t.dish d).mode = .tracking ∧ ∀ k, ∃ n, (t.axis d k).need = some n ∧ n.who = .track) := by
  intro t full
  obtain ⟨axis, account, -, -, ground⟩ := satisfyHold_row b d
  have fits := motionFits_same account ground (b.trackWants d)
  have wants : (b.satisfyHold d).trackWants d = b.trackWants d := by simp [Block.trackWants, axis]
  have atOnce : (b.satisfyHold d).tracksAtOnce d ↔ b.tracksAtOnce d := by
    simp only [Block.tracksAtOnce, account, wants, fits]
  have row : (t.dish d).mode = (((b.satisfyHold d).askTrack d .group).1.dish d).mode
      ∧ (t.dish d).pendingReq = (((b.satisfyHold d).askTrack d .group).1.dish d).pendingReq
      ∧ t.axis d = ((b.satisfyHold d).askTrack d .group).1.axis d := by
    rw [← memberOutcome_tracks h]
    exact ⟨mode_settleGroup .., pendingReq_settleGroup .., axis_settleGroup ..⟩
  obtain ⟨mode, pending, axes⟩ := row
  rw [mode, pending, axes]
  refine ⟨fun isFull => (askTrack_full (b := b.satisfyHold d) undue d .group isFull).2,
    fun room behind => (askTrack_waits (b := b.satisfyHold d) undue d .group room fun h => behind (atOnce.mp h)).2,
    fun free off held => ?_⟩
  exact (askTrack_atOnce (b := b.satisfyHold d) undue d .group (atOnce.mpr free)).2 (needRefused_satisfyHold b d off held)

/-- An answer judged for its member (R57, R59, Table 3-5). -/
theorem judgeMember_row (b : Block) (d : DishId) (g : GroupId) (x : Group) (start : Nat) (m : Member) (p : Plan)
    (grouped : (b.dish d).group = some g) (found : b.group g = some x) (running : x.state = .running)
    (begun : x.start = some start) (apart : (x.members.map (·.dish)).Nodup) (mem : m ∈ x.members) (own : m.dish = d)
    (underway : m.Underway) (planned : m.plan = some p) :
    let t := b.judgeMember d
    let here := b.Came d start .az p.dist.az p.target.az m.arrived.az ∧ b.Came d start .el p.dist.el p.target.el m.arrived.el
    let tracks := x.thenTrack = true ∧ b.queue d ≠ []
    let others := fun (P : Member → Prop) => ∀ z ∈ x.members, z.dish ≠ d → P z
    (¬here → t.axes = b.axes ∧ t.dishes = b.dishes ∧ ∃ y, t.group g = some y ∧ y.state = .running
      ∧ ∃ z ∈ y.members, z.dish = d ∧ z.state = m.state)
    ∧ (here → ¬tracks → (t.dish d).mode = .idle
      ∧ ∀ k, (t.axis d k).state = (b.axis d k).state ∧ (t.axis d k).need = some ⟨.hold, none⟩)
    ∧ (here → ¬tracks ∨ b.account.examineDue = false →
      ∃ y, t.group g = some y ∧ (∃ z ∈ y.members, z.dish = d ∧ z.state = .arrived)
        ∧ ((others fun z => z.state = .arrived) → y.state = .done)
        ∧ ((others fun z => ¬z.Underway) → ¬(others fun z => z.state = .arrived) → y.state = .partly)
        ∧ (¬(others fun z => ¬z.Underway) → y.state = .running))
    ∧ (here → tracks → b.account.examineDue = false →
      let full := 20 ≤ b.account.waitq.length
      let free := b.account.waitq = [] ∧ b.account.stowq = [] ∧ b.motionFits (b.trackWants d) = true
      (full → (t.dish d).mode = .idle)
      ∧ (¬full → ¬free → (t.dish d).mode = .trackWait ∧ (t.dish d).pendingReq = some .track)
      ∧ (free → b.site.estop = false → (∀ k, (b.axis d k).state = .held ∧ b.axisLocks d k = 0) →
        (t.dish d).mode = .tracking ∧ ∀ k, ∃ n, (t.axis d k).need = some n ∧ n.who = .track)) := by
  intro t here tracks others
  let seen := b.arrivals d p start m.arrived
  have judged : t = _ := judgeMember_eq grouped found running begun
    (find_underway apart mem own ((active_iff m).mpr underway)) planned
  have both : (seen.az && seen.el) = true ↔ here := by
    rw [Bool.and_eq_true]
    exact and_congr (arrivals_iff m.arrived).1 (arrivals_iff m.arrived).2
  have lands (h : here) : t = ((b.lands g d seen).memberOutcome d x.thenTrack).settleGroup g d :=
    judged.trans (if_pos (both.mpr h))
  obtain ⟨axes, account, -, ground⟩ := lands_kept b g d seen
  obtain ⟨-, -, -, -, -, site, queue, -, -, -, -, -, -, -, locks, -⟩ := sameGround_of_ground ground
  have axis := (sameAxes_of_axes axes).2
  refine ⟨fun h => ?_, fun h none_ => ?_, fun h calm => ?_, fun h go undue => ?_⟩
  · rw [judged.trans (if_neg fun h' => h (both.mp h'))]
    exact ⟨rfl, rfl, _, group_seeing found seen, running, _, mem_changeOf.mpr (.inl ⟨m, mem, own, rfl⟩), own, rfl⟩
  · rw [lands h, ← axis]
    exact idles_after g (by rwa [queue])
  · rw [lands h]
    refine settleGroup_landed (seen := seen) mem own running ?_
    have planner := planner_memberOutcome (b := b.lands g d seen) (d := d) (track := x.thenTrack)
      (by rwa [queue, account])
    simp only [Block.group, planner]
    exact group_lands found seen
  · have wants : (b.lands g d seen).trackWants d = b.trackWants d := by simp only [Block.trackWants, axis]
    have after := tracks_after (b := b.lands g d seen) (d := d) g (by rwa [queue]) (by rwa [account])
    rw [← lands h] at after
    simp only [Block.tracksAtOnce, account, wants, motionFits_same account ground, site, axis, locks] at after
    exact after

end

/-- Settles O47, clause by clause: ABORT_GROUP as asked; a group aborted; a member's lost axis; a member's arrival. -/
theorem abortGroupEnds : Obligations.AbortGroupEnds := by
  refine ⟨abortGroup_asked, abortGroup_row, fun b g d why x found _ => groupLoses_row b g d why x found, fun b d =>
    ⟨judgeMember_ungrouped, fun g x start m p grouped found running begun apart mem own underway planned => ?_⟩⟩
  exact judgeMember_row b d g x start m p grouped found running begun apart mem own underway planned

end Sys2Proof.Machine
end

-- ==== Brought to the brake (R31) ====
section
/-! What R31's table makes of an axis, and what it leaves of every other. -/

open Sys2Proof

namespace Sys2Proof.Machine

/-! ### An axis that another operation leaves -/

/-- An axis, its claim and its park request stand. -/
structure Block.SameDrive (b : Block) (d : DishId) (k : AxisKind) (t : Block) : Prop where
  axis : t.axis d k = b.axis d k
  claim : t.claim d k = b.claim d k
  park : (t.dish d).parkReq.get k = (b.dish d).parkReq.get k

/-- R31's table on an axis that is not lost: what it becomes. -/
def Block.Braking (b t : Block) (d : DishId) (k : AxisKind) : Prop :=
  let old := (b.axis d k).state
  let a := t.axis d k
  old ≠ .locked → old ≠ .faulted → old ≠ .offline →
    a.need = none
    ∧ (old = .held → a.state = .engaging ∧ a.order = .brake)
    ∧ (old = .moving ∨ old = .stopping → a.state = .stopping ∧ a.intent = .brake)
    ∧ (old = .braked → a.state = .braked ∧ a.stage = .none ∧ t.claim d k = none)
    ∧ (old = .testing ∨ old = .releasing → a.state = old ∧ (t.dish d).parkReq.get k = true)
    ∧ (old = .engaging → a.state = .engaging)

section
variable {b s t u : Block} {d e : DishId} {k j : AxisKind}

theorem sameDrive_refl (b : Block) (d : DishId) (k : AxisKind) : b.SameDrive d k b := ⟨rfl, rfl, rfl⟩

theorem sameDrive_trans (h : b.SameDrive d k s) (h' : s.SameDrive d k t) : b.SameDrive d k t :=
  ⟨h'.axis.trans h.axis, h'.claim.trans h.claim, h'.park.trans h.park⟩

theorem sameDrive_of (axes : t.axes = b.axes) (claims : t.account.claims = b.account.claims)
    (park : (t.dish d).parkReq = (b.dish d).parkReq) : b.SameDrive d k t :=
  ⟨by rw [(sameAxes_of_axes axes).2], by rw [(sameClaims_of_claims claims).2], by rw [park]⟩

theorem sameDrive_setMode (b : Block) (m : Mode) (why : ModeCause) : b.SameDrive d k (b.setMode e m why) := by
  obtain ⟨axes, account, -⟩ := setMode_kept b e m why
  refine sameDrive_of axes (by rw [account]) ?_
  rw [dish_setMode]
  split
  · next own => rw [own]
  · rfl

theorem braking_of_drive (h : b.Braking s d k) (same : s.SameDrive d k t) : b.Braking t d k := by
  unfold Block.Braking at h ⊢
  rw [same.axis, same.claim, same.park]
  exact h

/-- An axis that has at most begun to stop is brought to its brake from where it was. -/
theorem braking_of_stopped (h : u.Braking t d k) (state : (u.axis d k).state = (b.axis d k).state
    ∨ ((b.axis d k).state = .moving ∧ (u.axis d k).state = .stopping)) : b.Braking t d k := by
  rcases state with same | ⟨moving, stopping⟩
  · unfold Block.Braking at h ⊢
    rw [← same]
    exact h
  · obtain ⟨need, -, stops, -⟩ := h (by simp [stopping]) (by simp [stopping]) (by simp [stopping])
    intro _ _ _
    have stop := stops (.inr stopping)
    refine ⟨need, fun h => ?_, fun _ => stop, fun h => ?_, fun h => ?_, fun h => ?_⟩
    all_goals simp [moving] at h

/-! ### R31's table -/

theorem braking_brakeInPlace (b : Block) (d : DishId) (k : AxisKind) : b.Braking (b.brakeInPlace d k) d k := by
  obtain ⟨held, moving, stopping, staged, unstaged, testing, engaging, -⟩ := axisTables.2.1 b d k
  have braked (h : (b.axis d k).state = .braked) : ((b.brakeInPlace d k).axis d k).need = none
      ∧ ((b.brakeInPlace d k).axis d k).state = .braked ∧ ((b.brakeInPlace d k).axis d k).stage = .none
      ∧ (b.brakeInPlace d k).claim d k = none := by
    by_cases none_ : (b.axis d k).stage = .none
    · obtain ⟨axis, claim, -⟩ := unstaged h none_
      exact ⟨by rw [axis], by rw [axis, h], by rw [axis, none_], claim⟩
    · obtain ⟨state, stage, need, claim⟩ := staged h none_
      exact ⟨need, state, stage, claim⟩
  intro locked faulted offline
  refine ⟨?_, fun h => ⟨(held h).1, (held h).2.2.1⟩, fun h => ?_, fun h => (braked h).2, fun h => ?_,
    fun h => (engaging h).1⟩
  · cases state : (b.axis d k).state with
    | held => exact (held state).2.1
    | moving => exact (moving state).2.2.1
    | stopping => exact (stopping state).2.2
    | braked => exact (braked state).1
    | testing => exact (testing (.inl state)).2.1
    | releasing => exact (testing (.inr state)).2.1
    | engaging => exact (engaging state).2
    | locked => exact absurd state locked
    | faulted => exact absurd state faulted
    | offline => exact absurd state offline
  · rcases h with h | h
    · exact ⟨(moving h).1, (moving h).2.1⟩
    · exact ⟨(stopping h).1, (stopping h).2.1⟩
  · obtain ⟨state, -, park⟩ := testing h
    exact ⟨state, park⟩

theorem park_enter (b : Block) (st : AxisState) (other : ¬(d = e ∧ k = j)) :
    ((b.enter d k st).dish e).parkReq.get j = (b.dish e).parkReq.get j := by
  unfold Block.enter
  simp only []
  by_cases own : d = e
  · have apart : k ≠ j := fun h => other ⟨own, h⟩
    (repeat' split) <;> simp [Block.modDish, own, apart, modAxis_eq]
  · (repeat' split) <;> simp [Block.modDish, own, modAxis_eq]

/-- A park request of a testing or releasing axis leaves every other axis. -/
theorem sameDrive_parks (other : ¬(d = e ∧ k = j)) :
    b.SameDrive e j ((b.dropNeed d k).modDish d fun x => { x with parkReq := x.parkReq.set k true }) := by
  refine ⟨by simp [dropNeed_eq, Block.modDish, other], by simp [dropNeed_eq, Block.modDish], ?_⟩
  by_cases own : d = e
  · have apart : k ≠ j := fun h => other ⟨own, h⟩
    simp [dropNeed_eq, Block.modDish, own, apart]
  · simp [dropNeed_eq, Block.modDish, own]

/-- R31's table leaves every other axis. -/
theorem sameDrive_brakeInPlace (other : ¬(d = e ∧ k = j)) : b.SameDrive e j (b.brakeInPlace d k) := by
  unfold Block.brakeInPlace
  split
  · refine ⟨by simp [Block.orderBrake, dropNeed_eq, other], by simp [Block.orderBrake, dropNeed_eq], ?_⟩
    rw [Block.orderBrake, engage_eq, park_enter _ _ other]
    simp [dropNeed_eq]
  · refine ⟨by simp [dropNeed_eq, other], by simp [dropNeed_eq], ?_⟩
    rw [stopAxis_eq, park_enter _ _ other]
    simp [dropNeed_eq]
  · exact ⟨by simp [modAxis_eq, other], by simp [modAxis_eq], by simp [modAxis_eq]⟩
  · refine ⟨by simp [other], ?_, by simp⟩
    by_cases staged : (b.axis d k).stage = .none <;> simp [Block.withdrawNeed, other, dropNeed_eq]
    all_goals split <;> simp [other]
  · exact sameDrive_parks other
  · exact sameDrive_parks other
  · exact ⟨by simp [dropNeed_eq, other], by simp [dropNeed_eq], by simp [dropNeed_eq]⟩
  · exact sameDrive_refl b e j

/-- Both axes of a dish brought to the brake. -/
theorem braking_brakeBoth (b : Block) (d : DishId) (k : AxisKind) : b.Braking (b.brakeBoth d) d k := by
  cases k with
  | az =>
    exact braking_of_drive (braking_brakeInPlace b d .az) (sameDrive_brakeInPlace (b := b.brakeInPlace d .az)
      (d := d) (k := .el) (by simp))
  | el =>
    have first : (b.brakeInPlace d .az).axis d .el = b.axis d .el := (sameDrive_brakeInPlace (by simp)).axis
    exact braking_of_stopped (braking_brakeInPlace (b.brakeInPlace d .az) d .el) (.inl (by rw [first]))

theorem dish_brakeBoth (b : Block) (d e : DishId) :
    { (b.brakeBoth d).dish e with parkReq := (b.dish e).parkReq } = b.dish e :=
  dish_of_beside ((beside_brakeInPlace _ d .el).trans (beside_brakeInPlace b d .az)) e

end

end Sys2Proof.Machine
end

-- ==== A stow begun (R76, R77, R105) ====
section
/-! STOWING begins: AZ to its brake, EL braked where it stands at stow, or stopped to wait for its stow claim. -/

open Sys2Proof

namespace Sys2Proof.Machine

section
variable {b s t v : Block} {d e : DishId} {k j : AxisKind}

/-! ### The reasons of a block (R108) -/

/-- An axis is as much FAULTED or OFFLINE as before. -/
def Block.AsFit (b : Block) (d : DishId) (k : AxisKind) (t : Block) : Prop :=
  ((t.axis d k).state = .faulted ↔ (b.axis d k).state = .faulted)
    ∧ ((t.axis d k).state = .offline ↔ (b.axis d k).state = .offline)

theorem asFit_of_axis (h : t.axis d k = b.axis d k) : b.AsFit d k t := by
  unfold Block.AsFit
  rw [h]
  exact ⟨.rfl, .rfl⟩

theorem asFit_trans (h : b.AsFit d k s) (h' : s.AsFit d k t) : b.AsFit d k t := ⟨h'.1.trans h.1, h'.2.trans h.2⟩

theorem asFit_brakeInPlace (b : Block) (d : DishId) (k : AxisKind) : b.AsFit d k (b.brakeInPlace d k) := by
  obtain ⟨-, -, -, -, -, -, -, lost⟩ := axisTables.2.1 b d k
  have row := braking_brakeInPlace b d k
  unfold Block.Braking at row
  unfold Block.AsFit
  cases state : (b.axis d k).state with
  | locked => rw [lost (.inl state), state]; simp
  | faulted => rw [lost (.inr (.inl state)), state]; simp
  | offline => rw [lost (.inr (.inr state)), state]; simp
  | _ => simp_all

theorem blockReasons_same (fit : ∀ k, b.AsFit d k t) (lockout : t.lockout = b.lockout) (site : t.site = b.site) :
    t.blockReasons d = b.blockReasons d := by
  have faulted (k : AxisKind) : ((t.axis d k).state == .faulted) = ((b.axis d k).state == .faulted) := by
    rw [Bool.eq_iff_iff, beq_iff_eq, beq_iff_eq, (fit k).1]
  have offline (k : AxisKind) : ((t.axis d k).state == .offline) = ((b.axis d k).state == .offline) := by
    rw [Bool.eq_iff_iff, beq_iff_eq, beq_iff_eq, (fit k).2]
  have locked : t.dishLocked d = b.dishLocked d := by
    unfold Block.dishLocked Block.axisLocks
    rw [lockout]
  simp only [Block.blockReasons, faulted, offline, locked, site]

theorem blockReasons_any : (b.blockReasons d).any = true ↔ 0 < b.axisLocks d .az ∨ 0 < b.axisLocks d .el
    ∨ b.site.estop = true ∨ ∃ k, (b.axis d k).state = .faulted ∨ (b.axis d k).state = .offline := by
  have either (P : AxisKind → Prop) : (∃ k, P k) ↔ P .az ∨ P .el :=
    ⟨fun ⟨k, h⟩ => by cases k <;> simp [h], fun h => h.elim (⟨_, ·⟩) (⟨_, ·⟩)⟩
  simp only [Blocks.any, Block.blockReasons, Block.dishLocked, Bool.or_eq_true, decide_eq_true_eq, beq_iff_eq, either]
  tauto

/-! ### The stow-pending list (R77) -/

theorem mem_enterStow (b : Block) (d e : DishId) : e ∈ (b.enterStow d).account.stowq ↔ e = d ∨ e ∈ b.account.stowq := by
  unfold Block.enterStow
  split
  · next listed =>
    refine ⟨.inr, fun h => h.elim (fun own => own ▸ List.contains_iff_mem.mp listed) id⟩
  · have all : e ∈ allDishes := List.mem_finRange e
    simp [Block.callExamine, all]

theorem enterStow_kept (b : Block) (d : DishId) : (b.enterStow d).axes = b.axes
    ∧ (b.enterStow d).account.claims = b.account.claims ∧ (b.enterStow d).dishes = b.dishes
    ∧ (b.enterStow d).planner = b.planner ∧ (b.enterStow d).ground = b.ground := by
  unfold Block.enterStow
  split <;> exact ⟨rfl, rfl, rfl, rfl, rfl⟩

/-! ### What a stow grant leaves -/

theorem grantStow_kept (b : Block) (e : DishId) : let t := b.grantStow e
    t.dishes = b.dishes ∧ t.planner = b.planner ∧ ∀ d, t.axis d .az = b.axis d .az ∧ t.claim d .az = b.claim d .az := by
  have step : b.grantStow e = _ := grantStow_eq b e
  obtain ⟨axes, dishes, planner, -, -⟩ := grant_kept b [⟨e, .el, (b.axis e .el).cfg.pstow⟩] .stow
  have claims := (grant_account b [⟨e, .el, (b.axis e .el).cfg.pstow⟩] .stow).1
  obtain ⟨outer, dishes', other⟩ := deliverNeed_kept ((b.grant [⟨e, .el, (b.axis e .el).cfg.pstow⟩] .stow).unlisted e)
    e .el ⟨.stow, some (b.axis e .el).cfg.pstow⟩
  rw [step]
  refine ⟨dishes'.1.trans dishes, outer.2.1.trans planner, fun d => ?_⟩
  obtain ⟨axis, claim⟩ := other d .az (by simp)
  rw [axis, claim, unlisted_kept.1, unlisted_kept.2.1, (sameAxes_of_axes axes).2, (sameClaims_of_claims claims).2]
  exact ⟨rfl, by simp [Block.each]⟩

end

end Sys2Proof.Machine
end

-- ==== STOWING begun (R77, R105) ====
section
/-! AZ goes to its brake; EL is braked at stow, or waits for the stow claim, whose request is entered and tried at once. -/

open Sys2Proof

namespace Sys2Proof.Machine

/-- The two axes of a dish that begins to stow. -/
def Block.Begun (b t : Block) (d : DishId) : Prop :=
  let old := b.axis d .el
  let stands := (old.state = .braked ∨ old.state = .engaging ∨ old.state = .held)
    ∧ ∃ r, old.reported = some r ∧ absDiff r.pos 89000 ≤ old.cfg.tol
  b.Braking t d .az
  ∧ (stands → b.Braking t d .el ∧ t.account.stowq = b.account.stowq)
  ∧ (¬stands → ∃ u : Block,
    let a := u.axis d .el
    d ∈ u.account.stowq ∧ (∀ e, e ≠ d → (e ∈ u.account.stowq ↔ e ∈ b.account.stowq)) ∧ a.need = none
    ∧ (old.state = .moving → a.state = .stopping ∧ a.intent = .hold)
    ∧ (old.state = .braked → a.stage = .none)
    ∧ (old.state ≠ .moving → a.state = old.state)
    ∧ (b.move d = none → u.claim d .el = b.claim d .el)
    ∧ (d ∉ b.account.stowq → t = u.examineStow) ∧ (d ∈ b.account.stowq → t = u))

/-- A dish's axes have at most stopped to hold; nothing else that a stow reads has changed. -/
structure Block.AtMostStops (b : Block) (d : DishId) (v : Block) : Prop where
  state : ∀ k, (v.axis d k).state = (b.axis d k).state
    ∨ ((b.axis d k).state = .moving ∧ (v.axis d k).state = .stopping ∧ (v.axis d k).intent = .hold)
  reported : ∀ k, (v.axis d k).reported = (b.axis d k).reported
  cfg : ∀ k, (v.axis d k).cfg = (b.axis d k).cfg
  claim : b.move d = none → ∀ k, v.claim d k = b.claim d k
  stowq : v.account.stowq = b.account.stowq

section
variable {b s t v : Block} {d e : DishId}

/-! ### The EL axis waits (R105) -/

theorem beside_awaitStow (b : Block) (d : DishId) : (b.awaitStow d).beside = b.beside := by
  unfold Block.awaitStow
  split <;> simp

theorem sameDrive_awaitStow (b : Block) (d : DishId) : b.SameDrive d .az (b.awaitStow d) := by
  unfold Block.awaitStow
  split
  · refine ⟨by simp [dropNeed_eq], by simp [dropNeed_eq], ?_⟩
    rw [stopAxis_eq, park_enter _ _ (by simp)]
    simp [dropNeed_eq]
  · exact ⟨by simp, by simp, by simp⟩
  · exact ⟨by simp [dropNeed_eq], by simp [dropNeed_eq], by simp [dropNeed_eq]⟩

/-- The EL axis of a dish that waits for its stow claim. -/
theorem awaitStow_row (b : Block) (d : DishId) :
    let a := (b.awaitStow d).axis d .el
    let old := b.axis d .el
    a.need = none ∧ (old.state = .moving → a.state = .stopping ∧ a.intent = .hold)
    ∧ (old.state = .braked → a.stage = .none) ∧ (old.state ≠ .moving → a.state = old.state ∧ a.intent = old.intent)
    ∧ (b.awaitStow d).claim d .el = b.claim d .el := by
  unfold Block.awaitStow
  cases state : (b.axis d .el).state <;> simp [dropNeed_eq, state]

/-! ### The request tried (R76, R77) -/

/-- The stow-pending list tried leaves the dishes, the planner and every AZ axis. -/
theorem examineStow_kept (b : Block) : let t := b.examineStow
    t.dishes = b.dishes ∧ t.planner = b.planner ∧ ∀ d, t.axis d .az = b.axis d .az ∧ t.claim d .az = b.claim d .az := by
  unfold Block.examineStow
  split
  · refine each_holds (fun s : Block => s.dishes = b.dishes ∧ s.planner = b.planner
      ∧ ∀ d, s.axis d .az = b.axis d .az ∧ s.claim d .az = b.claim d .az) _ _ ?_ b ⟨rfl, rfl, fun _ => ⟨rfl, rfl⟩⟩
    rintro e s ⟨dishes, planner, az⟩
    split
    · obtain ⟨dishes', planner', az'⟩ := grantStow_kept s e
      exact ⟨dishes'.trans dishes, planner'.trans planner,
        fun d => ⟨(az' d).1.trans (az d).1, (az' d).2.trans (az d).2⟩⟩
    · exact ⟨dishes, planner, az⟩
  · exact ⟨rfl, rfl, fun _ => ⟨rfl, rfl⟩⟩

theorem askStow_left (b : Block) (d : DishId) : let t := b.askStow d
    t.dishes = b.dishes ∧ t.planner = b.planner ∧ b.SameDrive d .az t := by
  unfold Block.askStow
  split
  · obtain ⟨axes, claims, dishes, planner, -⟩ := enterStow_kept b d
    obtain ⟨dishes', planner', az⟩ := examineStow_kept (b.enterStow d)
    refine ⟨dishes'.trans dishes, planner'.trans planner, ?_, ?_, ?_⟩
    · rw [(az d).1, (sameAxes_of_axes axes).2]
    · rw [(az d).2, (sameClaims_of_claims claims).2]
    · rw [(sameDishes_of_dishes (dishes'.trans dishes)).2]
  · exact ⟨rfl, rfl, sameDrive_refl b d .az⟩

/-! ### STOWING begins -/

theorem near_iff {a : Axis} {target : Int} :
    a.near target = true ↔ ∃ r, a.reported = some r ∧ absDiff r.pos target ≤ a.cfg.tol := by
  unfold Axis.near
  cases a.reported <;> simp

theorem elStowed_iff : b.elStowed d = true ↔
    ((b.axis d .el).state = .braked ∨ (b.axis d .el).state = .engaging ∨ (b.axis d .el).state = .held)
    ∧ ∃ r, (b.axis d .el).reported = some r ∧ absDiff r.pos 89000 ≤ (b.axis d .el).cfg.tol := by
  simp only [Block.elStowed, Bool.and_eq_true, Bool.or_eq_true, beq_iff_eq, near_iff, or_assoc]
  rfl

theorem elStowed_stopped (h : b.AtMostStops d v) : v.elStowed d = true ↔ b.elStowed d = true := by
  rw [elStowed_iff, elStowed_iff, h.reported, h.cfg]
  refine and_congr_left fun _ => ?_
  rcases h.state .el with same | ⟨moving, stopping, -⟩
  · rw [same]
  · simp [moving, stopping]

theorem beginStow_eq (b : Block) (d : DishId) : b.beginStow d = if (b.brakeInPlace d .az).elStowed d = true
    then (b.brakeInPlace d .az).brakeInPlace d .el else ((b.brakeInPlace d .az).awaitStow d).askStow d := rfl

theorem stowq_brakeInPlace (b : Block) (d : DishId) (k : AxisKind) :
    (b.brakeInPlace d k).account.stowq = b.account.stowq := by
  obtain ⟨-, -, -, -, -, -, -, -, -, -, -, -, -, -, -, -, -, -, -, -, stowq, -⟩ :=
    outer_of_beside (beside_brakeInPlace b d k)
  exact stowq

theorem elStowed_brakeInPlace (b : Block) (d : DishId) : (b.brakeInPlace d .az).elStowed d = b.elStowed d := by
  unfold Block.elStowed
  rw [(sameDrive_brakeInPlace (b := b) (d := d) (k := .az) (e := d) (j := .el) (by simp)).axis]

/-- A stow begun keeps the dishes but for their park requests, and the planner. -/
theorem beginStow_kept (b : Block) (d e : DishId) :
    { (b.beginStow d).dish e with parkReq := (b.dish e).parkReq } = b.dish e ∧ (b.beginStow d).planner = b.planner := by
  rw [beginStow_eq]
  split
  · have beside := (beside_brakeInPlace (b.brakeInPlace d .az) d .el).trans (beside_brakeInPlace b d .az)
    exact ⟨dish_of_beside beside e, (records_of_beside beside).1⟩
  · obtain ⟨dishes, planner, -⟩ := askStow_left ((b.brakeInPlace d .az).awaitStow d) d
    have beside := (beside_awaitStow (b.brakeInPlace d .az) d).trans (beside_brakeInPlace b d .az)
    rw [(sameDishes_of_dishes dishes).2, planner]
    exact ⟨dish_of_beside beside e, (records_of_beside beside).1⟩

/-- A stow begun under STOW, from where the dish's axes have at most stopped to hold. -/
theorem begun_beginStow (h : b.AtMostStops d v) (level : v.weather.level = .stow) : b.Begun (v.beginStow d) d := by
  have soften (k : AxisKind) (t : Block) (braking : v.Braking t d k) : b.Braking t d k :=
    braking_of_stopped braking ((h.state k).imp_right fun stops => ⟨stops.1, stops.2.1⟩)
  have first := sameDrive_brakeInPlace (b := v) (d := d) (k := .az) (e := d) (j := .el) (by simp)
  have eq := beginStow_eq v d
  rw [elStowed_brakeInPlace] at eq
  simp only [elStowed_stopped h] at eq
  by_cases stands : b.elStowed d = true
  · rw [if_pos stands] at eq
    have both : v.beginStow d = v.brakeBoth d := eq
    refine ⟨soften .az _ (both ▸ braking_brakeBoth v d .az), fun _ => ⟨soften .el _ (both ▸ braking_brakeBoth v d .el), ?_⟩,
      fun not => absurd (elStowed_iff.mp stands) not⟩
    rw [eq, stowq_brakeInPlace, stowq_brakeInPlace, h.stowq]
  · rw [if_neg stands] at eq
    obtain ⟨-, -, az⟩ := askStow_left ((v.brakeInPlace d .az).awaitStow d) d
    have drive := sameDrive_trans (sameDrive_awaitStow (v.brakeInPlace d .az) d) az
    rw [← eq] at drive
    refine ⟨soften .az _ (braking_of_drive (braking_brakeInPlace v d .az) drive),
      fun stowed => absurd (elStowed_iff.mpr stowed) stands, fun _ => ?_⟩
    have beside := (beside_awaitStow (v.brakeInPlace d .az) d).trans (beside_brakeInPlace v d .az)
    obtain ⟨-, -, weather, -⟩ := records_of_beside beside
    obtain ⟨-, -, -, -, -, -, -, -, -, -, -, -, -, -, -, -, -, -, -, -, stowq, -⟩ := outer_of_beside beside
    obtain ⟨need, moving, braked, still, claim⟩ := awaitStow_row (v.brakeInPlace d .az) d
    rw [first.axis] at moving braked still
    rw [first.claim] at claim
    generalize (v.brakeInPlace d .az).awaitStow d = w at *
    rw [h.stowq] at stowq
    obtain ⟨axes, claims, -⟩ := enterStow_kept w d
    refine ⟨w.enterStow d, (mem_enterStow w d d).mpr (.inl rfl), fun e other => ?_, ?_⟩
    · rw [mem_enterStow, stowq]
      simp [other]
    · rw [(sameAxes_of_axes axes).2, (sameClaims_of_claims claims).2]
      refine ⟨need, fun was => ?_, fun was => ?_, fun was => ?_, fun idle => ?_, fun fresh => ?_, fun listed => ?_⟩
      · rcases h.state .el with same | ⟨-, stopping, hold⟩
        · exact moving (same.trans was)
        · obtain ⟨state, intent⟩ := still (by simp [stopping])
          exact ⟨state.trans stopping, intent.trans hold⟩
      · rcases h.state .el with same | ⟨was', -⟩
        · exact braked (same.trans was)
        · simp [was] at was'
      · rcases h.state .el with same | ⟨was', -⟩
        · exact (still (by rwa [same])).1.trans same
        · exact absurd was' was
      · rw [claim, h.claim idle]
      · rw [eq]
        exact askStow_new w d (by rw [weather, level]) (by rwa [stowq])
      · rw [eq, askStow_kept w d (by rwa [stowq])]
        unfold Block.enterStow
        exact (if_pos (List.contains_iff_mem.mpr (by rwa [stowq]))).symm

end

end Sys2Proof.Machine
end

-- ==== Taken into stow (R103, R104, R108) ====
section
/-! A dish taken into stow loses its move and its request, writes its context, and is STOW_BLOCKED or STOWING. -/

open Sys2Proof

namespace Sys2Proof.Machine

section
variable {b s t v : Block} {d e : DishId}

/-! ### Axes that at most stop to hold -/

theorem heldAfter_stops (a : Axis) :
    (a.heldAfter.state = a.state ∨ (a.state = .moving ∧ a.heldAfter.state = .stopping ∧ a.heldAfter.intent = .hold))
    ∧ a.heldAfter.reported = a.reported ∧ a.heldAfter.cfg = a.cfg := by
  unfold Axis.heldAfter
  cases state : a.state
  case braked => by_cases unstaged : a.stage = .none <;> simp [state, unstaged]
  all_goals simp [state]

theorem atMostStops_refl (b : Block) (d : DishId) : b.AtMostStops d b :=
  ⟨fun _ => .inl rfl, fun _ => rfl, fun _ => rfl, fun _ _ => rfl, rfl⟩

theorem atMostStops_of (h : b.AtMostStops d s) (axes : t.axes = s.axes) (claims : t.account.claims = s.account.claims)
    (stowq : t.account.stowq = s.account.stowq) : b.AtMostStops d t := by
  have axis := (sameAxes_of_axes axes).2
  have claim := (sameClaims_of_claims claims).2
  exact ⟨fun k => axis ▸ h.state k, fun k => axis ▸ h.reported k, fun k => axis ▸ h.cfg k,
    fun idle k => claim ▸ h.claim idle k, stowq.trans h.stowq⟩

theorem endMove_idle (h : b.move d = none) : b.endMove d = b := by
  unfold Block.endMove
  rw [h]

theorem endMove_busy (h : b.move d ≠ none) : b.endMove d = ((b.setMove d none).withdraw (.internal d)).holdBoth d := by
  obtain ⟨m, found⟩ := Option.ne_none_iff_exists'.mp h
  unfold Block.endMove
  rw [found]

theorem stowq_of_beside (h : s.beside = t.beside) : s.account.stowq = t.account.stowq := by
  obtain ⟨-, -, -, -, -, -, -, -, -, -, -, -, -, -, -, -, -, -, -, -, stowq, -⟩ := outer_of_beside h
  exact stowq

/-- A dish's move ended: its axes have at most stopped to hold. -/
theorem atMostStops_endMove (b : Block) (d : DishId) : b.AtMostStops d (b.endMove d) := by
  by_cases idle : b.move d = none
  · rw [endMove_idle idle]
    exact atMostStops_refl b d
  · have axis (k : AxisKind) : (b.endMove d).axis d k = b.axis d k ∨ (b.endMove d).axis d k = (b.axis d k).heldAfter := by
      rw [endMove_busy idle]
      obtain ⟨passed, clear⟩ := holdBoth_own ((b.setMove d none).withdraw (.internal d)) d k
      have same : ((b.setMove d none).withdraw (.internal d)).axis d k = b.axis d k := by
        rw [(withdraw_kept ..).2.1.2]
        rfl
      rw [same] at passed clear
      cases over_ : ((b.setMove d none).withdraw (.internal d)).passedOver d k with
      | true => exact .inl (passed over_).1
      | false => exact .inr (clear over_).1
    refine ⟨fun k => ?_, fun k => ?_, fun k => ?_, fun h => absurd h idle, (stowq_of_beside (beside_endMove b d) :)⟩
    all_goals obtain h | h := axis k <;> rw [h]
    · exact .inl rfl
    · exact (heldAfter_stops _).1
    · exact (heldAfter_stops _).2.1
    · exact (heldAfter_stops _).2.2

theorem dish_endMove (b : Block) (d e : DishId) :
    { (b.endMove d).dish e with parkReq := (b.dish e).parkReq } = b.dish e :=
  dish_of_beside (c := b.setMove d none) (beside_endMove b d) e

theorem held_stopped (h : b.AtMostStops d v) (k : AxisKind) :
    (v.axis d k).state = .held ↔ (b.axis d k).state = .held := by
  rcases h.state k with same | ⟨moving, stopping, -⟩
  · rw [same]
  · simp [moving, stopping]

theorem asFit_stopped (h : b.AtMostStops d v) (k : AxisKind) : b.AsFit d k v := by
  unfold Block.AsFit
  rcases h.state k with same | ⟨moving, stopping, -⟩
  · rw [same]
    exact ⟨.rfl, .rfl⟩
  · simp [moving, stopping]

/-! ### The context (R103) -/

theorem contextNow_stopped (h : b.AtMostStops d v) (mode : (v.dish d).mode = (b.dish d).mode)
    (intent : (v.dish d).intent = (b.dish d).intent) (site : v.site = b.site) (o : Origin) :
    v.contextNow d o = b.contextNow d o := by
  have pos (k : AxisKind) : v.pos d k = b.pos d k := by
    unfold Block.pos
    rw [h.reported]
  unfold Block.contextNow
  simp only [mode, intent, site, pos, held_stopped h]

/-- The context a protective move leaves to a dish (R103, log 36). -/
def Block.contextAfter (b : Block) (d : DishId) : Option SavedContext :=
  if (b.dish d).context ≠ none ∨ (b.dish d).mode = .stowBlocked ∨ (b.dish d).mode = .stowed then (b.dish d).context
  else some (b.contextNow d .wind)

theorem saveContext_eq (b : Block) (d : DishId) :
    b.saveContext d .wind = b ∧ b.contextAfter d = (b.dish d).context
    ∨ b.saveContext d .wind = (b.modDish d fun x => { x with context := b.contextAfter d }) := by
  unfold Block.saveContext Block.contextAfter
  by_cases kept : (b.dish d).context ≠ none ∨ (b.dish d).mode = .stowBlocked ∨ (b.dish d).mode = .stowed
  · left
    simp [kept, Option.isSome_iff_ne_none, or_assoc]
  · right
    simp [kept, Option.isSome_iff_ne_none, or_assoc]

/-- A dish's request withdrawn. -/
theorem withdrawPending_left (b : Block) (d : DishId) :
    (∀ e, (b.withdrawPending d).dish e = if d = e then { b.dish d with pendingReq := none } else b.dish e)
    ∧ (b.withdrawPending d).account.stowq = b.account.stowq := by
  cases pending : (b.dish d).pendingReq with
  | none =>
    rw [withdrawPending_none pending, ← pending]
    refine ⟨fun e => ?_, rfl⟩
    split
    · next own => rw [← own]
    · rfl
  | some r =>
    have stowq (w : Waiter) := stowq_of_beside (beside_withdraw b w)
    cases r <;> simp only [Block.withdrawPending, pending] <;> refine ⟨fun e => ?_, stowq _⟩ <;> simp [Block.modDish]

/-! ### Into stow -/

/-- A dish on its way into stow: its move ended, its request withdrawn, its context written. -/
def Block.cleared (b : Block) (d : DishId) : Block := ((b.endMove d).withdrawPending d).saveContext d .wind

theorem takeIntoStow_eq (b : Block) (d : DishId) : b.takeIntoStow d =
    if ((b.cleared d).blockReasons d).any = true then (b.cleared d).blockStow d .wind
    else ((b.cleared d).setMode d .stowing .wind).beginStow d := rfl

theorem cleared_row (b : Block) (d : DishId) : b.AtMostStops d (b.cleared d) ∧ (b.cleared d).move d = none
    ∧ (b.cleared d).ground = b.ground ∧ ((b.cleared d).dish d).pendingReq = none
    ∧ ((b.cleared d).dish d).context = b.contextAfter d := by
  have stops := atMostStops_endMove b d
  obtain ⟨axes, claims, planner, ground⟩ := withdrawPending_kept (b.endMove d) d
  obtain ⟨dishes, stowq⟩ := withdrawPending_left (b.endMove d) d
  have dish := (dishes d).trans (if_pos rfl)
  have stops' := atMostStops_of stops axes claims stowq
  have ended := dish_endMove b d d
  have mode : (((b.endMove d).withdrawPending d).dish d).mode = (b.dish d).mode := by
    rw [dish]
    exact (congrArg Dish.mode ended :)
  have intent : (((b.endMove d).withdrawPending d).dish d).intent = (b.dish d).intent := by
    rw [dish]
    exact (congrArg Dish.intent ended :)
  have context : (((b.endMove d).withdrawPending d).dish d).context = (b.dish d).context := by
    rw [dish]
    exact (congrArg Dish.context ended :)
  have pending : (((b.endMove d).withdrawPending d).dish d).pendingReq = none := by rw [dish]
  have move : ((b.endMove d).withdrawPending d).move d = none := by
    simp only [Block.move, planner]
    exact move_endMove b d
  have ground' := ground.trans (ground_endMove (b := b) (d := d))
  have site := (sameGround_of_ground ground').2.2.2.2.2.1
  have after : ((b.endMove d).withdrawPending d).contextAfter d = b.contextAfter d := by
    unfold Block.contextAfter
    rw [mode, context, contextNow_stopped stops' mode intent site]
  unfold Block.cleared
  generalize (b.endMove d).withdrawPending d = w at *
  rcases saveContext_eq w d with ⟨eq, kept⟩ | eq
  · rw [eq]
    exact ⟨stops', move, ground', pending, kept.symm.trans after⟩
  · rw [eq]
    exact ⟨atMostStops_of stops' rfl rfl rfl, move, ground', by simpa [Block.modDish] using pending,
      by simpa [Block.modDish] using after⟩

end

end Sys2Proof.Machine
end

-- ==== Blocked, stowing, and back (R103 to R109, R114) ====
section
/-! One dish under wind stow: taken in, blocked and freed, moved and braked, and let out again. -/

open Sys2Proof

namespace Sys2Proof.Machine

/-- A reason to block a dish's stow holds (R108). -/
abbrev Block.Blocked (b : Block) (d : DishId) : Prop :=
  0 < b.axisLocks d .az ∨ 0 < b.axisLocks d .el ∨ b.site.estop = true
    ∨ ∃ k, (b.axis d k).state = .faulted ∨ (b.axis d k).state = .offline

section
variable {b s t v : Block} {d e : DishId}

/-! ### Taken into stow (R104) -/

/-- A dish that enters STOW_BLOCKED. -/
theorem blockStow_row (b : Block) (d : DishId) (why : ModeCause) : let t := b.blockStow d why
    t.dish d = { b.dish d with mode := .stowBlocked, blocks := some (b.blockReasons d), intent := none, dwell := .stopped }
    ∧ t.axes = b.axes ∧ t.account = b.account ∧ t.planner = b.planner := by
  obtain ⟨axes, account, planner, -⟩ := setMode_kept (b.modDish d fun x =>
    { x with blocks := some (b.blockReasons d) }) d .stowBlocked why
  refine ⟨?_, axes, account, planner⟩
  unfold Block.blockStow
  rw [dish_setMode, if_pos rfl]
  simp [Block.modDish]

/-- A dish that begins to stow. -/
theorem stowing_row (b : Block) (d : DishId) (why : ModeCause) : let t := (b.setMode d .stowing why).beginStow d
    (t.dish d).mode = .stowing ∧ (t.dish d).blocks = none ∧ (t.dish d).intent = none ∧ (t.dish d).dwell = .stopped
    ∧ (t.dish d).context = (b.dish d).context ∧ (t.dish d).pendingReq = (b.dish d).pendingReq ∧ t.planner = b.planner := by
  obtain ⟨dish, planner⟩ := beginStow_kept (b.setMode d .stowing why) d d
  have entered := dish_setMode b d d .stowing why
  rw [if_pos rfl] at entered
  refine ⟨(congrArg Dish.mode dish :).trans ?_, (congrArg Dish.blocks dish :).trans ?_, (congrArg Dish.intent dish :).trans ?_,
    (congrArg Dish.dwell dish :).trans ?_, (congrArg Dish.context dish :).trans ?_,
    (congrArg Dish.pendingReq dish :).trans ?_, planner.trans (setMode_kept ..).2.2.1⟩
  all_goals rw [entered] <;> rfl

theorem begun_stowing (h : b.AtMostStops d v) (ground : v.ground = b.ground) (level : b.weather.level = .stow)
    (why : ModeCause) : b.Begun ((v.setMode d .stowing why).beginStow d) d := by
  obtain ⟨axes, account, -, ground'⟩ := setMode_kept v d .stowing why
  have weather := (sameGround_of_ground (ground'.trans ground)).2.1
  exact begun_beginStow (atMostStops_of h axes (by rw [account]) (by rw [account])) (by rw [weather, level])

theorem takeIntoStow_row (b : Block) (d : DishId) : let t := b.takeIntoStow d
    t.move d = none ∧ (t.dish d).pendingReq = none ∧ (t.dish d).intent = none ∧ (t.dish d).dwell = .stopped
    ∧ t.queue d = b.queue d ∧ (t.dish d).context = b.contextAfter d
    ∧ (b.Blocked d → (t.dish d).mode = .stowBlocked ∧ (t.dish d).blocks = some (b.blockReasons d))
    ∧ (¬b.Blocked d → (t.dish d).mode = .stowing ∧ (t.dish d).blocks = none
      ∧ (b.weather.level = .stow → b.Begun t d)) := by
  intro t
  obtain ⟨stops, move, ground, pending, context⟩ := cleared_row b d
  obtain ⟨-, -, -, lockout, -, site, -⟩ := sameGround_of_ground ground
  have reasons := blockReasons_same (asFit_stopped stops) lockout site
  have queue : t.queue d = b.queue d := (congrArg (fun s : Block => s.points.queues[d]) (still_takeIntoStow b d) :)
  have eq : t = _ := takeIntoStow_eq b d
  rw [reasons] at eq
  clear_value t
  by_cases any : (b.blockReasons d).any = true
  · rw [if_pos any] at eq
    obtain ⟨dish, -, -, planner⟩ := blockStow_row (b.cleared d) d .wind
    rw [← eq] at dish planner
    have move' : t.move d = none := by rwa [Block.move, planner]
    rw [reasons] at dish
    rw [dish]
    exact ⟨move', pending, rfl, rfl, queue, context, fun _ => ⟨rfl, rfl⟩, fun free => absurd (blockReasons_any.mp any) free⟩
  · rw [if_neg any] at eq
    obtain ⟨mode, blocks, intent, dwell, context', pending', planner⟩ := stowing_row (b.cleared d) d .wind
    have begun (level : b.weather.level = .stow) := begun_stowing stops ground level .wind
    rw [← eq] at mode blocks intent dwell context' pending' planner begun
    have move' : t.move d = none := by rwa [Block.move, planner]
    exact ⟨move', pending'.trans pending, intent, dwell, queue, context'.trans context,
      fun blocked => absurd (blockReasons_any.mpr blocked) any, fun _ => ⟨mode, blocks, begun⟩⟩

/-! ### The context of the moment (Table 6-3) -/

theorem contextNow_row (b : Block) (d : DishId) (o : Origin) :
    let x := b.dish d
    let saved := fun (work : Work) (at_ : Option AzEl) => b.contextNow d o = ⟨o, work, at_, b.site.clock.getD 0⟩
    let both := (b.axis d .az).state = .held ∧ (b.axis d .el).state = .held
    (x.mode = .idle → both → saved .idle (some ⟨b.pos d .az, b.pos d .el⟩))
    ∧ (x.mode = .idle → ¬both → saved .idle none)
    ∧ (x.mode = .trackWait ∨ x.mode = .tracking → saved .tracking none)
    ∧ (x.mode = .slewWait ∨ x.mode = .slewing → saved .idle none)
    ∧ ∀ i, x.mode = .returning → x.intent = some i →
      (i.work = .idle → saved .idle (some i.target)) ∧ (i.work = .tracking → saved .tracking none) := by
  intro x saved both
  simp only [saved, Block.contextNow]
  refine ⟨fun mode held => ?_, fun mode loose => ?_, fun mode => ?_, fun mode => ?_, fun i mode intent =>
    ⟨fun work => ?_, fun work => ?_⟩⟩
  · simp only [x] at mode
    rw [mode]
    exact if_pos held
  · simp only [x] at mode
    rw [mode]
    exact if_neg loose
  · simp only [x] at mode
    rcases mode with mode | mode <;> rw [mode]
  · simp only [x] at mode
    rcases mode with mode | mode <;> rw [mode]
  all_goals
    simp only [x] at mode intent
    rw [mode, intent]
    simp [work]

end

end Sys2Proof.Machine
end

-- ==== Blocked, moved to stow, and let out (R106 to R109, R114) ====
section
/-! A STOWING dish is blocked by its reasons, a blocked one stows when none is left; EL is sent to stow; the level's
leaving lets the dish out. -/

open Sys2Proof

namespace Sys2Proof.Machine

section
variable {b s t v : Block} {d e : DishId} {k j : AxisKind}

/-! ### A stow broken off (R108) -/

/-- One axis of a stow broken off. -/
def Block.haltAxis (b : Block) (d : DishId) (k : AxisKind) : Block := if b.axisLost d k then b else b.brakeInPlace d k

theorem haltStow_eq (b : Block) (d : DishId) :
    b.haltStow d = ((b.withdrawStow d).haltAxis d .az).haltAxis d .el := rfl

theorem beside_haltAxis (b : Block) (d : DishId) (k : AxisKind) : (b.haltAxis d k).beside = b.beside := by
  unfold Block.haltAxis
  split <;> simp

theorem asFit_haltAxis (b : Block) (d : DishId) (k : AxisKind) : b.AsFit d k (b.haltAxis d k) := by
  unfold Block.haltAxis
  split
  · exact asFit_of_axis rfl
  · exact asFit_brakeInPlace b d k

theorem sameDrive_haltAxis (other : ¬(d = e ∧ k = j)) : b.SameDrive e j (b.haltAxis d k) := by
  unfold Block.haltAxis
  split
  · exact sameDrive_refl b e j
  · exact sameDrive_brakeInPlace other

theorem braking_haltAxis (unlocked : b.axisLocks d k = 0) : b.Braking (b.haltAxis d k) d k := by
  unfold Block.haltAxis
  split
  · next lost =>
    rw [axisLost_of_unlocked unlocked] at lost
    intro locked faulted offline
    simp [AxisState.lost, locked, faulted, offline] at lost
  · exact braking_brakeInPlace b d k

theorem haltStow_row (b : Block) (d : DishId) :
    (∀ k, b.axisLocks d k = 0 → b.Braking (b.haltStow d) d k) ∧ (b.haltStow d).blockReasons d = b.blockReasons d
    ∧ d ∉ (b.haltStow d).account.stowq ∧ ((b.haltStow d).dish d).context = (b.dish d).context := by
  obtain ⟨dishes, -, axes⟩ := withdrawStow_kept b d
  have locks : (b.withdrawStow d).lockout = b.lockout ∧ (b.withdrawStow d).site = b.site := by
    unfold Block.withdrawStow
    split <;> exact ⟨rfl, rfl⟩
  have gone := stowq_withdrawStow b d
  have axis := (sameAxes_of_axes axes).2
  have dish := (sameDishes_of_dishes dishes).2
  rw [haltStow_eq]
  generalize b.withdrawStow d = w at *
  have first := beside_haltAxis w d .az
  have beside := (beside_haltAxis (w.haltAxis d .az) d .el).trans first
  obtain ⟨-, -, -, -, lockout, -, site⟩ := records_of_beside beside
  have unlocked (u : Block) (h : u.lockout = b.lockout) (k : AxisKind) : u.axisLocks d k = b.axisLocks d k := by
    unfold Block.axisLocks
    rw [h]
  refine ⟨fun k free => ?_, ?_, by rwa [stowq_of_beside beside], ?_⟩
  · cases k with
    | az =>
      have braking := braking_haltAxis ((unlocked w locks.1 .az).trans free)
      exact braking_of_stopped (braking_of_drive braking (sameDrive_haltAxis (by simp))) (.inl (by rw [axis]))
    | el =>
      have lockout' := (records_of_beside first).2.2.2.2.1
      have braking := braking_haltAxis (b := w.haltAxis d .az) (d := d) (k := .el)
        ((unlocked _ (lockout'.trans locks.1) .el).trans free)
      refine braking_of_stopped braking (.inl ?_)
      rw [(sameDrive_haltAxis (b := w) (d := d) (k := .az) (e := d) (j := .el) (by simp)).axis, axis]
  · refine blockReasons_same (fun k => ?_) (lockout.trans locks.1) (site.trans locks.2)
    have start : b.AsFit d k w := asFit_of_axis (by rw [axis])
    cases k with
    | az => exact asFit_trans start (asFit_trans (asFit_haltAxis w d .az) (asFit_of_axis (sameDrive_haltAxis (by simp)).axis))
    | el => exact asFit_trans start (asFit_trans (asFit_of_axis (sameDrive_haltAxis (by simp)).axis) (asFit_haltAxis _ d .el))
  · rw [← dish]
    exact (congrArg Dish.context (dish_of_beside beside d) :)

/-! ### Blocked and freed (R108, R109) -/

theorem settleBlocks_stowing (mode : (b.dish d).mode = .stowing) : ∃ why, b.settleBlocks d =
    if (b.blockReasons d).any = true then (b.haltStow d).blockStow d why else b := by
  simp only [Block.settleBlocks, mode]
  exact ⟨_, rfl⟩

/-- A STOW_BLOCKED dish that stays blocked records its reasons. -/
theorem settleBlocks_blocked (mode : (b.dish d).mode = .stowBlocked) (any : (b.blockReasons d).any = true) :
    (b.settleBlocks d).dish d = { b.dish d with blocks := some (b.blockReasons d) } ∧ (b.settleBlocks d).axes = b.axes := by
  cases blocks : (b.dish d).blocks with
  | none => simp [Block.settleBlocks, mode, any, blocks, Block.modDish]
  | some old =>
    by_cases same : old = b.blockReasons d
    · have stands : b.settleBlocks d = b := by simp [Block.settleBlocks, mode, any, blocks, same]
      rw [stands, ← same, ← blocks]
      exact ⟨rfl, rfl⟩
    · simp [Block.settleBlocks, mode, any, blocks, same, Block.tellMode, Block.modDish]

theorem settleBlocks_freed (mode : (b.dish d).mode = .stowBlocked) (free : (b.blockReasons d).any = false)
    (level : b.weather.level = .stow) : b.settleBlocks d = (b.setMode d .stowing .wind).beginStow d := by
  simp [Block.settleBlocks, mode, free, level]

theorem settleBlocks_row (b : Block) (d : DishId) : let t := b.settleBlocks d
    let x := b.dish d
    let r := b.blockReasons d
    (x.mode ≠ .stowing → x.mode ≠ .stowBlocked → t = b)
    ∧ (x.mode = .stowing → ¬b.Blocked d → t = b)
    ∧ (x.mode = .stowing → b.Blocked d → (t.dish d).mode = .stowBlocked ∧ (t.dish d).blocks = some r
      ∧ (t.dish d).context = x.context ∧ d ∉ t.account.stowq ∧ ∀ k, b.axisLocks d k = 0 → b.Braking t d k)
    ∧ (x.mode = .stowBlocked → b.Blocked d → (t.dish d).mode = .stowBlocked ∧ (t.dish d).blocks = some r ∧ t.axes = b.axes)
    ∧ (x.mode = .stowBlocked → ¬b.Blocked d → b.weather.level = .stow →
      (t.dish d).mode = .stowing ∧ (t.dish d).context = x.context ∧ b.Begun t d) := by
  intro t x r
  refine ⟨fun other other' => ?_, fun mode free => ?_, fun mode blocked => ?_, fun mode blocked => ?_,
    fun mode free level => ?_⟩
  · unfold t Block.settleBlocks
    simp only []
    split
    · next h => exact absurd h other
    · next h => exact absurd h other'
    · rfl
  · obtain ⟨why, eq⟩ := settleBlocks_stowing mode
    exact eq.trans (if_neg fun any => free (blockReasons_any.mp any))
  · obtain ⟨why, eq⟩ := settleBlocks_stowing mode
    obtain ⟨braking, reasons, gone, context⟩ := haltStow_row b d
    obtain ⟨dish, axes, account, -⟩ := blockStow_row (b.haltStow d) d why
    have halted : t = (b.haltStow d).blockStow d why := eq.trans (if_pos (blockReasons_any.mpr blocked))
    rw [← halted] at dish axes account
    rw [dish]
    refine ⟨rfl, by rw [reasons], context, by rwa [account], fun k unlocked => braking_of_drive (braking k unlocked) ?_⟩
    exact sameDrive_of axes (by rw [account]) (by rw [dish])
  · obtain ⟨dish, axes⟩ := settleBlocks_blocked mode (blockReasons_any.mpr blocked)
    refine ⟨?_, ?_, axes⟩
    · exact (congrArg Dish.mode dish).trans mode
    · exact congrArg Dish.blocks dish
  · have freed : t = _ :=
      settleBlocks_freed mode (Bool.eq_false_iff.mpr fun any => free (blockReasons_any.mp any)) level
    obtain ⟨mode', -, -, -, context, -⟩ := stowing_row b d .wind
    have begun := begun_stowing (atMostStops_refl b d) rfl level .wind
    rw [← freed] at mode' context begun
    exact ⟨mode', context, begun⟩

end

end Sys2Proof.Machine
end

-- ==== The stow move, STOWED, and let out (R106, R107, R114) ====
section
/-! An EL axis HELD for its stow is sent its move or its brake; two braked axes make the dish STOWED; the level's leaving
of STOW lets it out; the points of a watch are raised (R38, R98). -/

open Sys2Proof

namespace Sys2Proof.Machine

section
variable {b t : Block} {d : DishId}

/-! ### The stow move (R106, R107) -/

/-- The EL axis of a dish is HELD under its STOW need. -/
abbrev Block.Served (b : Block) (d : DishId) : Prop :=
  (b.dish d).mode = .stowing ∧ (b.axis d .el).state = .held ∧ ∃ n, (b.axis d .el).need = some n ∧ n.who = .stow

theorem heldFor_iff {k : AxisKind} {r : Requester} :
    b.heldFor d k r = true ↔ (b.axis d k).state = .held ∧ ∃ n, (b.axis d k).need = some n ∧ n.who = r := by
  simp [Block.heldFor, Option.any_eq_true]

/-- The least number of whole steps of one rate. -/
theorem ceilDiv_least {x rate : Nat} (pos : 0 < rate) :
    x ≤ ceilDiv x rate * rate ∧ ∀ n, x ≤ n * rate → ceilDiv x rate ≤ n := by
  unfold ceilDiv
  refine ⟨?_, fun n enough => ?_⟩
  · have step := Nat.lt_div_mul_add (a := x + rate - 1) pos
    omega
  · rw [← Nat.lt_succ_iff, Nat.div_lt_iff_lt_mul pos, Nat.succ_mul]
    omega

theorem moveStart_unset (h : b.site.clock = none) : b.moveStart = 0 := by
  unfold Block.moveStart
  rw [h]

theorem pursueStow_row (b : Block) (d : DishId) : let t := b.pursueStow d
    let el := b.axis d .el
    let stowed := ∃ r, el.reported = some r ∧ absDiff r.pos 89000 ≤ el.cfg.tol
    let far := absDiff 89000 (b.pos d .el)
    (¬b.Served d → t = b)
    ∧ (b.Served d → stowed → (t.axis d .el).state = .engaging ∧ (t.axis d .el).order = .brake ∧ (t.axis d .el).need = none)
    ∧ (b.Served d → ¬stowed → 0 < el.cfg.stowRate → ∃ dur,
      (t.axis d .el).state = .moving ∧ (t.axis d .el).order = .move 89000 dur b.moveStart
      ∧ (t.axis d .el).need = el.need ∧ t.claim d .el = b.claim d .el
      ∧ 10 * far ≤ dur * el.cfg.stowRate ∧ (∀ n, 10 * far ≤ n * el.cfg.stowRate → dur ≤ n)
      ∧ (b.site.clock = none → b.moveStart = 0)) := by
  intro t el stowed far
  have served : (b.dish d).mode = .stowing ∧ b.heldFor d .el .stow = true ↔ b.Served d := by rw [heldFor_iff]
  have near : el.near stowEl = true ↔ stowed := near_iff
  have split_ : t = if (b.dish d).mode = .stowing ∧ b.heldFor d .el .stow = true then
      if el.near stowEl = true then b.orderBrake d .el
      else b.orderMove d .el stowEl (ceilDiv (10 * absDiff stowEl (b.pos d .el)) el.cfg.stowRate) b.moveStart
    else b := rfl
  refine ⟨fun idle => split_.trans (if_neg fun h => idle (served.mp h)), fun h there => ?_, fun h away rated => ?_⟩
  · rw [split_.trans ((if_pos (served.mpr h)).trans (if_pos (near.mpr there)))]
    simp [Block.orderBrake, dropNeed_eq]
  · obtain ⟨enough, least⟩ := ceilDiv_least (x := 10 * far) rated
    rw [split_.trans ((if_pos (served.mpr h)).trans (if_neg fun there => away (near.mp there)))]
    refine ⟨ceilDiv (10 * far) el.cfg.stowRate, ?_, ?_, ?_, ?_, enough, least, moveStart_unset⟩
    · simp
    · rw [axis_orderMove, if_pos ⟨rfl, rfl⟩]
      rfl
    · rw [axis_orderMove, if_pos ⟨rfl, rfl⟩]
      rfl
    · simp

theorem finishStow_row (b : Block) (d : DishId) :
    let braked := (b.dish d).mode = .stowing ∧ (∀ k, (b.axis d k).state = .braked ∧ (b.axis d k).need = none)
      ∧ d ∉ b.account.stowq
    (braked → ((b.finishStow d).dish d).mode = .stowed) ∧ (¬braked → b.finishStow d = b) := by
  intro braked
  have checks : ((b.dish d).mode = .stowing ∧ (b.axis d .az).state = .braked ∧ (b.axis d .az).need = none
      ∧ (b.axis d .el).state = .braked ∧ (b.axis d .el).need = none ∧ (!b.account.stowq.contains d) = true) ↔ braked := by
    have both : (∀ k, (b.axis d k).state = .braked ∧ (b.axis d k).need = none)
        ↔ ((b.axis d .az).state = .braked ∧ (b.axis d .az).need = none)
          ∧ (b.axis d .el).state = .braked ∧ (b.axis d .el).need = none :=
      ⟨fun h => ⟨h .az, h .el⟩, fun h k => by cases k; exacts [h.1, h.2]⟩
    simp only [braked, both, Bool.not_eq_true', List.contains_eq_mem, decide_eq_false_iff_not, and_assoc]
  unfold Block.finishStow
  refine ⟨fun h => ?_, fun h => if_neg fun h' => h (checks.mp h')⟩
  simp only []
  rw [if_pos (checks.mpr h), dish_setMode, if_pos rfl]

/-! ### Let out (R114) -/

theorem leaveStowDish_stands (halted : ¬((b.dish d).mode = .stowing ∨ (b.dish d).mode = .stowBlocked))
    (stowed : (b.dish d).mode ≠ .stowed) : b.leaveStowDish d = b := by
  unfold Block.leaveStowDish
  exact if_neg (by tauto)

/-- The dish that the level's leaving of STOW lets out, where it stands. -/
def Block.letOut (b : Block) (d : DishId) : Block := if (b.dish d).mode = .stowed then b else b.brakeBoth d

theorem letOut_row (b : Block) (d : DishId) : ((b.letOut d).dish d).context = (b.dish d).context
    ∧ (b.letOut d).site = b.site ∧ ((b.dish d).mode = .stowed → b.letOut d = b)
    ∧ ((b.dish d).mode ≠ .stowed → b.letOut d = b.brakeBoth d) := by
  unfold Block.letOut
  split
  · next stowed => exact ⟨rfl, rfl, fun _ => rfl, fun other => absurd stowed other⟩
  · next other =>
    have beside := (beside_brakeInPlace (b.brakeInPlace d .az) d .el).trans (beside_brakeInPlace b d .az)
    exact ⟨(congrArg Dish.context (dish_brakeBoth b d d) :), (records_of_beside beside).2.2.2.2.2.2,
      fun stowed => absurd stowed other, fun _ => rfl⟩

theorem leaveStowDish_empty (mode : (b.dish d).mode = .stowing ∨ (b.dish d).mode = .stowed ∨ (b.dish d).mode = .stowBlocked)
    (empty : (b.dish d).context = none) : b.leaveStowDish d = (b.letOut d).setMode d .idle .resume := by
  have context := (letOut_row b d).1
  unfold Block.leaveStowDish
  refine (if_pos mode).trans (if_pos ?_)
  exact (congrArg Option.isNone context).trans (by rw [empty]; rfl)

theorem leaveStowDish_kept (mode : (b.dish d).mode = .stowing ∨ (b.dish d).mode = .stowed ∨ (b.dish d).mode = .stowBlocked)
    (context : (b.dish d).context ≠ none) :
    (b.site.cfg.resume = .manual → b.leaveStowDish d = (b.letOut d).setMode d .stowed .wind)
    ∧ (b.site.cfg.resume = .auto → b.leaveStowDish d = (b.letOut d).resumeDish d) := by
  obtain ⟨same, site, -⟩ := letOut_row b d
  have full : ¬((b.letOut d).dish d).context.isNone = true := by
    rw [same]
    simpa using context
  have eq : b.leaveStowDish d = _ := (if_pos mode).trans (if_neg full)
  unfold Block.letOut at site ⊢
  refine ⟨fun manual => ?_, fun auto => ?_⟩
  · rw [eq, site, manual]
  · rw [eq, site, auto]

theorem leaveStowDish_row (b : Block) (d : DishId) : let t := b.leaveStowDish d
    let x := b.dish d
    let halted := x.mode = .stowing ∨ x.mode = .stowBlocked
    (¬halted → x.mode ≠ .stowed → t = b)
    ∧ (halted ∨ x.mode = .stowed → (x.context = none ∨ b.site.cfg.resume = .manual →
      (t.dish d).mode = (if x.context = none then .idle else .stowed) ∧ (t.dish d).blocks = none
      ∧ (t.dish d).context = x.context ∧ (x.mode = .stowed → t.axes = b.axes)
      ∧ (halted → ∀ k, b.Braking t d k)))
    ∧ (x.context ≠ none → b.site.cfg.resume = .auto →
      (x.mode = .stowed → t = b.resumeDish d) ∧ (halted → t = Block.resumeDish (b.brakeBoth d) d)) := by
  intro t x halted
  obtain ⟨context, -, standing, braked⟩ := letOut_row b d
  have unstowed (h : halted) : x.mode ≠ .stowed := by
    rcases h with h | h <;> simp [h]
  have within (h : halted ∨ x.mode = .stowed) : x.mode = .stowing ∨ x.mode = .stowed ∨ x.mode = .stowBlocked := by tauto
  refine ⟨leaveStowDish_stands, fun within_ rests => ?_, fun full auto => ?_⟩
  · have mode := within within_
    obtain ⟨m, why, eq, which, free⟩ : ∃ m why, t = (b.letOut d).setMode d m why
        ∧ m = (if x.context = none then .idle else .stowed) ∧ m ≠ .stowBlocked := by
      by_cases empty : x.context = none
      · exact ⟨.idle, .resume, leaveStowDish_empty mode empty, (if_pos empty).symm, nofun⟩
      · exact ⟨.stowed, .wind, (leaveStowDish_kept mode empty).1 (rests.resolve_left empty), (if_neg empty).symm, nofun⟩
    have dish := dish_setMode (b.letOut d) d d m why
    rw [← eq, if_pos rfl] at dish
    refine ⟨?_, ?_, ?_, fun stowed => ?_, fun h k => ?_⟩
    · rw [dish, ← which]
    · rw [dish]
      exact if_neg free
    · rw [dish]
      exact context
    · rw [eq, (setMode_kept ..).1, standing stowed]
    · rw [eq]
      refine braking_of_drive ?_ (sameDrive_setMode ..)
      rw [braked (unstowed h)]
      exact braking_brakeBoth b d k
  · have eq (h : halted ∨ x.mode = .stowed) : t = _ := (leaveStowDish_kept (within h) full).2 auto
    exact ⟨fun stowed => by rw [eq (.inr stowed), standing stowed], fun h => by rw [eq (.inl h), braked (unstowed h)]⟩

/-! ### Points raised for a watch (R38, R98) -/

/-- A point raised to the watch minimum, within the upper soft limit. -/
def Block.raised (b : Block) (d : DishId) (p : Point) : Point :=
  if p.el < b.site.cfg.watchMinEl then { p with el := min (b.axis d .el).cfg.hi b.site.cfg.watchMinEl, clamped := true }
  else p

theorem raisePoints_none (h : ∀ p ∈ b.queue d, b.site.cfg.watchMinEl ≤ p.el) : b.raisePoints d = b := by
  have none_ : (b.queue d).find? (fun p => decide (p.el < b.site.cfg.watchMinEl)) = none :=
    List.find?_eq_none.mpr fun p mem => by simpa using h p mem
  unfold Block.raisePoints
  simp only [none_]

theorem raisePoints_first {p : Point} {before after : List Point} (queue : b.queue d = before ++ p :: after)
    (fine : ∀ q ∈ before, b.site.cfg.watchMinEl ≤ q.el) (low : p.el < b.site.cfg.watchMinEl) :
    b.raisePoints d = (b.setQueue d ((b.queue d).map (b.raised d))).openClamp d (b.raised d p) p.el := by
  have first : (b.queue d).find? (fun p => decide (p.el < b.site.cfg.watchMinEl)) = some p := by
    have none_ : before.find? (fun p => decide (p.el < b.site.cfg.watchMinEl)) = none :=
      List.find?_eq_none.mpr fun q mem => by simpa using fine q mem
    rw [queue, List.find?_append, none_]
    simp [low]
  unfold Block.raisePoints
  simp only [first]
  rfl

theorem raisePoints_row (b : Block) (d : DishId) : let t := b.raisePoints d
    let low := b.site.cfg.watchMinEl
    let put := b.setQueue d ((b.queue d).map (b.raised d))
    ((∀ p ∈ b.queue d, low ≤ p.el) → t = b)
    ∧ ∀ before p after, b.queue d = before ++ p :: after → (∀ q ∈ before, low ≤ q.el) → p.el < low →
      ((b.dish d).clampOpen = true → t = put)
      ∧ ((b.dish d).clampOpen = false → t = (put.setDish d { b.dish d with clampOpen := true }).tell .clamped (dishNum d)
        [f6 p.time, s4 p.sky, s4 p.el, s4 p.az, s4 (min (b.axis d .el).cfg.hi low)]) := by
  intro t low put
  refine ⟨raisePoints_none, fun before p after queue fine short => ?_⟩
  have eq : t = put.openClamp d (b.raised d p) p.el := raisePoints_first queue fine short
  have raised : b.raised d p = { p with el := min (b.axis d .el).cfg.hi low, clamped := true } := if_pos short
  have dish : put.dish d = b.dish d := rfl
  rw [eq]
  unfold Block.openClamp
  rw [dish]
  refine ⟨fun open_ => if_pos open_, fun closed => ?_⟩
  rw [if_neg (by simp [closed]), Block.tellClamped, raised]
  rfl

end

end Sys2Proof.Machine
end

-- ==== The stow level's changes (R93 to R98) ====
section
/-! The level is evaluated: the timers settled, at most one change, and what a change leaves of the weather. -/

open Sys2Proof

namespace Sys2Proof.Machine

section
variable {b s t : Block} {d : DishId} {lv : Level} {why : LevelCause}

/-! ### The weather through a change of level -/

theorem weather_of_still (h : s.still = t.still) : s.weather = t.weather := (congrArg Block.weather h :)

theorem weather_raisePoints (b : Block) (d : DishId) : (b.raisePoints d).weather = b.weather := by
  unfold Block.raisePoints Block.openClamp Block.tellClamped
  simp only []
  split
  · rfl
  · split
    · rfl
    · exact (weather_of_still (still_tell ..)).trans rfl

theorem weather_resumeDish (b : Block) (d : DishId) : (b.resumeDish d).weather = b.weather := by
  have planned (c : SavedContext) : (b.resumePlan d c).1.weather = b.weather := by
    unfold Block.resumePlan
    split <;> rfl
  unfold Block.resumeDish
  split
  · rfl
  · next c _ =>
    refine Eq.trans (weather_of_still ?_) (planned c)
    simp only []
    split
    · simp
    · split
      · simp
      · next h => rw [still_beginMove, still_askMove _ _ h]; simp

theorem weather_letOut (b : Block) (d : DishId) : (b.letOut d).weather = b.weather := by
  unfold Block.letOut
  split
  · rfl
  · exact weather_of_still (still_brakeBoth b d)

theorem weather_leaveStowDish (b : Block) (d : DishId) : (b.leaveStowDish d).weather = b.weather := by
  have entered (m : Mode) (why : ModeCause) : ((b.letOut d).setMode d m why).weather = b.weather :=
    (sameGround_of_ground (setMode_kept ..).2.2.2).2.1.trans (weather_letOut b d)
  by_cases mode : (b.dish d).mode = .stowing ∨ (b.dish d).mode = .stowed ∨ (b.dish d).mode = .stowBlocked
  · by_cases empty : (b.dish d).context = none
    · rw [leaveStowDish_empty mode empty, entered]
    · obtain ⟨manual, auto⟩ := leaveStowDish_kept mode empty
      cases policy : b.site.cfg.resume with
      | manual => rw [manual policy, entered]
      | auto => rw [auto policy, weather_resumeDish, weather_letOut]
  · rw [leaveStowDish_stands (by tauto) (by tauto)]

theorem weather_leaveStowLevel (b : Block) : b.leaveStowLevel.weather = b.weather :=
  (each_keeps Block.weather allDishes _ (fun d s => weather_leaveStowDish s d) _).trans rfl

theorem weather_shedDish {u : Block} {v : Bool} (h : b.shedDish d = .ok (u, v)) : u.weather = b.weather := by
  unfold Block.shedDish at h
  (repeat' split at h) <;> simp at h
  next t n asked =>
    obtain ⟨rfl, -⟩ := h
    have needs (s : Block) : (s.holdNeeds d).weather = s.weather := (records_of_beside (beside_holdNeeds s d)).2.2.1
    have held (s : Block) : (s.bothAxes fun k u => u.orderHold d k).weather = s.weather :=
      weather_of_still (by simp [Block.bothAxes])
    rw [weather_of_still (still_beginMove ..), needs, held, (sameGround_of_ground (setMode_kept ..).2.2.2).2.1]
    exact (weather_of_still (still_saveContext ..)).trans (weather_of_still (still_askMove b d asked))

theorem weather_autoShedDish (b : Block) (d : DishId) : (b.autoShedDish d).weather = b.weather := by
  unfold Block.autoShedDish
  split
  · split
    · next h => exact weather_shedDish h
    · rfl
  · rfl

theorem weather_deferredSheds (b : Block) : b.deferredSheds.weather = b.weather := by
  refine each_keeps Block.weather allDishes _ (fun d s => ?_) b
  split
  · exact weather_autoShedDish ..
  · rfl

/-! ### A change of level (R98) -/

/-- A change of level recorded and reported. -/
def Block.announced (b : Block) (lv : Level) (why : LevelCause) : Block :=
  let t := { b with weather :=
    { b.weather with level := lv, cause := why, changedSec := b.weather.sec, changedTime := b.site.clock } }
  t.report .stowLevel 0 [f1 lv.ctorIdx] (some (f1 b.weather.level.ctorIdx))
    ([f1 why.ctorIdx, fb t.weather.force] ++ t.figureFields)

theorem announced_row (b : Block) (lv : Level) (why : LevelCause) : let t := b.announced lv why
    (t.weather.level = lv ∧ t.weather.cause = why ∧ t.weather.force = b.weather.force)
    ∧ t.axes = b.axes ∧ t.dishes = b.dishes ∧ t.points = b.points ∧ t.planner = b.planner ∧ t.account = b.account
    ∧ t.site = b.site ∧ t.field = b.field ∧ t.lockout = b.lockout := by
  simp [Block.announced]

theorem changeLevel_stow (b : Block) (why : LevelCause) : b.changeLevel .stow why = (b.announced .stow why).enterStowLevel := rfl

theorem changeLevel_watch (b : Block) (why : LevelCause) : b.changeLevel .watch why =
    (if b.weather.level = .stow then (b.announced .watch why).leaveStowLevel else b.announced .watch why).each allDishes
      fun d s => s.raisePoints d := rfl

theorem changeLevel_calm (b : Block) (why : LevelCause) : b.changeLevel .calm why = (b.announced .calm why).deferredSheds := rfl

theorem weather_changeLevel (b : Block) (lv : Level) (why : LevelCause) :
    (b.changeLevel lv why).weather = (b.announced lv why).weather := by
  cases lv with
  | stow =>
    rw [changeLevel_stow]
    exact weather_of_still (still_enterStowLevel _)
  | watch =>
    rw [changeLevel_watch, each_keeps Block.weather allDishes _ fun d s => weather_raisePoints s d]
    split
    · exact weather_leaveStowLevel _
    · rfl
  | calm =>
    rw [changeLevel_calm]
    exact weather_deferredSheds _

/-! ### The evaluation (R93) -/

theorem evaluate_stays (h : b.settleTimers.nextLevel = none) : b.evaluate = b.settleTimers := by
  simp only [Block.evaluate, h]

theorem evaluate_goes (h : b.settleTimers.nextLevel = some (lv, why)) :
    b.evaluate = (b.settleTimers.changeLevel lv why).settleTimers := by
  simp only [Block.evaluate, h]

theorem level_stays (h : b.settleTimers.nextLevel = none) :
    b.evaluate.weather.level = b.weather.level ∧ b.evaluate.weather.cause = b.weather.cause := by
  rw [evaluate_stays h]
  exact ⟨rfl, rfl⟩

theorem level_goes (h : b.settleTimers.nextLevel = some (lv, why)) :
    b.evaluate.weather.level = lv ∧ b.evaluate.weather.cause = why := by
  obtain ⟨level, cause, -⟩ := (announced_row b.settleTimers lv why).1
  rw [← weather_changeLevel] at level cause
  rw [evaluate_goes h]
  exact ⟨level, cause⟩

/-- The stow order outlives an evaluation. -/
theorem force_evaluate (b : Block) : b.evaluate.weather.force = b.weather.force := by
  cases h : b.settleTimers.nextLevel with
  | none =>
    rw [evaluate_stays h]
    rfl
  | some next =>
    have force := (announced_row b.settleTimers next.1 next.2).1.2.2
    rw [← weather_changeLevel] at force
    rw [evaluate_goes h]
    exact force

/-! ### The next level (R94 to R96) -/

theorem calmBelow_iff {mean gust : Nat} :
    b.calmBelow mean gust = true ↔ b.windKnown = true ∧ b.siteMean < mean ∧ b.siteGust < gust := by
  simp [Block.calmBelow, and_assoc]

/-- The release hold has run its time (R95). -/
def Weather.released (w : Weather) (relHold : Nat) : Prop :=
  w.hold = .complete ∨ ∃ n, w.hold = .running n ∧ relHold ≤ n

theorem hold_settled (stow : b.weather.level = .stow) : b.settleTimers.weather.hold = .complete
    ↔ b.calmBelow b.site.cfg.relMean b.site.cfg.relGust = true ∧ b.weather.released b.site.cfg.relHold := by
  unfold Block.settleTimers Weather.released
  by_cases calm : b.calmBelow b.site.cfg.relMean b.site.cfg.relGust = true
  · cases hold : b.weather.hold with
    | stopped => simp [stow, calm, hold]
    | complete => simp [stow, calm, hold]
    | running n => by_cases run : b.site.cfg.relHold ≤ n <;> simp [stow, calm, hold, run]
  · simp [calm]

theorem nextLevel_stow (stow : b.weather.level = .stow) : b.settleTimers.nextLevel =
    if b.settleTimers.weather.hold = .complete ∧ (!b.weather.force) = true then some (.watch, .release) else none := by
  have level : b.settleTimers.weather.level = .stow := stow
  unfold Block.nextLevel
  simp only [level]
  rfl

theorem graced_settled (off : b.weather.level ≠ .stow) :
    b.settleTimers.weather.unknown.any (fun n => decide (b.site.cfg.grace ≤ n)) = true
    ↔ ¬b.windKnown = true ∧ b.site.cfg.grace ≤ b.weather.unknown.getD 0 := by
  unfold Block.settleTimers
  by_cases known : b.windKnown = true <;> simp [off, known]

theorem watchHold_settled (watch : b.weather.level = .watch) :
    b.settleTimers.weather.watchHold.any (fun n => decide (watchHoldSeconds ≤ n)) = true
    ↔ b.calmBelow b.site.cfg.watchRelMean b.site.cfg.watchRelGust = true ∧ 300 ≤ b.weather.watchHold.getD 0 := by
  unfold Block.settleTimers watchHoldSeconds
  by_cases calm : b.calmBelow b.site.cfg.watchRelMean b.site.cfg.watchRelGust = true <;> simp [watch, calm]

/-- The change from CALM or WATCH where nothing calls for STOW. -/
def Block.nextBelow (b : Block) : Option (Level × LevelCause) :=
  if b.weather.level = .calm then
    if b.windKnown = true ∧ b.site.cfg.watchMean ≤ b.siteMean then some (.watch, .mean)
    else if b.windKnown = true ∧ b.site.cfg.watchGust ≤ b.siteGust then some (.watch, .gust)
    else none
  else if b.settleTimers.weather.watchHold.any (fun n => decide (watchHoldSeconds ≤ n)) = true then some (.calm, .calmed)
  else none

theorem nextLevel_off (off : b.weather.level ≠ .stow) : b.settleTimers.nextLevel =
    if b.windKnown = true ∧ b.site.cfg.stowMean ≤ b.siteMean then some (.stow, .mean)
    else if b.windKnown = true ∧ b.site.cfg.stowGust ≤ b.siteGust then some (.stow, .gust)
    else if b.settleTimers.weather.unknown.any (fun n => decide (b.site.cfg.grace ≤ n)) = true then some (.stow, .unknown)
    else if b.weather.force = true then some (.stow, .force)
    else b.nextBelow := by
  unfold Block.nextLevel Block.nextBelow
  cases h : b.weather.level with
  | stow => exact absurd h off
  | calm | watch =>
    have level : b.settleTimers.weather.level = _ := h
    simp only [level]
    rfl

end

end Sys2Proof.Machine
end

-- ==== The level enters STOW (R98, R104) ====
section
/-! On entering STOW every live group is aborted, every HOLD request withdrawn, and every configured dish taken in. -/

open Sys2Proof

namespace Sys2Proof.Machine

section
variable {b s t : Block} {d e : DishId} {g : GroupId}

/-! ### Every live group aborted (R63) -/

/-- A group aborted by the wind or the latch, where it is live. -/
def Block.abortLive (g : GroupId) (r : EndReason) (b : Block) : Block :=
  match b.group g with
  | some x => if x.state.live then (b.endGroup g .aborted (some r) none).withdraw (.group g) else b
  | none => b

theorem abortAll_eq (b : Block) (r : EndReason) : b.abortAll r = b.each allGroups fun g s => s.abortLive g r := rfl

theorem abortLive_other (s : Block) (r : EndReason) {e : GroupId} (h : e ≠ g) : (s.abortLive e r).group g = s.group g := by
  unfold Block.abortLive
  split
  · split
    · simp [group_endGroup, h]
    · rfl
  · rfl

theorem abortLive_dead (s : Block) (r : EndReason) {x : Group} (found : (s.abortLive g r).group g = some x) :
    x.state.live = false := by
  unfold Block.abortLive at found
  split at found
  · next y own =>
    split at found
    · simp only [withdraw_kept, group_endGroup, if_pos, own, Option.map_some, Option.some.injEq] at found
      rw [← found]
      rfl
    · next dead =>
      obtain rfl : y = x := Option.some.inj (own.symm.trans found)
      simpa using dead
  · next own => simp [own] at found

theorem abortAll_dead (b : Block) (r : EndReason) (g : GroupId) :
    ∀ x, (b.abortAll r).group g = some x → x.state.live = false := by
  rw [abortAll_eq]
  refine each_at (fun _ => True) (fun s => ∀ x, s.group g = some x → x.state.live = false) _ g (fun _ _ _ _ => trivial)
    (fun s _ x found => abortLive_dead s r found) (fun e s other dead => ?_) _ allGroups_nodup (mem_allGroups g) b trivial
  rwa [abortLive_other s r other]

/-! ### Every HOLD request withdrawn (R98) -/

/-- A dish's HOLD request withdrawn by the part. -/
def Block.dropHold (b : Block) (d : DishId) : Block :=
  if (b.dish d).pendingReq = some .hold then b.losePending d .wind else b

theorem dropHold_row (b : Block) (d : DishId) : ((b.dropHold d).dish d).pendingReq ≠ some .hold
    ∧ ∀ e, d ≠ e → (b.dropHold d).dish e = b.dish e := by
  unfold Block.dropHold
  by_cases hold : (b.dish d).pendingReq = some .hold
  · have dish (e : DishId) : (b.losePending d .wind).dish e = if d = e then { b.dish d with pendingReq := none } else b.dish e := by
      have same : (b.losePending d .wind).dish e = (b.withdrawPending d).dish e := by
        simp [Block.losePending, hold, Block.tellMode]
      exact same.trans ((withdrawPending_left b d).1 e)
    rw [if_pos hold]
    exact ⟨by simp [dish], fun e other => (dish e).trans (if_neg other)⟩
  · rw [if_neg hold]
    exact ⟨hold, fun _ _ => rfl⟩

theorem planner_dropHold (b : Block) (d : DishId) : (b.dropHold d).planner = b.planner := by
  unfold Block.dropHold
  split <;> simp

/-! ### Every dish taken in (R104) -/

/-- A dish is in stow, or on its way there. -/
def Dish.InStow (x : Dish) : Prop := x.mode = .stowing ∨ x.mode = .stowed ∨ x.mode = .stowBlocked

/-- A dish that the level's entry takes into stow, taken. -/
def Block.takeIn (b : Block) (d : DishId) : Block := if b.mustStow d then b.takeIntoStow d else b

theorem groups_takeIntoStow (b : Block) (d : DishId) : (b.takeIntoStow d).group = b.group := by
  have ended : (b.endMove d).planner = (b.setMove d none).planner := (records_of_beside (beside_endMove b d)).1
  have saved : ((b.cleared d).planner) = (b.setMove d none).planner := by
    rw [← ended, ← (withdrawPending_kept (b.endMove d) d).2.2.1]
    unfold Block.cleared Block.saveContext
    split <;> rfl
  have planner : (b.takeIntoStow d).planner = (b.setMove d none).planner := by
    rw [← saved, takeIntoStow_eq]
    split
    · exact (blockStow_row ..).2.2.2
    · exact (stowing_row ..).2.2.2.2.2.2
  funext g
  simp only [Block.group, planner]
  rfl

/-- A dish taken into stow leaves every other but for its park requests. -/
theorem takeIntoStow_other (other : d ≠ e) :
    { (b.takeIntoStow d).dish e with parkReq := (b.dish e).parkReq } = b.dish e := by
  have ended := dish_endMove b d e
  have cleared : (b.cleared d).dish e = (b.endMove d).dish e := by
    have withdrawn := ((withdrawPending_left (b.endMove d) d).1 e).trans (if_neg other)
    unfold Block.cleared Block.saveContext
    split
    · exact withdrawn
    · simpa [Block.modDish, other] using withdrawn
  have taken : { (b.takeIntoStow d).dish e with parkReq := ((b.cleared d).dish e).parkReq } = (b.cleared d).dish e := by
    rw [takeIntoStow_eq]
    split
    · unfold Block.blockStow
      rw [dish_setMode, if_neg other]
      simp [Block.modDish, other]
    · have begun := (beginStow_kept ((b.cleared d).setMode d .stowing .wind) d e).1
      rwa [dish_setMode, if_neg other] at begun
  rw [cleared] at taken
  calc { (b.takeIntoStow d).dish e with parkReq := (b.dish e).parkReq }
      = { { (b.takeIntoStow d).dish e with parkReq := ((b.endMove d).dish e).parkReq } with
          parkReq := (b.dish e).parkReq } := rfl
    _ = { (b.endMove d).dish e with parkReq := (b.dish e).parkReq } := by rw [taken]
    _ = b.dish e := ended

theorem takeIn_row (b : Block) (d : DishId) :
    (b.configured d = true → ((b.takeIn d).dish d).InStow)
    ∧ ((b.dish d).pendingReq ≠ some .hold → ((b.takeIn d).dish d).pendingReq ≠ some .hold)
    ∧ (∀ e, d ≠ e → ((b.takeIn d).dish e).mode = (b.dish e).mode
      ∧ ((b.takeIn d).dish e).pendingReq = (b.dish e).pendingReq) ∧ (b.takeIn d).group = b.group := by
  unfold Block.takeIn
  split
  · obtain ⟨-, pending, -, -, -, -, blocked, free⟩ := takeIntoStow_row b d
    refine ⟨fun _ => ?_, fun _ => by simp [pending], fun e other => ?_, groups_takeIntoStow b d⟩
    · by_cases h : b.Blocked d
      · exact .inr (.inr (blocked h).1)
      · exact .inl (free h).1
    · have same := takeIntoStow_other (b := b) other
      exact ⟨(congrArg Dish.mode same :), (congrArg Dish.pendingReq same :)⟩
  · next stays =>
    refine ⟨fun conf => ?_, id, fun _ _ => ⟨rfl, rfl⟩, rfl⟩
    simp only [Block.mustStow, conf, Bool.true_and, Bool.and_eq_true, bne_iff_ne, ne_eq, not_and, not_not] at stays
    unfold Dish.InStow
    tauto

theorem configured_of_still (h : s.still = t.still) : s.configured = t.configured := by
  have field : s.field = t.field := (congrArg Block.field h :)
  funext d
  simp only [Block.configured, field]

/-! ### The entry -/

theorem enterStowLevel_eq (b : Block) : b.enterStowLevel =
    (((b.abortAll .wind).each allDishes fun d s => s.dropHold d).each allDishes fun d s => s.takeIn d).callExamine := rfl

theorem callExamine_kept (b : Block) : b.callExamine.group = b.group ∧ b.callExamine.dish = b.dish := ⟨rfl, rfl⟩

theorem enterStowLevel_row (b : Block) : (∀ g x, b.enterStowLevel.group g = some x → x.state.live = false)
    ∧ ∀ d, (b.enterStowLevel.dish d).pendingReq ≠ some .hold
      ∧ (b.configured d = true → (b.enterStowLevel.dish d).InStow) := by
  have dropped (d : DishId) : ((((b.abortAll .wind).each allDishes fun d s => s.dropHold d).dish d).pendingReq ≠ some .hold) := by
    refine each_at (fun _ => True) (fun s => (s.dish d).pendingReq ≠ some .hold) _ d (fun _ _ _ _ => trivial)
      (fun s _ => (dropHold_row s d).1) (fun e s other h => ?_) _ allDishes_nodup (mem_allDishes d) _ trivial
    rwa [(dropHold_row s e).2 d other]
  have groups : ((b.abortAll .wind).each allDishes fun d s => s.dropHold d).planner = (b.abortAll .wind).planner :=
    each_keeps Block.planner allDishes (fun d s => s.dropHold d) (fun d s => planner_dropHold s d) _
  have conf : ((b.abortAll .wind).each allDishes fun d s => s.dropHold d).configured = b.configured := by
    refine (each_keeps Block.configured allDishes (fun d s => s.dropHold d) (fun d s => ?_) _).trans
      (configured_of_still (still_abortAll b .wind))
    refine configured_of_still ?_
    unfold Block.dropHold
    split <;> simp
  rw [enterStowLevel_eq, (callExamine_kept _).1, (callExamine_kept _).2]
  generalize ((b.abortAll .wind).each allDishes fun d s => s.dropHold d) = w at dropped groups conf ⊢
  refine ⟨fun g x found => ?_, fun d => ⟨?_, fun configured => ?_⟩⟩
  · have same : (w.each allDishes fun d s => s.takeIn d).group = w.group :=
      each_keeps Block.group allDishes (fun d s => s.takeIn d) (fun d s => (takeIn_row s d).2.2.2) w
    refine abortAll_dead b .wind g x ?_
    rw [same] at found
    simpa only [Block.group, groups] using found
  · refine each_holds (fun s : Block => (s.dish d).pendingReq ≠ some .hold) allDishes (fun d s => s.takeIn d)
      (fun e s h => ?_) w (dropped d)
    by_cases own : e = d
    · subst own
      exact (takeIn_row s e).2.1 h
    · rwa [((takeIn_row s e).2.2.1 d own).2]
  · refine each_at (fun s => s.configured d = true) (fun s => (s.dish d).InStow) (fun d s => s.takeIn d) d
      (fun e s _ h => ?_) (fun s h => (takeIn_row s d).1 h) (fun e s other h => ?_) _ allDishes_nodup (mem_allDishes d) w
      (by rwa [conf])
    · have still : (s.takeIn e).still = s.still := by
        unfold Block.takeIn
        split <;> simp
      rwa [configured_of_still still]
    · unfold Dish.InStow
      rwa [((takeIn_row s e).2.2.1 d other).1]

end

end Sys2Proof.Machine
end

-- ==== The level rules (R93 to R109, R114) ====
section
/-! The level by its figures, what its changes do, and the statement on the level and on a dish under it. -/

open Sys2Proof

namespace Sys2Proof.Machine

section
variable {b s t : Block} {d e : DishId} {why : LevelCause}

/-! ### STOW_NOW and STOW_RELEASE (R96, R98) -/

theorem level_forced (b : Block) (force : b.weather.force = true) : b.evaluate.weather.level = .stow := by
  by_cases stow : b.weather.level = .stow
  · have stays : b.settleTimers.nextLevel = none := by simp [nextLevel_stow stow, force]
    rw [(level_stays stays).1, stow]
  · obtain ⟨why, goes⟩ : ∃ why, b.settleTimers.nextLevel = some (.stow, why) := by
      rw [nextLevel_off stow, if_pos force]
      (repeat' split) <;> exact ⟨_, rfl⟩
    exact (level_goes goes).1

/-- STOW_NOW and STOW_RELEASE, by the order they leave (R96, R98). -/
theorem stowOrders (s : State) (tag : Tag) :
    (s.takes (.stowNow tag) →
      let f := s.found (.stowNow tag)
      let u := ({ f with weather := { f.weather with force := true } }).evaluate
      exec (.stowNow tag) s = .next (s.replies u .ok u.levelReply) ∧ u.weather.level = .stow ∧ u.weather.force = true)
    ∧ (s.takes (.stowRelease tag) →
      let f := s.found (.stowRelease tag)
      let u := ({ f with weather := { f.weather with force := false } }).evaluate
      exec (.stowRelease tag) s = .next (s.replies u .ok u.levelReply) ∧ u.weather.force = false) :=
  ⟨fun taken => ⟨request_replies taken rfl, level_forced _ rfl, force_evaluate _⟩,
    fun taken => ⟨request_replies taken rfl, force_evaluate _⟩⟩

/-! ### The level by its figures (R94 to R96) -/

theorem level_fromStow (stow : b.weather.level = .stow) :
    let below := b.windKnown = true ∧ b.siteMean < b.site.cfg.relMean ∧ b.siteGust < b.site.cfg.relGust
    let held := b.weather.released b.site.cfg.relHold
    (below → held → b.weather.force = false → b.evaluate.weather.level = .watch ∧ b.evaluate.weather.cause = .release)
    ∧ (¬(below ∧ held ∧ b.weather.force = false) →
      b.evaluate.weather.level = .stow ∧ b.evaluate.weather.cause = b.weather.cause) := by
  intro below held
  have next := nextLevel_stow stow
  have freed : b.settleTimers.weather.hold = .complete ∧ (!b.weather.force) = true ↔ below ∧ held ∧ b.weather.force = false := by
    rw [hold_settled stow, calmBelow_iff, Bool.not_eq_true', and_assoc]
  refine ⟨fun calm done free => level_goes (next.trans (if_pos (freed.mpr ⟨calm, done, free⟩))), fun stays => ?_⟩
  rw [← stow]
  exact level_stays (next.trans (if_neg fun h => stays (freed.mp h)))

theorem level_offStow (off : b.weather.level ≠ .stow) :
    let c := b.site.cfg
    let w := b.weather
    let known := b.windKnown = true
    let below := fun (mean gust : Nat) => known ∧ b.siteMean < mean ∧ b.siteGust < gust
    let mean := known ∧ c.stowMean ≤ b.siteMean
    let gust := known ∧ c.stowGust ≤ b.siteGust
    let graced := ¬known ∧ c.grace ≤ w.unknown.getD 0
    let went := fun (lv : Level) (why : LevelCause) => b.evaluate.weather.level = lv ∧ b.evaluate.weather.cause = why
    (mean → went .stow .mean) ∧ (¬mean → gust → went .stow .gust)
    ∧ (¬mean → ¬gust → graced → went .stow .unknown)
    ∧ (¬mean → ¬gust → ¬graced → w.force = true → went .stow .force)
    ∧ (¬mean → ¬gust → ¬graced → w.force = false →
      (w.level = .calm →
        (known → c.watchMean ≤ b.siteMean → went .watch .mean)
        ∧ (known → b.siteMean < c.watchMean → c.watchGust ≤ b.siteGust → went .watch .gust)
        ∧ (¬known ∨ (b.siteMean < c.watchMean ∧ b.siteGust < c.watchGust) → went .calm w.cause))
      ∧ (w.level = .watch →
        (below c.watchRelMean c.watchRelGust → 300 ≤ w.watchHold.getD 0 → went .calm .calmed)
        ∧ (¬(below c.watchRelMean c.watchRelGust ∧ 300 ≤ w.watchHold.getD 0) → went .watch w.cause))) := by
  intro c w known below mean gust graced went
  have next := nextLevel_off off
  have waited := graced_settled off
  refine ⟨fun h => level_goes (next.trans (if_pos h)),
    fun h h' => level_goes (next.trans ((if_neg h).trans (if_pos h'))),
    fun h h' h'' => level_goes (next.trans ((if_neg h).trans ((if_neg h').trans (if_pos (waited.mpr h''))))),
    fun h h' h'' force => level_goes (next.trans ((if_neg h).trans ((if_neg h').trans
      ((if_neg fun g => h'' (waited.mp g)).trans (if_pos force))))),
    fun h h' h'' free => ?_⟩
  have next : b.settleTimers.nextLevel = b.nextBelow := next.trans ((if_neg h).trans ((if_neg h').trans
    ((if_neg fun g => h'' (waited.mp g)).trans (if_neg (Bool.eq_false_iff.mp free)))))
  refine ⟨fun calm => ?_, fun watch => ?_⟩
  · have below_ : b.nextBelow = _ := if_pos calm
    refine ⟨fun k m => level_goes (next.trans (below_.trans (if_pos ⟨k, m⟩))),
      fun k m g => level_goes (next.trans (below_.trans ((if_neg fun h => ?_).trans (if_pos ⟨k, g⟩)))), fun quiet => ?_⟩
    · exact absurd h.2 (Nat.not_le.mpr m)
    · show b.evaluate.weather.level = .calm ∧ _
      rw [← calm]
      refine level_stays (next.trans (below_.trans ((if_neg fun h => ?_).trans (if_neg fun h => ?_))))
      · rcases quiet with unknown | ⟨m, -⟩
        · exact unknown h.1
        · exact absurd h.2 (Nat.not_le.mpr m)
      · rcases quiet with unknown | ⟨-, g⟩
        · exact unknown h.1
        · exact absurd h.2 (Nat.not_le.mpr g)
  · have notCalm : ¬b.weather.level = .calm := by simp [show b.weather.level = .watch from watch]
    have below_ : b.nextBelow = _ := if_neg notCalm
    have run := watchHold_settled watch
    rw [calmBelow_iff] at run
    refine ⟨fun h h' => level_goes (next.trans (below_.trans (if_pos (run.mpr ⟨h, h'⟩)))), fun h => ?_⟩
    show b.evaluate.weather.level = .watch ∧ _
    rw [← watch]
    exact level_stays (next.trans (below_.trans (if_neg fun h' => h (run.mp h'))))

/-! ### What a change does -/

theorem settleTimers_kept (b : Block) : b.settleTimers.group = b.group ∧ b.settleTimers.dish = b.dish := ⟨rfl, rfl⟩

/-- A change to a level is the next level's. -/
theorem goes_of_changed {lv : Level} (before : b.weather.level ≠ lv) (after : b.evaluate.weather.level = lv) :
    ∃ why, b.settleTimers.nextLevel = some (lv, why) := by
  cases next : b.settleTimers.nextLevel with
  | none => exact absurd ((level_stays next).1.symm.trans after) before
  | some step =>
    obtain ⟨to_, why⟩ := step
    exact ⟨why, by rw [← after, (level_goes next).1]⟩

theorem entersStow (off : b.weather.level ≠ .stow) (stow : b.evaluate.weather.level = .stow) :
    (∀ g x, b.evaluate.group g = some x → x.state.live = false)
    ∧ ∀ d, (b.evaluate.dish d).pendingReq ≠ some .hold ∧ (b.configured d = true → (b.evaluate.dish d).InStow) := by
  obtain ⟨why, next⟩ := goes_of_changed off stow
  have field := (announced_row b.settleTimers .stow why).2.2.2.2.2.2.2.1
  have conf : (b.settleTimers.announced .stow why).configured = b.configured := by
    funext d
    simp only [Block.configured, field]
    rfl
  have row := enterStowLevel_row (b.settleTimers.announced .stow why)
  rw [conf, ← changeLevel_stow] at row
  rw [evaluate_goes next, (settleTimers_kept _).1, (settleTimers_kept _).2]
  exact row

/-- The stow-pending list emptied, an examination called for (R77). -/
def Block.stowsNone (b : Block) : Block := ({ b with account := { b.account with stowq := [] } }).callExamine

theorem leaveStowLevel_eq (b : Block) : b.leaveStowLevel = b.stowsNone.each allDishes fun d t => t.leaveStowDish d := rfl

theorem stowsNone_row (b : Block) : let u := b.stowsNone
    u.weather = b.weather ∧ u.account.stowq = [] ∧ u.account.claims = b.account.claims ∧ u.dishes = b.dishes
    ∧ u.axes = b.axes ∧ u.points = b.points ∧ u.planner = b.planner ∧ u.site = b.site :=
  ⟨rfl, rfl, rfl, rfl, rfl, rfl, rfl, rfl⟩

theorem leavesStow (stow : b.weather.level = .stow) (off : b.evaluate.weather.level ≠ .stow) : ∃ u : Block,
    u.weather.level = .watch ∧ u.account.stowq = [] ∧ u.account.claims = b.account.claims ∧ u.dishes = b.dishes
    ∧ u.axes = b.axes ∧ u.points = b.points ∧ u.planner = b.planner ∧ u.site = b.site
    ∧ b.evaluate = ((u.each allDishes fun d t => t.leaveStowDish d).each allDishes fun d t => t.raisePoints d).settleTimers := by
  have next := nextLevel_stow stow
  by_cases go : b.settleTimers.weather.hold = .complete ∧ (!b.weather.force) = true
  · rw [if_pos go] at next
    obtain ⟨⟨level, -, -⟩, axes, dishes, points, planner, account, site, -⟩ := announced_row b.settleTimers .watch .release
    have eq := evaluate_goes next
    rw [changeLevel_watch, if_pos (show b.settleTimers.weather.level = .stow from stow), leaveStowLevel_eq] at eq
    obtain ⟨weather, none_, claims, dishes', axes', points', planner', site'⟩ :=
      stowsNone_row (b.settleTimers.announced .watch .release)
    exact ⟨_, (congrArg Weather.level weather).trans level, none_, claims.trans (congrArg Account.claims account),
      dishes'.trans dishes, axes'.trans axes, points'.trans points, planner'.trans planner, site'.trans site, eq⟩
  · rw [if_neg go] at next
    exact absurd ((level_stays next).1.trans stow) off

theorem openClamp_kept (b : Block) (d : DishId) (p : Point) (asked : Int) : (b.openClamp d p asked).axes = b.axes
    ∧ (b.openClamp d p asked).site = b.site ∧ (b.openClamp d p asked).queue = b.queue := by
  refine ⟨axes_openClamp .., ?_, queue_openClamp ..⟩
  unfold Block.openClamp Block.tellClamped
  split <;> simp [Block.modDish]

/-- A dish's points raised leave every other dish's queue. -/
theorem raisePoints_kept (b : Block) (e : DishId) : (b.raisePoints e).axes = b.axes ∧ (b.raisePoints e).site = b.site
    ∧ ∀ d, (b.raisePoints e).queue d = if e = d then (b.queue e).map (b.raised e) else b.queue d := by
  cases found : (b.queue e).find? (fun p => decide (p.el < b.site.cfg.watchMinEl)) with
  | none =>
    have fine : ∀ p ∈ b.queue e, b.site.cfg.watchMinEl ≤ p.el := by simpa using found
    have same : (b.queue e).map (b.raised e) = b.queue e := by
      refine (List.map_congr_left fun p mem => ?_).trans (List.map_id _)
      exact if_neg (Int.not_lt.mpr (fine p mem))
    rw [raisePoints_none fine, same]
    refine ⟨rfl, rfl, fun d => ?_⟩
    split
    · next own => rw [own]
    · rfl
  | some p =>
    obtain ⟨low, before, after, queue, fine⟩ := List.find?_eq_some_iff_append.mp found
    obtain ⟨axes, site, queues⟩ := openClamp_kept (b.setQueue e ((b.queue e).map (b.raised e))) e (b.raised e p) p.el
    rw [raisePoints_first queue (fun q mem => by simpa using fine q mem) (by simpa using low)]
    exact ⟨axes, site, fun d => by rw [queues, queue_setQueue]⟩

theorem raised_same {c : Block} (axes : c.axes = b.axes) (site : c.site = b.site) (d : DishId) : c.raised d = b.raised d := by
  funext p
  unfold Block.raised
  rw [site, (sameAxes_of_axes axes).2]

/-- Every dish's points raised. -/
theorem queue_raiseAll (b : Block) (d : DishId) :
    (b.each allDishes fun d t => t.raisePoints d).queue d = (b.queue d).map (b.raised d) := by
  refine each_at (fun s => s.axes = b.axes ∧ s.site = b.site ∧ s.queue d = b.queue d)
    (fun s => s.queue d = (b.queue d).map (b.raised d)) _ d ?_ ?_ ?_ _ allDishes_nodup (mem_allDishes d) b ⟨rfl, rfl, rfl⟩
  · rintro e s other ⟨axes, site, queue⟩
    obtain ⟨axes', site', queues⟩ := raisePoints_kept s e
    exact ⟨axes'.trans axes, site'.trans site, ((queues d).trans (if_neg other)).trans queue⟩
  · rintro s ⟨axes, site, queue⟩
    rw [(raisePoints_kept s d).2.2 d, if_pos rfl, queue, raised_same axes site]
  · intro e s other raised
    rw [(raisePoints_kept s e).2.2 d, if_neg other, raised]

theorem startsWatch (calm : b.weather.level = .calm) (watch : b.evaluate.weather.level = .watch) :
    (∀ d, b.evaluate.queue d = (b.queue d).map (b.raised d))
    ∧ ∃ u : Block, u.weather.level = .watch ∧ u.axes = b.axes ∧ u.dishes = b.dishes ∧ u.points = b.points
      ∧ u.planner = b.planner ∧ u.account = b.account ∧ u.site = b.site
      ∧ b.evaluate = (u.each allDishes fun d t => t.raisePoints d).settleTimers := by
  obtain ⟨why, next⟩ := goes_of_changed (by simp [calm]) watch
  obtain ⟨⟨level, -, -⟩, axes, dishes, points, planner, account, site, -⟩ := announced_row b.settleTimers .watch why
  have eq := evaluate_goes next
  rw [changeLevel_watch, if_neg (show ¬b.settleTimers.weather.level = .stow by
    simp [show b.settleTimers.weather.level = .calm from calm])] at eq
  refine ⟨fun d => ?_, _, level, axes, dishes, points, planner, account, site, eq⟩
  have queue : (b.settleTimers.announced .watch why).queue = b.queue := by
    funext d
    simp only [Block.queue, points]
    rfl
  have settled (t : Block) : t.settleTimers.queue = t.queue := rfl
  rw [eq, settled, queue_raiseAll, queue, raised_same (b := b) axes site]

end

/-- Settles O52, clause by clause: the orders, the level by its figures, its changes, and one dish under it. -/
theorem levelRules : Obligations.LevelRules := by
  refine ⟨stowOrders, fun b => ⟨level_fromStow, level_offStow, entersStow, leavesStow, startsWatch, fun d =>
    ⟨takeIntoStow_row b d, contextNow_row b d, raisePoints_row b d, settleBlocks_row b d, pursueStow_row b d,
      finishStow_row b d, leaveStowDish_row b d⟩⟩⟩

end Sys2Proof.Machine
end
